-- ==== Sys2Proof/Word.lean ====
section
/-!
DEFINITION. The plain value types every other file uses: bytes, lanes, triples of numbers, module time, alarm codes.
-/

namespace Sys2Proof

/-- One byte, as frames and memories hold it (00 R10: multi-byte fields are little-endian). -/
abbrev Byte := BitVec 8

/-- A string of bytes: a frame, a message, a record. -/
abbrev Bytes := List Byte

/-- The two lanes (00, Subsystems; 02 R35). -/
inductive Lane where
  | a
  | b
  deriving DecidableEq, Repr, Inhabited

/-- The lane that is not this one. -/
def Lane.other : Lane → Lane
  | .a => .b
  | .b => .a

/-- The code of a lane in frames: 0 lane A, 1 lane B (02 R43). -/
def Lane.code : Lane → Nat
  | .a => 0
  | .b => 1

/-- The three voters and receivers of evidence: lane A, lane B and the Baize (13 R384). -/
inductive Unit3 where
  | lane (l : Lane)
  | baize
  deriving DecidableEq, Repr, Inhabited

/-- Number of a voter in items and objects: 0 lane A, 1 lane B, 2 the Baize (13 R406). -/
def Unit3.index : Unit3 → Nat
  | .lane .a => 0
  | .lane .b => 1
  | .baize => 2

/-- The two other voters (13 R385). -/
def Unit3.others : Unit3 → List Unit3
  | .lane .a => [.lane .b, .baize]
  | .lane .b => [.lane .a, .baize]
  | .baize => [.lane .a, .lane .b]

/-- Three numbers: surge, sway, yaw; north, east, heading; or x, y, z. -/
structure V3 where
  x : Rat
  y : Rat
  z : Rat
  deriving DecidableEq, Repr, Inhabited

/-- Two numbers: north and east, or the two force variables of an actuator. -/
structure V2 where
  x : Rat
  y : Rat
  deriving DecidableEq, Repr, Inhabited

/-- Module time: TAI seconds (48 bits) and nanoseconds in [0, 999 999 999] (00 R8). -/
structure Time where
  s : Nat
  ns : Nat
  deriving DecidableEq, Repr, Inhabited

/-- The areas of alarm and fault codes, in the order of 00 R10. -/
inductive Area where
  | al | an | bz | cl | cv | db | fb | gn | la | ln | lp | nt | ob | pw | rf | sf | tm | vc
  deriving DecidableEq, Repr, Inhabited

/-- An alarm or fault code, for example LN-021 (00 R10). -/
structure Code where
  area : Area
  num : Nat
  deriving DecidableEq, Repr, Inhabited

/-- One entry of the active alarm list: the code, which thing it names (a bus, a feed, an axis; 0 where it names
none), the cause carried, whether the operator has acknowledged it, and the second of module time it was raised in. -/
structure Alarm where
  code : Code
  item : Nat
  cause : Nat
  acked : Bool
  raisedAt : Nat
  deriving DecidableEq, Repr, Inhabited

/-- The number of an area in event keys: AL 0 to VC 17 (16 R469). -/
def Area.index : Area → Nat
  | .al => 0 | .an => 1 | .bz => 2 | .cl => 3 | .cv => 4 | .db => 5 | .fb => 6 | .gn => 7 | .la => 8
  | .ln => 9 | .lp => 10 | .nt => 11 | .ob => 12 | .pw => 13 | .rf => 14 | .sf => 15 | .tm => 16 | .vc => 17

/-- The two upper-case letters of an area (00 R10). -/
def Area.letters : Area → String
  | .al => "AL" | .an => "AN" | .bz => "BZ" | .cl => "CL" | .cv => "CV" | .db => "DB" | .fb => "FB" | .gn => "GN"
  | .la => "LA" | .ln => "LN" | .lp => "LP" | .nt => "NT" | .ob => "OB" | .pw => "PW" | .rf => "RF" | .sf => "SF"
  | .tm => "TM" | .vc => "VC"

end Sys2Proof
end

