-- ==== Sys2Proof/Config.lean ====
section
/-!
DEFINITION. What an installation fixes and what the manual leaves open: the records of the Cellar image as plain data
(03 R89 and the field map each chapter gives), and the free values, constants with no body.
-/

namespace Sys2Proof

/-- The two variants (00 R1). -/
inductive Variant where
  | s
  | x
  deriving DecidableEq, Repr, Inhabited

/-- Feedback channels fitted (00 R1). -/
def Variant.channels : Variant → Nat
  | .s => 12
  | .x => 24

namespace Config

/-! ## Free values: no body, so nothing can be proved of them (log entries 2, 4, 5 and 7 to 18). -/

/-- Whether a result that f32 cannot hold exactly is taken to the neighbour above (the manual states no rounding mode)
(DESIGN CHOICE: log entry 7). -/
opaque roundsUp : Rat → Bool
/-- The square root the module computes, where the exact root is not rational (DESIGN CHOICE: log entry 5). -/
opaque sqrtOpen : Rat → Rat
/-- The sine, cosine and tangent the module computes, of an angle in degrees (DESIGN CHOICE: log entry 4). -/
opaque sinOpen : Rat → Rat
opaque cosOpen : Rat → Rat
opaque tanOpen : Rat → Rat
/-- The arctangent of y, x in degrees, in (-180, 180] (DESIGN CHOICE: log entry 4). -/
opaque atan2Open : Rat → Rat → Rat
/-- The circle constant the module uses to turn degrees into radians (DESIGN CHOICE: log entry 4). -/
opaque pi : Rat
/-- A power with exponent 3/2 of the power law of 09 R273, where the exact value is not rational (DESIGN CHOICE: log entry 5). -/
opaque pow32Open : Rat → Rat
/-- What a field of the problem block holds for a number beyond f32 (09 states none) (DESIGN CHOICE: log entry 8). -/
opaque roundOpen : Rat → Rat
/-- Values of an engine run that met a number that is not finite: run number and index (09 R281)
(DESIGN CHOICE: log entries 2, 8). -/
opaque engineOpen : Nat → Nat → Rat
/-- Position between anchor and candidate where no point meets every row of an actuator (09 R284)
(DESIGN CHOICE: log entry 9). -/
opaque finishOpen : V2 → V2 → Rat
/-- Taps of the resident coefficient sets 0 to 2, of which 14 R413 gives lengths and masks only: slot, tap
(DESIGN CHOICE: log entry 10). -/
opaque firTap : Nat → Nat → Rat
/-- A fresh open value, numbered by State.fresh (DESIGN CHOICE: log entries 2, 18). -/
opaque freshRat : Nat → Rat
opaque freshNat : Nat → Nat
opaque freshByte : Nat → Nat → Byte
/-- Whether a maker token is issued for a serial number, with its response (03 R109) (DESIGN CHOICE: log entry 11). -/
opaque makerTokenValid : Nat → Bytes → Bytes → Bool
/-- Pixels (number and level) that the comms core renders for the content of a region (17 R480; no font is given)
(DESIGN CHOICE: log entry 12). -/
opaque render : Nat → Bytes → List (Nat × Nat)
/-- Value of an object of which the manual gives contents but no layout (15 R459): lane, object, fresh number
(DESIGN CHOICE: log entries 2, 13). -/
opaque objectValue : Nat → Nat → Nat → Bytes
/-- The best master clock algorithm of IEEE 1588-2019: index of the master it selects (15 R443) (DESIGN CHOICE: log entry 14). -/
opaque bestMaster : List (List Nat) → Nat

end Config

end Sys2Proof

namespace Sys2Proof.Machine

/-! ## The records of the Cellar image (03 R89), field names and units as the field maps give them -/

/-- Image header (03 R84). -/
structure ImageHeader where
  imageLength : Nat
  compilerVersion : Nat
  vesselId : Bytes
  creationTime : Nat
  targetVariant : Nat
  firmwareEdition : Nat
  recordCount : Nat
  layoutId : Nat
  deriving DecidableEq, Repr, Inhabited

/-- Twill entry (01 R21). -/
structure TwilEntry where
  sliceId : Nat
  core : Nat
  order : Nat
  frameMask : Nat
  wcet : Nat
  period : Nat
  phase : Nat
  engineStart : Nat
  flags : Nat
  deriving DecidableEq, Repr, Inhabited

/-- VMOD record (07 R228). -/
structure Vmod where
  refPointHull : V3
  m11 : Rat
  m22 : Rat
  m33 : Rat
  m23 : Rat
  d11 : Rat
  d22 : Rat
  d33 : Rat
  d23 : Rat
  d32 : Rat
  dq : V3
  areaFront : Rat
  areaLat : Rat
  loa : Rat
  rhoAir : Nat
  windRamp : Nat
  cx : List Int
  cy : List Int
  cn : List Int
  observerType : Nat
  waveAdapt : Nat
  waveLo : Rat
  waveHi : Rat
  waveInit : Rat
  waveZeta : Rat
  notchZeta : Rat
  omegaC : V3
  k4 : V3
  biasRatio : V3
  biasTc : V3
  qForce : V3
  qBias : V3
  qWave : V3
  initSigmaVel : V3
  initSigmaBias : V3
  drLimitPos : Nat
  drLimitHdg : Nat
  drRatePos : Rat
  drRateHdg : Rat
  originRadius : Rat
  waveMinAmp : Rat
  waveMinAmpHdg : Rat
  waveRate : Rat
  resetK : Rat
  deriving DecidableEq, Repr, Inhabited

/-- THRU entry (09 R289). -/
structure Thru where
  actuator : Nat
  kind : Nat
  flags : Nat
  vertexCount : Nat
  position : V2
  mountAngle : Nat
  powerGroup : Nat
  coupledTo : Nat
  thrustModel : Nat
  axisAngle : Nat
  axisThrust : Nat
  driveBus : Nat
  kPos : Rat
  kNeg : Rat
  unitMax : Rat
  unitRate : Rat
  azRate : Rat
  pMax : Rat
  weight : Rat
  tFloor : Rat
  azHoldThrust : Rat
  sectors : List Nat
  vertices : List (Int × Int)
  deriving DecidableEq, Repr, Inhabited

/-- AXIS entry (10 R321). -/
structure AxisRec where
  axis : Nat
  actuator : Nat
  role : Nat
  ratio : Nat
  channel : Nat
  link : Nat
  outKind : Nat
  analogOut : Nat
  canField : Nat
  safeAction : Nat
  feLatch : Nat
  posScale : Rat
  posOffset : Rat
  spMin : Rat
  spMax : Rat
  feLimit : Rat
  feTime : Nat
  freezeTime : Nat
  freezeRate : Rat
  outZero : Rat
  safeRate : Rat
  parkAngle : Rat
  deriving DecidableEq, Repr, Inhabited

/-- LPMC entry: one program per axis slot (10 R308); each word is its eight bytes. -/
structure Lpmc where
  axis : Nat
  opCount : Nat
  feReg : Nat
  rateReg : Nat
  statusReg : Nat
  words : List Bytes
  deriving DecidableEq, Repr, Inhabited

/-- Power group entry of ALOC (09 R290). -/
structure PowerGroup where
  group : Nat
  source : Nat
  analogIn : Nat
  breakerDi : Nat
  limitKw : Rat
  aiFullKw : Rat
  reserveKw : Rat
  deriving DecidableEq, Repr, Inhabited

/-- ALOC record (09 R290). -/
structure Aloc where
  slackW : V3
  satTol : V3
  residualLimit : Rat
  smoothW : Rat
  fallbackAlarm : Nat
  dualReset : Nat
  transitTimeout : Nat
  sectorHyst : Nat
  groups : List PowerGroup
  deriving DecidableEq, Repr, Inhabited

/-- FBCH entry (11 R351). -/
structure Fbch where
  channel : Nat
  mode : Nat
  flags : Nat
  supply : Nat
  interp : Nat
  ssiBits : Nat
  ssiFormat : Nat
  ssiClock : Nat
  ssiPhase : Nat
  ssiMonoflop : Nat
  indexMode : Nat
  speedMethod : Nat
  modulus : Nat
  indexValue : Int
  indexPeriod : Nat
  indexTol : Nat
  speedWindow : Nat
  ampSamples : Nat
  periodTimeout : Nat
  clearTime : Nat
  ssiMiss : Nat
  supplyOpenMa : Nat
  maxStep : Nat
  deriving DecidableEq, Repr, Inhabited

/-- REFS entry (06 R197). -/
structure RefRec where
  refId : Nat
  kind : Nat
  source : Nat
  format : Nat
  talker : Bytes
  subtype : Nat
  flags : Nat
  leverArm : V3
  mount : V3
  depth : Rat
  rangeA : Rat
  rangeB : Rat
  latency : Nat
  maxAge : Nat
  sigmaMin : Nat
  varLimit : Nat
  varWindow : Nat
  predPersist : Nat
  predK : Nat
  freezeTime : Nat
  freezeRes : Nat
  medianLimit : Nat
  medianPersist : Nat
  driftLimit : Nat
  driftTc : Nat
  returnTime : Nat
  lostTime : Nat
  deriving DecidableEq, Repr, Inhabited

/-- Antenna entry of the GNSS record (05 R170). -/
structure AntennaRec where
  antenna : Nat
  enabled : Nat
  bias : Nat
  biasMax : Nat
  position : V3
  delayHigh : Nat
  delayLow : Nat
  pcoHigh : Int
  pcoLow : Int
  deriving DecidableEq, Repr, Inhabited

/-- GNSS record (05 R169). -/
structure GnssRec where
  systems : Nat
  bands : Nat
  elevationMask : Nat
  cn0Min : Nat
  cn0Drop : Nat
  coldSums : Nat
  weakSums : Nat
  solutionModes : Nat
  weights : List Nat
  sbasPrn : Nat
  rtcmSource : Nat
  rtkAgeMax : Nat
  ratioMin : Nat
  residualK : Nat
  crossAntLimit : Nat
  crossLaneLimit : Nat
  crossLaneSig : Nat
  dopplerLimit : Nat
  clockStepLimit : Nat
  clockDriftLimit : Nat
  cn0High : Nat
  cn0Jump : Nat
  noiseJump : Nat
  aoaLimit : Nat
  readmitTime : Nat
  offsetLimit : Nat
  offsetPersist : Nat
  pllBw : Nat
  dllBw : Nat
  ephMaxAge : Nat
  antennas : List AntennaRec
  deriving DecidableEq, Repr, Inhabited

/-- Acceptance filter of CANB (12 R377). -/
structure CanFilter where
  id : Nat
  mask : Nat
  deriving DecidableEq, Repr, Inhabited

/-- CANB entry (12 R377). -/
structure Canb where
  bus : Nat
  flags : Nat
  nomBrp : Nat
  nomTseg1 : Nat
  nomTseg2 : Nat
  nomSjw : Nat
  dataBrp : Nat
  dataTseg1 : Nat
  dataTseg2 : Nat
  dataSjw : Nat
  tdcOffset : Nat
  filterCount : Nat
  filters : List CanFilter
  deriving DecidableEq, Repr, Inhabited

/-- Field of a CANP frame layout (12 R379). -/
structure CanField where
  kind : Nat
  index : Nat
  offset : Nat
  type : Nat
  scale : Rat
  deriving DecidableEq, Repr, Inhabited

/-- CANP frame layout (12 R379). -/
structure CanFrameRec where
  frame : Nat
  direction : Nat
  bus : Nat
  flags : Nat
  identifier : Nat
  length : Nat
  timeout : Nat
  frameMask : Nat
  fields : List CanField
  deriving DecidableEq, Repr, Inhabited

/-- CANP record (12 R378). -/
structure Canp where
  profile : Nat
  laneMarks : Nat
  laneMarkId : Nat
  driveTimeout : Nat
  statusTimeout : Nat
  commandSlot : Nat
  statusSlot : Nat
  frames : List CanFrameRec
  deriving DecidableEq, Repr, Inhabited

/-- Safety function of the SAFE record (13 R404). -/
structure SafeInst where
  inst : Nat
  function : Nat
  inputA : Nat
  inputB : Nat
  outputs : Nat
  resetInput : Nat
  flags : Nat
  simultaneity : Nat
  deriving DecidableEq, Repr, Inhabited

/-- SAFE record (13 R404); `hash` is the SHA-256 of its payload, carried in exchange frames (13 R387). -/
structure SafeRec where
  inputMode : List Nat
  inputFilter : List Nat
  discTime : List Nat
  outputsUsed : Nat
  testPulses : Nat
  insts : List SafeInst
  hash : Bytes
  deriving DecidableEq, Repr, Inhabited

/-- ANIN entry (14 R421). -/
structure Anin where
  channel : Nat
  range : Nat
  cicR : Nat
  firD : Nat
  coeffSet : Nat
  altSet : Nat
  flags : Nat
  xLo : Rat
  xHi : Rat
  engLo : Rat
  engHi : Rat
  dcFc : Rat
  dcFreeze : Rat
  oorSamples : Nat
  clearTime : Nat
  loLimit : Rat
  hiLimit : Rat
  deriving DecidableEq, Repr, Inhabited

/-- ANOU entry (14 R426). -/
structure Anou where
  output : Nat
  range : Nat
  source : Nat
  scale : Rat
  offset : Rat
  safeValue : Rat
  objTimeout : Nat
  readbackTol : Nat
  deriving DecidableEq, Repr, Inhabited

/-- SERP entry (06 R176). -/
structure Serp where
  port : Nat
  electrical : Nat
  framing : Nat
  charFormat : Nat
  bitRate : Nat
  termination : Nat
  deriving DecidableEq, Repr, Inhabited

/-- Stream entry of NETW (15 R438). -/
structure StreamRec where
  kind : Nat
  port : Nat
  address : Nat
  sourceId : Bytes
  sourceNumber : Nat
  deriving DecidableEq, Repr, Inhabited

/-- NETW record (15 R438). -/
structure Netw where
  ctrlIpA : Nat
  ctrlIpB : Nat
  ctrlMaskLen : Nat
  nodeForget : Nat
  ctrlGateway : Nat
  svcIpA : Nat
  svcIpB : Nat
  svcMaskLen : Nat
  sessionTimeout : Nat
  streams : List StreamRec
  deriving DecidableEq, Repr, Inhabited

/-- Pulse generator setting of TIME (15 R452). -/
structure PulseRec where
  mode : Nat
  polarity : Nat
  width : Nat
  deriving DecidableEq, Repr, Inhabited

/-- TIME record (15 R452). -/
structure TimeRec where
  sourceOrder : List Nat
  ptpRole : Nat
  ptpDomain : Nat
  ptpDelay : Nat
  priority1 : Nat
  priority2 : Nat
  logAnnounce : Int
  logSync : Int
  logMinDelayReq : Int
  announceTimeout : Nat
  ppsIn : Nat
  ptpTransport : Nat
  ppsInDelay : List Int
  pulses : List PulseRec
  deriving DecidableEq, Repr, Inhabited

/-- Mode entry of MODE (08 R261). -/
structure ModeEntry where
  mode : Nat
  enabled : Nat
  gainBank : Nat
  flags : Nat
  param : List Rat
  deriving DecidableEq, Repr, Inhabited

/-- MODE record (08 R260). -/
structure ModeRec where
  joystickSource : Nat
  joystickAi : List Nat
  joystickDeadband : Nat
  joystickTimeout : Nat
  joystickScale : V3
  consMargin : Nat
  consPersist : Nat
  targetRef : Nat
  consTol : V3
  gwDo : Nat
  gwMinRefs : Nat
  trackSpeedMax : Rat
  trackXteMax : Rat
  targetSpeedMax : Rat
  targetLostTime : Nat
  biasReleaseTime : Nat
  modes : List ModeEntry
  deriving DecidableEq, Repr, Inhabited

/-- Gain bank of GAIN (08 R241). -/
structure GainBank where
  bank : Nat
  name : Bytes
  kp : V3
  kd : V3
  ki : V3
  eKnee : V3
  kneeRatio : V3
  integMax : V3
  demandMax : V3
  demandRate : V3
  windFf : V3
  biasFf : V3
  accelFf : Rat
  refOmega : V3
  refSpeedMax : V2
  refAccelMax : V2
  deriving DecidableEq, Repr, Inhabited

/-- FGRP entry (08 R259). -/
structure FailGroup where
  group : Nat
  kind : Nat
  label : Nat
  actuators : Nat
  powerGroups : Nat
  powerShare : Nat
  deriving DecidableEq, Repr, Inhabited

/-- Station entry of ROLE (03 R93). -/
structure Station where
  station : Nat
  kind : Nat
  rights : Nat
  keyId : Nat
  address : Nat
  deriving DecidableEq, Repr, Inhabited

/-- ROLE record (03 R92, 02 R72). -/
structure RoleRec where
  homeLane : Nat
  partnerRole : Nat
  revertHoldoff : Nat
  shadowPosLimit : Nat
  shadowHeadingLimit : Nat
  partnerAuto : Nat
  partnerDi : Nat
  partnerDo : Nat
  writeTimeout : Nat
  stations : List Station
  deriving DecidableEq, Repr, Inhabited

/-- Selection entry of LARD (16 R471). -/
structure LardSel where
  item : Nat
  first : Nat
  count : Nat
  lo : Rat
  width : Rat
  deriving DecidableEq, Repr, Inhabited

/-- LARD record (16 R471); `crc` is the CRC-32C of its payload (16 R470), 0 for the defaults. -/
structure LardRec where
  floodWindow : Nat
  sels : List LardSel
  crc : Nat
  deriving DecidableEq, Repr, Inhabited

/-- CANV record (17 R492). -/
structure CanvRec where
  lightLevel : Nat
  alarmLines : Nat
  errorRes : Nat
  refreshPeriod : Nat
  idleRails : Nat
  deriving DecidableEq, Repr, Inhabited

/-- A whole image as a lane runs it: every record of 03 R89 with the defaults of those that may be absent. -/
structure Image where
  header : ImageHeader
  twil : List TwilEntry
  vmod : Vmod
  thru : List Thru
  axes : List AxisRec
  lpmc : List Lpmc
  aloc : Aloc
  fbch : List Fbch
  refs : List RefRec
  gnss : GnssRec
  canb : List Canb
  canp : Canp
  safe : SafeRec
  anin : List Anin
  anou : List Anou
  serp : List Serp
  netw : Netw
  time : TimeRec
  mode : ModeRec
  gain : List GainBank
  fgrp : Option (List FailGroup)
  role : RoleRec
  lard : Option LardRec
  canv : CanvRec
  hash : Bytes
  deriving DecidableEq, Repr, Inhabited

end Sys2Proof.Machine
end

