-- ==== Sys2Proof/Machine/Num.lean ====
section
/-!
DEFINITION. Numbers: exact rational arithmetic with the free values the manual leaves (rounding to f32, roots and
circular functions), the wrapping and saturating arithmetic of counters, and angles.
-/

namespace Sys2Proof.Machine

/-! ## Integers and counters -/

/-- A counter of `bits` bits that saturates (00 R8 and the saturating fields of the records). -/
def satInc (bits n : Nat) : Nat := min (n + 1) (2 ^ bits - 1)

/-- A value held at its saturation limit. -/
def satTo (bits n : Nat) : Nat := min n (2 ^ bits - 1)

/-- a is newer than b in a counter of `bits` bits: (a - b) modulo 2^bits lies in [1, 2^(bits-1) - 1] (02 R42). -/
def newer (bits a b : Nat) : Bool :=
  let d := (a + 2 ^ bits - b % 2 ^ bits) % 2 ^ bits
  decide (1 ≤ d) && decide (d ≤ 2 ^ (bits - 1) - 1)

/-- The newer of two sequence values (02 R42). -/
def newest (bits a b : Nat) : Nat := if newer bits b a then b else a

/-- Clamp to an interval. -/
def clampQ (lo hi x : Rat) : Rat := if x < lo then lo else if hi < x then hi else x

/-- Clamp an integer to an interval. -/
def clampI (lo hi x : Int) : Int := if x < lo then lo else if hi < x then hi else x

/-- Absolute value of a rational. -/
def absQ (x : Rat) : Rat := if x < 0 then -x else x

/-- Larger and smaller of two rationals. -/
def maxQ (x y : Rat) : Rat := if x < y then y else x
def minQ (x y : Rat) : Rat := if y < x then y else x

/-- Two's complement reading of the low `bits` bits of a natural number. -/
def signed (bits n : Nat) : Int :=
  let m := n % 2 ^ bits
  if m < 2 ^ (bits - 1) then (m : Int) else (m : Int) - (2 ^ bits : Nat)

/-- The two's complement bits of an integer. -/
def unsigned (bits : Nat) (x : Int) : Nat := (x % ((2 ^ bits : Nat) : Int)).toNat

/-- Bit k of a number. -/
def bitOf (n k : Nat) : Bool := n.testBit k

/-- A Bool as a number. -/
def b2n (b : Bool) : Nat := if b then 1 else 0

/-! ## f32 values (03 R88 and the f32 fields; 09 R279, 10 R302) -/

/-- The greatest e with 2^e ≤ q, for a positive rational q = num / den. -/
def floorLog2 (num den : Nat) : Int :=
  let e := (num.log2 : Int) - (den.log2 : Int)
  -- e is the answer or one more than it
  let ok := if e < 0 then den ≤ num * 2 ^ e.natAbs else den * 2 ^ e.natAbs ≤ num
  if ok then e else e - 1

/-- The unit in the last place of f32 at a non-zero rational. -/
def f32Ulp (q : Rat) : Rat :=
  let e := max (floorLog2 q.num.natAbs q.den) (-126) - 23
  if e < 0 then 1 / ((2 ^ e.natAbs : Nat) : Rat) else ((2 ^ e.natAbs : Nat) : Rat)

/-- The greatest finite f32 magnitude. -/
def f32Max : Rat := (2 ^ 128 - 2 ^ 104 : Nat)

/-- A result as f32 arithmetic delivers it: itself where f32 holds it, else one of its two neighbours (the manual states
no rounding mode: which one is the free value `Config.roundsUp`), none where it is not finite (DESIGN CHOICE: log entry 7). -/
def f32Round (q : Rat) : Option Rat :=
  if q = 0 then some 0
  else
    let u := f32Ulp q
    let k := (q / u).floor
    let r : Rat := if (k : Rat) * u = q then q
      else if Config.roundsUp q then ((k : Rat) + 1) * u else (k : Rat) * u
    if f32Max < absQ r then none else some r

/-- The value of 32 bits read as f32; none where it is an infinity or not a number. -/
def f32Value (w : Nat) : Option Rat :=
  let s := w.testBit 31
  let e : Nat := (w / 2 ^ 23) % 256
  let m : Nat := w % 2 ^ 23
  if e = 255 then none
  else
    let mag : Rat :=
      if e = 0 then (m : Rat) / ((2 ^ 149 : Nat) : Rat)
      else if e < 150 then ((m + 2 ^ 23 : Nat) : Rat) / ((2 ^ (150 - e) : Nat) : Rat)
      else (((m + 2 ^ 23) * 2 ^ (e - 150) : Nat) : Rat)
    some (if s then -mag else mag)

/-- The 32 bits of an f32 value; a value f32 does not hold is taken to a neighbour first (DESIGN CHOICE: log entry 7). -/
def f32Bits (q : Rat) : Nat :=
  match f32Round q with
  | none => if q < 0 then 0xFF800000 else 0x7F800000
  | some r =>
    if r = 0 then 0
    else
      let a := absQ r
      let e := max (floorLog2 a.num.natAbs a.den) (-126)
      let u := f32Ulp a
      let m : Nat := (a / u).floor.toNat
      let sgn : Nat := if r < 0 then 2 ^ 31 else 0
      if m < 2 ^ 23 then sgn + m else sgn + (e + 127).toNat * 2 ^ 23 + (m - 2 ^ 23)

/-! ## Roots, circular functions, angles -/

/-- The square root: exact where rational, else the free value (07, 08: the manual states no algorithm)
(DESIGN CHOICE: log entry 5). -/
def sqrtQ (q : Rat) : Rat :=
  if q ≤ 0 then 0
  else
    let n := q.num.natAbs.sqrt
    let d := q.den.sqrt
    if n * n = q.num.natAbs ∧ d * d = q.den then (n : Rat) / (d : Rat) else Config.sqrtOpen q

/-- An angle in [0, 360) (00 R6). -/
def wrap360 (a : Rat) : Rat := a - 360 * ((a / 360).floor : Rat)

/-- An angle in (-180, 180]. -/
def wrap180 (a : Rat) : Rat :=
  let w := wrap360 a
  if 180 < w then w - 360 else w

/-- Sine of an angle in degrees: exact at multiples of 90 degrees (DESIGN CHOICE: log entry 4). -/
def sinQ (a : Rat) : Rat :=
  let w := wrap360 a
  if w = 0 then 0 else if w = 90 then 1 else if w = 180 then 0 else if w = 270 then -1 else Config.sinOpen w

/-- Cosine of an angle in degrees: exact at multiples of 90 degrees (DESIGN CHOICE: log entry 4). -/
def cosQ (a : Rat) : Rat :=
  let w := wrap360 a
  if w = 0 then 1 else if w = 90 then 0 else if w = 180 then -1 else if w = 270 then 0 else Config.cosOpen w

/-- Tangent of an angle in degrees: 0 at multiples of 180 degrees (DESIGN CHOICE: log entry 4). -/
def tanQ (a : Rat) : Rat :=
  let w := wrap360 a
  if w = 0 then 0 else if w = 180 then 0 else Config.tanOpen w

/-- Direction of the vector (x, y) in degrees, clockwise from x: exact on the axes; 0 for the null vector
(DESIGN CHOICE: log entry 4). -/
def atan2Q (y x : Rat) : Rat :=
  if x = 0 ∧ y = 0 then 0
  else if y = 0 then (if 0 < x then 0 else 180)
  else if x = 0 then (if 0 < y then 90 else -90)
  else Config.atan2Open y x

/-- Length of a vector. -/
def hypotQ (x y : Rat) : Rat :=
  if x = 0 then absQ y else if y = 0 then absQ x else sqrtQ (x * x + y * y)

/-- Radians of an angle in degrees, with the circle constant the module uses (DESIGN CHOICE: log entry 4). -/
def radQ (a : Rat) : Rat := a * Config.pi / 180

/-- Degrees of an angle in radians (DESIGN CHOICE: log entry 4). -/
def degQ (a : Rat) : Rat := a * 180 / Config.pi

/-! ## Triples -/

def V3.zero : V3 := ⟨0, 0, 0⟩
def V3.add (a b : V3) : V3 := ⟨a.x + b.x, a.y + b.y, a.z + b.z⟩
def V3.sub (a b : V3) : V3 := ⟨a.x - b.x, a.y - b.y, a.z - b.z⟩
def V3.scale (k : Rat) (a : V3) : V3 := ⟨k * a.x, k * a.y, k * a.z⟩
def V3.mulc (a b : V3) : V3 := ⟨a.x * b.x, a.y * b.y, a.z * b.z⟩
def V3.map (f : Rat → Rat) (a : V3) : V3 := ⟨f a.x, f a.y, f a.z⟩
def V3.zip (f : Rat → Rat → Rat) (a b : V3) : V3 := ⟨f a.x b.x, f a.y b.y, f a.z b.z⟩

/-- Horizontal vector turned from the body frame to north-east by a heading in degrees (00 R6). -/
def toNorthEast (hdg : Rat) (v : V2) : V2 :=
  ⟨cosQ hdg * v.x - sinQ hdg * v.y, sinQ hdg * v.x + cosQ hdg * v.y⟩

/-- Horizontal vector turned from north-east to the body frame. -/
def toBody (hdg : Rat) (v : V2) : V2 :=
  ⟨cosQ hdg * v.x + sinQ hdg * v.y, -sinQ hdg * v.x + cosQ hdg * v.y⟩

/-! ## Lists -/

/-- Entry n of a list with a default. -/
def nth {α : Type} (d : α) (xs : List α) (n : Nat) : α := xs.getD n d

/-- A list with entry n replaced by a function of it. -/
def modNth {α : Type} (xs : List α) (n : Nat) (f : α → α) : List α := xs.modify n f

/-- Sum of rationals. -/
def sumQ (xs : List Rat) : Rat := xs.foldl (· + ·) 0

/-- Sum of naturals. -/
def sumN (xs : List Nat) : Nat := xs.foldl (· + ·) 0

end Sys2Proof.Machine
end

