-- ==== Sys2Proof/Machine/Codes.lean ====
section
/-!
DEFINITION. Codes as operations: what a check asks of a unit's active code list (00 R10).
-/

namespace Sys2Proof.Machine

/-- What is done to a code about a thing (a bus, a feed, an axis; 0 where the code names none): raise it (an occurrence
each time), hold it while its condition lasts (an occurrence only when it was not active), or clear it. -/
inductive AlarmOp where
  | raise (code : Code) (item cause : Nat)
  | hold (code : Code) (item cause : Nat)
  | clear (code : Code) (item : Nat)
  deriving DecidableEq, Repr, Inhabited

/-- Raise while a condition holds, clear when it does not. -/
def AlarmOp.whileOn (on : Bool) (code : Code) (item cause : Nat) : AlarmOp :=
  if on then .hold code item cause else .clear code item

/-- Raise where a condition holds, else nothing. -/
def AlarmOp.ifOn (on : Bool) (code : Code) (item cause : Nat) : List AlarmOp :=
  if on then [.raise code item cause] else []

/-- Whether a list holds a code about a thing (DESIGN CHOICE: log entry 28). -/
def hasAlarm (as : List Alarm) (c : Code) (item : Nat) : Bool :=
  as.any fun a => decide (a.code = c) && a.item == item

/-- The list after an operation: a code already present keeps its entry (with the newer cause) (DESIGN CHOICE: log entry 28). -/
def AlarmOp.apply (as : List Alarm) : AlarmOp → List Alarm
  | .raise c item cause =>
    if hasAlarm as c item then as.map fun a => if a.code = c ∧ a.item = item then { a with cause := cause } else a
    else as ++ [⟨c, item, cause, false, 0⟩]
  | .hold c item cause => if hasAlarm as c item then as else as ++ [⟨c, item, cause, false, 0⟩]
  | .clear c item => as.filter fun a => !(decide (a.code = c) && a.item == item)

/-- A code about a thing that an operation adds to the list carries the second it was raised in (DEDUCED: log entry 61). -/
def AlarmOp.stamp (before after : List Alarm) (second : Nat) : List Alarm :=
  after.map fun a => if hasAlarm before a.code a.item then a else { a with raisedAt := second }

/-- Whether an operation is an occurrence of its code, given the list before it. -/
def AlarmOp.occurs (as : List Alarm) : AlarmOp → Option (Code × Nat)
  | .raise c _ cause => some (c, cause)
  | .hold c item cause => if hasAlarm as c item then none else some (c, cause)
  | .clear _ _ => none

end Sys2Proof.Machine
end

