-- ==== Sys2Proof/Machine/TypesCanvas.lean ====
section
/-!
DEFINITION. Plain-data types of the Canvas front panel and its controller (17).
-/

namespace Sys2Proof.Machine

/-- Rails of the panel (17 R481): steps 0 to 5 name 3.3 V, VGL, VSL, VGH, VSH, VCOM. -/
inductive Rails where
  | down
  /-- Rails up to this step are on; its condition is awaited. -/
  | rising (step : Nat)
  | up
  /-- Rails above this step are off; this one has been switched off and must fall below 10 %. -/
  | falling (step : Nat)
  deriving DecidableEq, Repr, Inhabited

/-- An image in canonical form: pixel number (400 y + x) and level, strictly rising, level 0 not listed. -/
abbrev Pixels := List (Nat × Nat)

/-- Charge counts in canonical form: pixel number and count, count 0 not listed. -/
abbrev Charges := List (Nat × Int)

/-- One region (17 R486, R487). -/
structure CanvasRegion where
  /-- Record: 0 idle, 1 running, 2 interrupted; last phase completed; old and target images. -/
  state : Nat
  phase : Nat
  old : Pixels
  target : Pixels
  /-- Balancing phases left before phase 1 (17 R484). -/
  balance : Nat
  pending : Option Pixels
  coalesced : Nat
  completed : Nat
  deriving DecidableEq, Repr, Inhabited

/-- The panel, its controller and the Canvas part of the Attic. -/
structure CanvasState where
  /-- The controller runs. -/
  running : Bool
  rails : Rails
  /-- Consecutive rail misses; controller ticks of the wait for a retry. -/
  misses : Nat
  retryWait : Option Nat
  /-- Controller ticks without an update running or pending. -/
  idle : Nat
  /-- Updates stopped: 0 no, 1 CV-001 (third miss), 3 CV-003. -/
  stopped : Nat
  light : Bool
  lightLevel : Nat
  idleRails : Nat
  /-- 0.1 °C, ohms; outside the range; controller ticks inside it. -/
  temperature : Int
  crackOhm : Nat
  cold : Bool
  inRange : Nat
  /-- Phases left of the balanced clear: balancing, then six of drive (17 R485). -/
  clearing : Option Nat
  image : Pixels
  counts : Charges
  regions : List CanvasRegion
  deriving DecidableEq, Repr, Inhabited

end Sys2Proof.Machine
end

