-- ==== Sys2Proof/Machine/Canvas.lean ====
section
/-!
DEFINITION. The Canvas panel controller (17): rails, waveforms and charge counts, region updates, start, temperature,
crack loop and power loss.
-/

namespace Sys2Proof.Machine

/-! ## Pixels (17 R479, R483) -/

/-- Position and size of a region: x, y, width, height (17 R479). -/
def regionRect (n : Nat) : Nat × Nat × Nat × Nat :=
  match n with
  | 0 => (0, 0, 400, 40)
  | 1 => (0, 40, 400, 60)
  | 2 => (0, 100, 200, 60)
  | 3 => (200, 100, 200, 60)
  | _ => (0, 160, 400, 140)

/-- Whether a pixel lies in a region. -/
def inRegion (n p : Nat) : Bool :=
  let (x, y, w, h) := regionRect n
  decide (x ≤ p % 400) && decide (p % 400 < x + w) && decide (y ≤ p / 400) && decide (p / 400 < y + h)

/-- Level of a pixel. -/
def levelAt (img : Pixels) (p : Nat) : Nat := match img.find? fun q => q.1 == p with | some q => q.2 | none => 0

/-- Count of a pixel. -/
def countAt (cs : Charges) (p : Nat) : Int := match cs.find? fun q => q.1 == p with | some q => q.2 | none => 0

/-- Insert a pixel by number. -/
def insertPix {α : Type} (q : Nat × α) : List (Nat × α) → List (Nat × α)
  | [] => [q]
  | r :: rs => if q.1 < r.1 then q :: r :: rs else if q.1 = r.1 then q :: rs else r :: insertPix q rs

/-- Canonical form of the part of an image that lies in a region (DESIGN CHOICE: log entry 12). -/
def canonPixels (n : Nat) (ps : List (Nat × Nat)) : Pixels :=
  (ps.filter fun q => inRegion n q.1 && decide (0 < q.2 ∧ q.2 < 4)).foldl (fun acc q => insertPix q acc) []

/-- An image with the pixels of a region replaced. -/
def putRegion {α : Type} (n : Nat) (all part : List (Nat × α)) : List (Nat × α) :=
  part.foldl (fun acc q => insertPix q acc) (all.filter fun q => !inRegion n q.1)

/-- Counts of an image at rest: 2 g. -/
def restCounts (ps : Pixels) : Charges := ps.map fun q => (q.1, (2 * q.2 : Nat))

/-- Pixels of a region whose count differs from twice their level (17 R484). -/
def unbalanced (n : Nat) (img : Pixels) (cs : Charges) : List Nat :=
  ((img.map (·.1) ++ cs.map (·.1)).filter fun p => inRegion n p && countAt cs p != (2 * levelAt img p : Nat)).eraseDups

/-- Phases that balance counts: two scans a phase. -/
def balancePhases (cs : List Int) : Nat := cs.foldl (fun m c => max m ((c.natAbs + 1) / 2)) 0

/-- Count of a changing pixel after phase p of an update (17 R483, R488). -/
def countInPhase (gOld gNew p : Nat) : Int :=
  (2 * gOld : Nat) - (2 * min p (min 3 gOld) : Nat) + (if 4 ≤ p then 2 else 0) - (if 5 ≤ p then 2 else 0)
    + (2 * min (p - 5) gNew : Nat)

/-! ## Regions (17 R484 to R487) -/

/-- Whether a region's update runs. -/
def CanvasRegion.busy (r : CanvasRegion) : Bool := r.state == 1

/-- Whether updates may start (17 R481, R489, R490). -/
def CanvasState.mayStart (c : CanvasState) : Bool :=
  c.running && c.stopped == 0 && !c.cold && c.clearing.isNone

/-- Counts of the changing pixels of an interrupted region, from its record (17 R488) (DESIGN CHOICE: log entry 85). -/
def CanvasState.rebuild (c : CanvasState) (n : Nat) : CanvasState :=
  let r := nth default c.regions n
  if r.state = 0 then c
  else
    let changing := ((r.old.map (·.1) ++ r.target.map (·.1)).eraseDups).filter fun p => levelAt r.old p != levelAt r.target p
    let cs := changing.foldl (fun cs p =>
      let v := countInPhase (levelAt r.old p) (levelAt r.target p) r.phase
      if v = 0 then cs.filter fun q => q.1 != p else insertPix (p, v) cs) c.counts
    { c with counts := cs }

/-- Start the pending request of an idle region; the counts of an interrupted one are those its record gives (17 R484, R488). -/
def CanvasState.startRegion (c : CanvasState) (n : Nat) : CanvasState :=
  let r := nth default c.regions n
  match r.pending with
  | some t =>
    if r.busy then c
    else
      let c := if r.state = 2 then c.rebuild n else c
      let bad := unbalanced n c.image c.counts
      let old := (c.image.filter fun q => inRegion n q.1 && !bad.contains q.1)
      { c with regions := c.regions.set n
                 { r with state := 1, phase := 0, old := old, target := t, pending := none,
                          balance := balancePhases (bad.map (countAt c.counts)) } }
  | none => c

/-- One phase of a running update: at its completion the image and the counts are written (17 R483, R486). -/
def CanvasState.advanceRegion (c : CanvasState) (n : Nat) : CanvasState :=
  let r := nth default c.regions n
  if !r.busy then c
  else if r.balance ≠ 0 then { c with regions := c.regions.set n { r with balance := r.balance - 1 } }
  else if r.phase + 1 < 8 then { c with regions := c.regions.set n { r with phase := r.phase + 1 } }
  else
    { c with image := putRegion n c.image r.target, counts := putRegion n c.counts (restCounts r.target),
             regions := c.regions.set n { r with state := 0, phase := 8, completed := r.completed + 1 } }

/-- A phase boundary (17 R482, R485 to R487) (DESIGN CHOICE: log entry 85). -/
def CanvasState.boundary (c : CanvasState) : CanvasState :=
  if c.rails ≠ .up ∨ !c.running then c
  else
    match c.clearing with
    | some n =>
      if 1 < n then { c with clearing := some (n - 1) }
      else { c with clearing := none, image := [], counts := [], light := true,
                    regions := c.regions.map fun (r : CanvasRegion) => { r with state := 0, old := [], target := [] } }
    | none =>
      let c := (List.range 5).foldl CanvasState.advanceRegion c
      if c.mayStart then (List.range 5).foldl CanvasState.startRegion c else c

/-- Whether any update runs or waits. -/
def CanvasState.work (c : CanvasState) : Bool :=
  c.clearing.isSome || c.regions.any fun r => r.busy || r.pending.isSome

/-- Rails rise where they are down and updates are allowed. -/
def CanvasState.rise (c : CanvasState) : CanvasState :=
  if c.rails = .down ∧ c.stopped = 0 ∧ c.cold = false ∧ c.retryWait = none ∧ c.running = true then { c with rails := .rising 0 } else c

/-- A region request (17 R481, R487) (DESIGN CHOICE: log entry 85). -/
def CanvasState.request (c : CanvasState) (n : Nat) (img : Pixels) : CanvasState :=
  if !c.running || c.stopped != 0 then c
  else
    let c := { c with regions := modNth c.regions n fun r =>
                        { r with pending := some img, coalesced := if r.pending.isSome then r.coalesced + 1 else r.coalesced },
                      idle := 0 }
    c.rise

/-- Updates stop: pending requests are discarded, running updates are marked interrupted after their present phase
(17 R487, R490, R491) (DESIGN CHOICE: log entry 85). -/
def CanvasState.interrupt (c : CanvasState) (finishPhase : Bool) : CanvasState :=
  let c := if finishPhase then (List.range 5).foldl CanvasState.advanceRegion c else c
  { c with regions := c.regions.map fun r => { r with pending := none, state := if r.state = 1 then 2 else r.state } }

/-! ## Rails (17 R481) -/

/-- What the controller measures at its tick: the awaited rail's condition, temperature in 0.1 °C. -/
structure CanvasIn where
  railOk : Bool
  temperature : Int
  deriving DecidableEq, Repr, Inhabited

/-- A rail misses its condition: CV-001, rails fall; a third consecutive miss stops updates (DESIGN CHOICE: log entry 85). -/
def CanvasState.railMiss (c : CanvasState) (step : Nat) : CanvasState × List AlarmOp :=
  let m := c.misses + 1
  let c := { c.interrupt false with rails := .falling step, misses := m, stopped := if 3 ≤ m then 1 else c.stopped,
                                    retryWait := if 3 ≤ m then none else some 0 }
  (c, [.raise ⟨.cv, 1⟩ 0 step])

/-- The controller's 1 ms tick (17 R481, R489) (DESIGN CHOICE: log entry 85). -/
def CanvasState.tick (i : CanvasIn) (c : CanvasState) : CanvasState × List AlarmOp :=
  if !c.running then (c, [])
  else
    let out := decide (i.temperature < 0) || decide (600 ≤ i.temperature)
    let newly := out && !c.cold
    let c := { c with temperature := i.temperature, cold := c.cold || out, inRange := if out then 0 else c.inRange + 1,
                      retryWait := c.retryWait.map (· + 1), idle := if c.work then 0 else c.idle + 1 }
    -- CV-020: no update starts, running updates complete (17 R487, R489)
    let c := if newly then { c with regions := c.regions.map fun (r : CanvasRegion) => { r with pending := none } } else c
    let ops := AlarmOp.ifOn newly ⟨.cv, 20⟩ 0 0
    match c.rails with
    | .down => (if c.work then c.rise else c, ops)
    | .rising n =>
      if !i.railOk then let (c, o) := c.railMiss n; (c, ops ++ o)
      else if n < 5 then ({ c with rails := .rising (n + 1) }, ops)
      else ({ c with rails := .up, misses := 0 }, ops ++ [.clear ⟨.cv, 1⟩ 0])
    | .up => if i.railOk then (c, ops) else let (c, o) := c.railMiss 5; (c, ops ++ o)
    | .falling n =>
      if !i.railOk then (c, ops)
      else (if n = 0 then { c with rails := .down } else { c with rails := .falling (n - 1) }, ops)

/-- idle_rails without work: the rails fall (17 R481). -/
def CanvasState.railsIdle (c : CanvasState) : CanvasState :=
  if c.rails = .up ∧ c.work = false ∧ c.idleRails ≤ c.idle then { c with rails := .falling 5 } else c

/-- 10 s after a miss (17 R481). -/
def CanvasState.retry (c : CanvasState) : CanvasState :=
  match c.retryWait with
  | some n => if 10000 ≤ n ∧ c.stopped = 0 then { c with retryWait := none }.rise else c
  | none => c

/-! ## Crack loop, temperature, power loss, start (17 R488 to R491) -/

/-- The crack loop is measured (17 R490). -/
def CanvasState.crackCheck (c : CanvasState) (ohm : Nat) : CanvasState × List AlarmOp :=
  if !c.running then (c, [])
  else if 1000 ≤ ohm then
    ({ c.interrupt true with crackOhm := ohm, stopped := 3, light := false, clearing := none,
                             rails := match c.rails with | .down => .down | .falling n => .falling n | .rising n => .falling n | .up => .falling 5 },
      [.raise ⟨.cv, 3⟩ 0 0])
  else ({ c with crackOhm := ohm }, [])

/-- 60 s inside the temperature range (17 R489). -/
def CanvasState.temperatureClear (c : CanvasState) : CanvasState × List AlarmOp :=
  if c.cold ∧ 60000 ≤ c.inRange then
    let c := { c with cold := false }
    (if c.work then c.rise else c, [.clear ⟨.cv, 20⟩ 0])
  else (c, [])

/-- Power-fail from both lanes (17 R491): phase finished, records written, rails taken down in order; the whole sequence. -/
def CanvasState.powerFail (c : CanvasState) : CanvasState :=
  if !c.running then c
  else { c.interrupt true with light := false, running := false, clearing := none, retryWait := none, rails := .down }

/-- The controller starts (17 R488): `readable` says that image and counts pass their CRC. -/
def CanvasState.start (c : CanvasState) (readable : Bool) (ohm light idleRails : Nat) : CanvasState × List AlarmOp :=
  let cut := (c.regions.mapIdx fun n r => AlarmOp.ifOn (decide (r.state ≠ 0)) ⟨.cv, 2⟩ n 0).flatten
  let c : CanvasState := if readable then (List.range 5).foldl CanvasState.rebuild c else { c with counts := [] }
  let closed := decide (ohm < 1000)
  let phases := balancePhases (c.counts.map (·.2)) + 6
  let c := { c with running := true, rails := .down, misses := 0, retryWait := none, idle := 0, crackOhm := ohm,
                    stopped := if closed then 0 else 3, light := false, lightLevel := light, idleRails := idleRails,
                    cold := false, inRange := 0, clearing := if closed then some phases else none,
                    regions := c.regions.map fun (r : CanvasRegion) => { r with state := 0, pending := none, balance := 0 } }
  (c.rise, cut ++ AlarmOp.ifOn (!readable) ⟨.cv, 10⟩ 0 0 ++
    [if closed then .clear ⟨.cv, 3⟩ 0 else .raise ⟨.cv, 3⟩ 0 0, .clear ⟨.cv, 1⟩ 0, .clear ⟨.cv, 20⟩ 0])

/-- canvas.restart: the controller stops where it stands, and starts again by 17 R488. -/
def CanvasState.restart (c : CanvasState) : CanvasState :=
  { c with running := false, rails := .down, light := false, clearing := none, stopped := 0, misses := 0, retryWait := none,
           regions := c.regions.map fun (r : CanvasRegion) => { r with pending := none } }

end Sys2Proof.Machine
end

