-- ==== Sys2Proof/Machine/Crypto.lean ====
section
/-!
DEFINITION. Byte strings: little-endian fields (00 R10), CRC-32C (03 preamble), SHA-256 (FIPS 180-4) and HMAC-SHA-256
(15 R454, R456).
-/

namespace Sys2Proof.Machine

/-! ## Fields -/

/-- The n bytes of a number, least significant first (00 R10). -/
def leBytes : Nat → Nat → Bytes
  | 0, _ => []
  | n + 1, v => BitVec.ofNat 8 v :: leBytes n (v / 256)

/-- The number a byte string holds, least significant byte first. -/
def leNat : Bytes → Nat
  | [] => 0
  | b :: bs => b.toNat + 256 * leNat bs

/-- n bytes from an offset. -/
def slice (bs : Bytes) (off n : Nat) : Bytes := (bs.drop off).take n

/-- Unsigned little-endian field of n bytes at an offset. -/
def fieldN (bs : Bytes) (off n : Nat) : Nat := leNat (slice bs off n)

/-- Signed little-endian field of n bytes at an offset. -/
def fieldI (bs : Bytes) (off n : Nat) : Int := signed (8 * n) (fieldN bs off n)

/-- f32 field at an offset; none where it is not finite. -/
def fieldF? (bs : Bytes) (off : Nat) : Option Rat := f32Value (fieldN bs off 4)

/-- f32 field at an offset, 0 where it is not finite. -/
def fieldF (bs : Bytes) (off : Nat) : Rat := (fieldF? bs off).getD 0

/-- The n bytes of a signed number. -/
def leInt (n : Nat) (v : Int) : Bytes := leBytes n (unsigned (8 * n) v)

/-- The four bytes of an f32 value. -/
def leF32 (q : Rat) : Bytes := leBytes 4 (f32Bits q)

/-- n zero bytes. -/
def zeros (n : Nat) : Bytes := List.replicate n 0

/-- The ASCII bytes of a string. -/
def ascii (s : String) : Bytes := s.toList.map fun c => BitVec.ofNat 8 c.toNat

/-- A byte string cut or padded with zeros to n bytes. -/
def fit (n : Nat) (bs : Bytes) : Bytes := (bs.take n) ++ zeros (n - bs.length)

/-! ## CRC-32C: reflected, initial value and final XOR 0xFFFF_FFFF (03 preamble) -/

/-- One bit of the reflected Castagnoli division. -/
def crcBit (c : BitVec 32) : BitVec 32 :=
  if c.getLsbD 0 then (c >>> 1) ^^^ 0x82F63B78#32 else c >>> 1

/-- One byte. -/
def crcByte (c : BitVec 32) (b : Byte) : BitVec 32 :=
  let c := c ^^^ b.setWidth 32
  crcBit (crcBit (crcBit (crcBit (crcBit (crcBit (crcBit (crcBit c)))))))

/-- CRC-32C of a byte string (PRESUMED: log entry 6). -/
def crc32c (bs : Bytes) : Nat := (bs.foldl crcByte 0xFFFFFFFF#32 ^^^ 0xFFFFFFFF#32).toNat

/-- A byte string followed by its CRC-32C. -/
def withCrc (bs : Bytes) : Bytes := bs ++ leBytes 4 (crc32c bs)

/-- Whether the last four bytes are the CRC-32C of the rest. -/
def crcOk (bs : Bytes) : Bool :=
  let n := bs.length - 4
  decide (4 ≤ bs.length) && (crc32c (bs.take n) == leNat (bs.drop n))

/-! ## SHA-256 -/

/-- The 64 round constants of FIPS 180-4. -/
def shaK : List (BitVec 32) :=
  [0x428a2f98, 0x71374491, 0xb5c0fbcf, 0xe9b5dba5, 0x3956c25b, 0x59f111f1, 0x923f82a4, 0xab1c5ed5,
   0xd807aa98, 0x12835b01, 0x243185be, 0x550c7dc3, 0x72be5d74, 0x80deb1fe, 0x9bdc06a7, 0xc19bf174,
   0xe49b69c1, 0xefbe4786, 0x0fc19dc6, 0x240ca1cc, 0x2de92c6f, 0x4a7484aa, 0x5cb0a9dc, 0x76f988da,
   0x983e5152, 0xa831c66d, 0xb00327c8, 0xbf597fc7, 0xc6e00bf3, 0xd5a79147, 0x06ca6351, 0x14292967] ++
  [0x27b70a85, 0x2e1b2138, 0x4d2c6dfc, 0x53380d13, 0x650a7354, 0x766a0abb, 0x81c2c92e, 0x92722c85,
   0xa2bfe8a1, 0xa81a664b, 0xc24b8b70, 0xc76c51a3, 0xd192e819, 0xd6990624, 0xf40e3585, 0x106aa070,
   0x19a4c116, 0x1e376c08, 0x2748774c, 0x34b0bcb5, 0x391c0cb3, 0x4ed8aa4a, 0x5b9cca4f, 0x682e6ff3,
   0x748f82ee, 0x78a5636f, 0x84c87814, 0x8cc70208, 0x90befffa, 0xa4506ceb, 0xbef9a3f7, 0xc67178f2]

/-- The eight words of a SHA-256 state. -/
structure Sha where
  a : BitVec 32
  b : BitVec 32
  c : BitVec 32
  d : BitVec 32
  e : BitVec 32
  f : BitVec 32
  g : BitVec 32
  h : BitVec 32
  deriving DecidableEq, Repr

/-- The initial value. -/
def shaInit : Sha :=
  ⟨0x6a09e667, 0xbb67ae85, 0x3c6ef372, 0xa54ff53a, 0x510e527f, 0x9b05688c, 0x1f83d9ab, 0x5be0cd19⟩

/-- One round with its message word and constant. -/
def shaRound (s : Sha) (w k : BitVec 32) : Sha :=
  let s1 := s.e.rotateRight 6 ^^^ s.e.rotateRight 11 ^^^ s.e.rotateRight 25
  let ch := (s.e &&& s.f) ^^^ (~~~s.e &&& s.g)
  let t1 := s.h + s1 + ch + k + w
  let s0 := s.a.rotateRight 2 ^^^ s.a.rotateRight 13 ^^^ s.a.rotateRight 22
  let mj := (s.a &&& s.b) ^^^ (s.a &&& s.c) ^^^ (s.b &&& s.c)
  ⟨t1 + (s0 + mj), s.a, s.b, s.c, s.d + t1, s.e, s.f, s.g⟩

/-- The rounds, the last sixteen message words held newest last. -/
def shaRounds (s : Sha) (win : List (BitVec 32)) : List (BitVec 32) → Sha
  | [] => s
  | k :: ks =>
    let w := win.getD 0 0
    let x15 := win.getD 1 0
    let x2 := win.getD 14 0
    let s0 := x15.rotateRight 7 ^^^ x15.rotateRight 18 ^^^ (x15 >>> 3)
    let s1 := x2.rotateRight 17 ^^^ x2.rotateRight 19 ^^^ (x2 >>> 10)
    let next := w + s0 + win.getD 9 0 + s1
    shaRounds (shaRound s w k) (win.drop 1 ++ [next]) ks

/-- Big-endian 32-bit words of a byte string. -/
def beWords : Bytes → List (BitVec 32)
  | a :: b :: c :: d :: rest =>
    ((a.setWidth 32 <<< 24) ||| (b.setWidth 32 <<< 16) ||| (c.setWidth 32 <<< 8) ||| d.setWidth 32) :: beWords rest
  | _ => []

/-- One 64-byte block. -/
def shaBlock (s : Sha) (blk : Bytes) : Sha :=
  let r := shaRounds s (beWords blk) shaK
  ⟨s.a + r.a, s.b + r.b, s.c + r.c, s.d + r.d, s.e + r.e, s.f + r.f, s.g + r.g, s.h + r.h⟩

/-- The blocks of a padded message. -/
def shaBlocks (s : Sha) : Nat → Bytes → Sha
  | 0, _ => s
  | n + 1, bs => shaBlocks (shaBlock s (bs.take 64)) n (bs.drop 64)

/-- Big-endian bytes of a number. -/
def beBytes (n v : Nat) : Bytes := (leBytes n v).reverse

/-- SHA-256 of a byte string (FIPS 180-4) (PRESUMED: log entry 6). -/
def sha256 (bs : Bytes) : Bytes :=
  let n := bs.length
  let pad := (119 - n % 64) % 64
  let m := bs ++ (0x80#8 :: zeros pad) ++ beBytes 8 (8 * n)
  let s := shaBlocks shaInit (m.length / 64) m
  [s.a, s.b, s.c, s.d, s.e, s.f, s.g, s.h].flatMap fun w => beBytes 4 w.toNat

/-- HMAC-SHA-256 (15 R454, R456) (PRESUMED: log entry 6). -/
def hmac (key msg : Bytes) : Bytes :=
  let k := fit 64 (if 64 < key.length then sha256 key else key)
  let opad := k.map (· ^^^ 0x5C#8)
  let ipad := k.map (· ^^^ 0x36#8)
  sha256 (opad ++ sha256 (ipad ++ msg))

end Sys2Proof.Machine
end

