-- ==== Sys2Proof/Machine/TypesCtrl.lean ====
section
/-!
DEFINITION. Plain-data types of vessel control, modes and consequence analysis (08).
-/

namespace Sys2Proof.Machine

/-- A waypoint of the edit buffer (08 R251): heading none is NaN, the leg bearing. -/
structure Waypoint where
  lat : Rat
  lon : Rat
  speed : Rat
  heading : Option Rat
  deriving DecidableEq, Repr, Inhabited

/-- A point of the track in force, in the local frame (08 R252). -/
structure TrackPoint where
  pos : V2
  speed : Rat
  heading : Option Rat
  deriving DecidableEq, Repr, Inhabited

/-- An accepted operator command waiting for slot 2 (08 R233). -/
inductive CtrlCmd where
  | mode (m : Nat)
  /-- Absolute (kind 0) with origin_gen, or relative (kind 1); none is NaN. -/
  | setpoint (kind gen : Nat) (x y h : Option Rat)
  | bank (n : Nat)
  | footprint (cn ce : Option Rat) (radius : Rat)
  | biasRelease
  | commit (n : Nat)
  | offset (x y : Rat)
  deriving DecidableEq, Repr, Inhabited

/-- The object a command is of (08 R262). -/
def CtrlCmd.object : CtrlCmd → Nat
  | .mode _ => 0x2201
  | .setpoint _ _ _ _ _ => 0x2202
  | .bank _ => 0x2203
  | .footprint _ _ _ => 0x2205
  | .biasRelease => 0x2206
  | .commit _ => 0x2211
  | .offset _ _ => 0x2221

/-- Result of a failure group (08 R262): status 0 not configured, 1 pass, 2 fail, 3 stale, 4 not evaluated. -/
structure GroupResult where
  status : Nat
  /-- Consecutive mission cycles failed, passed and stale. -/
  failRun : Nat
  passRun : Nat
  staleRun : Nat
  shortfall : V3
  /-- Posed and judged in this mission cycle. -/
  posed : Bool
  judged : Bool
  deriving DecidableEq, Repr, Inhabited

/-- The target tracker of mode 6 (08 R253). -/
structure Tracker where
  pos : V2
  vel : V2
  count : Nat
  lastNs : Nat
  valid : Bool
  /-- Frames since the newest measurement, and motion cycles too fast. -/
  lostFrames : Nat
  fastRun : Nat
  course : Rat
  /-- Times of the last three measurements. -/
  times : List Nat
  deriving DecidableEq, Repr, Inhabited

/-- Three flags: surge, sway, yaw. -/
structure B3 where
  x : Bool
  y : Bool
  z : Bool
  deriving DecidableEq, Repr, Inhabited

/-- Parts of the last demand (08 R262, ctrl.demand). -/
structure DemandParts where
  p : V3
  d : V3
  i : V3
  f : V3
  c : V3
  /-- Limited by demand_max or demand_rate. -/
  limited : B3
  deriving DecidableEq, Repr, Inhabited

/-- Vessel control of a lane (08). -/
structure ControlState where
  mode : Nat
  requested : Nat
  bank : Nat
  frozen : B3
  fallbackCause : Nat
  refuseReason : Nat
  /-- Accepted commands with the frame number from which they are published (08 R233), oldest first. -/
  cmds : List (Nat × CtrlCmd)
  /-- Reference model (08 R235). -/
  xd : V3
  vd : V3
  ad : V3
  /-- Target setpoint: north, east of the controlled point, heading. -/
  target : V3
  integ : V3
  /-- Axes whose integrator is set by the rule of 08 R239 in this cycle. -/
  initI : B3
  prev : V3
  parts : DemandParts
  err : V3
  /-- Joystick (08 R246): deflection, frames since the newest message, sequence. -/
  stick : V3
  stickAge : Option Nat
  stickSeq : Nat
  hold : V3
  holdFrom : V3
  /-- Motion cycles left of a bias release (08 R248), 0 none. -/
  releaseLeft : Nat
  fpCentre : V2
  fpRadius : Rat
  /-- Outside the footprint, and motion cycles back inside (VC-031). -/
  fpOutside : Bool
  fpInsideRun : Nat
  edit : List (Option Waypoint)
  /-- The committed track in the local frame (08 R251). -/
  committed : List TrackPoint
  track : List TrackPoint
  leg : Nat
  sd : Rat
  speed : Rat
  xte : Rat
  xteRun : Nat
  trackDone : Bool
  tracker : Tracker
  /-- Offset of mode 6 (08 R253). -/
  offset : V2
  wvForce : V2
  /-- Motion cycles since each gangway condition last held: warning, alarm, lost (08 R256). -/
  gwClear : List Nat
  gwDo : Bool
  zPed : Rat
  gwPosErr : Rat
  gwHdgErr : Rat
  demandSum : V3
  demandCount : Nat
  /-- Mean published demand of the previous mission cycle (08 R257). -/
  demandMean : V3
  groups : List GroupResult
  /-- 0 pass, 1 VC-020 in force, 2 not evaluated, 3 not configured. -/
  verdict : Nat
  originGen : Nat
  following : Bool
  deriving DecidableEq, Repr, Inhabited

end Sys2Proof.Machine
end

