-- ==== Sys2Proof/Machine/TypesAlloc.lean ====
section
/-!
DEFINITION. Plain-data types of thrust allocation and of the allocation engine (09).
-/

namespace Sys2Proof.Machine

/-- Actuator states (09 R270): `allocated` is the state IN. -/
inductive ActMode where
  | disabled
  | allocated
  | excluded
  | unavailable
  | ramp
  | turn
  deriving DecidableEq, Repr, Inhabited

/-- The code of an actuator state (09 R270). -/
def ActMode.code : ActMode → Nat
  | .disabled => 0 | .allocated => 1 | .excluded => 2 | .unavailable => 3 | .ramp => 4 | .turn => 5

/-- One actuator (09 R265 to R292). Forces are in the mount frame, in kN. -/
structure Act where
  mode : ActMode
  cause : Nat
  /-- Operator exclusion in force (09 R271). -/
  exclusion : Bool
  /-- Candidate arc in force, and the arc a transit goes to (09 R274, R275). -/
  arc : Option Nat
  goal : Option Nat
  /-- Frames in transit. -/
  transit : Nat
  /-- Turn direction of the azimuth in TURN: 1 clockwise, -1 anticlockwise, 0 none. -/
  turn : Int
  /-- Force in the last valid and in the last converged solution (09 R266). -/
  f0 : V2
  conv : V2
  /-- Measured force and azimuth (09 R269). -/
  measured : V2
  azimuth : Rat
  /-- Motion cycles in which every cause has been clear. -/
  clearRun : Nat
  /-- Sum and count of the free force over the mission cycle, and the mean of the last choice (09 R275). -/
  freeSum : V2
  freeCount : Nat
  free : V2
  /-- Setpoints (09 R285): rpm or %, and degrees in the mount frame. -/
  thrust : Rat
  angle : Rat
  held : Bool
  rateRow : Bool
  polyRow : Bool
  wedgeRow : Bool
  powerRow : Bool
  deriving DecidableEq, Repr, Inhabited

/-- A row of the problem: coefficient on f_a, on f_b, right-hand side (09 R277). -/
structure Row where
  a : Rat
  b : Rat
  h : Rat
  deriving DecidableEq, Repr, Inhabited

/-- A power row: 48 coefficients and the right-hand side (09 R277). -/
structure PowRow where
  c : List Rat
  h : Rat
  deriving DecidableEq, Repr, Inhabited

/-- The problem block (09 R277). `crcOk` says that the block's CRC is that of its bytes. -/
structure Problem where
  seq : Nat
  store : Nat
  flags : Nat
  frame : Nat
  step : Rat
  hinv : List Rat
  q : List Rat
  b : List (List Rat)
  s : List (List Rat)
  d : V3
  w : V3
  /-- 24 actuators of 22 rows. -/
  rows : List (List Row)
  power : List PowRow
  crcOk : Bool
  deriving DecidableEq, Repr, Inhabited

/-- The result block (09 R281); residual none is +∞. -/
structure EngResult where
  x : List Rat
  achieved : V3
  residual : Option Rat
  worst : Nat
  store : Nat
  flags : Nat
  seq : Nat
  wedge : List Rat
  cycles : Nat
  crcOk : Bool
  deriving DecidableEq, Repr, Inhabited

/-- What slot 3 built besides the block (09 R265 to R276), kept for slots 5, 10 and 11. -/
structure Setup where
  inProb : List Bool
  /-- Actuators EXCLUDED in this problem, whose force is fixed (09 R272). -/
  fixed : List Bool
  f0 : List V2
  tbar : List Rat
  dir : List V2
  /-- Unscaled rows of each actuator. -/
  rows : List (List Row)
  hinv : List Rat
  demand : V3
  frame : Nat
  epochS : Nat
  epochNs : Nat
  deriving DecidableEq, Repr, Inhabited

/-- The engine's control registers (09 R278) and the run in progress: the block and duals loaded. -/
structure Engine where
  state : Nat
  ready : Bool
  refused : Bool
  resetAct : Nat
  resetPow : Nat
  lastCycles : Nat
  run : Option (Problem × List Rat)
  /-- 41 dual stores and the test store; an empty list is 534 zeros. -/
  stores : List (List Rat)
  deriving DecidableEq, Repr, Inhabited

/-- Allocation of a lane (09). -/
structure AllocState where
  acts : List Act
  seq : Nat
  problem : Problem
  result : EngResult
  eng : Engine
  setup : Setup
  /-- State, arc and transit phase of each actuator, and membership of each power group, at the previous problem on each
  store (09 R278). -/
  posedActs : List (List (Nat × Nat × Nat))
  posedPow : List (List (List Bool))
  /-- Problem posed in slot 3 (none: no actuator in allocation), and in slot 10: group and problem. -/
  mainSeq : Option Nat
  consSeq : Option (Nat × Nat)
  consDemand : V3
  fallbacks : Nat
  resetMain : Bool
  vectorFailed : Bool
  /-- 0 converged, 1 scaled fallback, 2 held (09 R291). -/
  kind : Nat
  achieved : V3
  saturated : B3
  satRun : List Nat
  satClear : List Nat
  limits : List Rat
  limitSource : List Nat
  rowActive : List Bool
  rowRun : List Nat
  deriving DecidableEq, Repr, Inhabited

end Sys2Proof.Machine
end

