-- ==== Sys2Proof/Machine/TypesLoop.lean ====
section
/-!
DEFINITION. Plain-data types of the loop engine (10).
-/

namespace Sys2Proof.Machine

/-- Axis states (10 R314). -/
inductive AxisMode where
  | off
  | run
  | safe
  | release
  deriving DecidableEq, Repr, Inhabited

/-- The code of an axis state. -/
def AxisMode.code : AxisMode → Nat
  | .off => 0 | .run => 1 | .safe => 2 | .release => 3

/-- The axis state a code names. -/
def AxisMode.ofCode : Nat → AxisMode
  | 1 => .run | 2 => .safe | 3 => .release | _ => .off

/-- An entry of the setpoint buffer (10 R298). -/
structure SpEntry where
  setpoint : Rat
  run : Bool
  dir : Nat
  seq : Nat
  deriving DecidableEq, Repr, Inhabited

/-- One axis slot (10 R294 to R317). -/
structure AxisSlot where
  /-- Registers v0 to v31, and the two hidden state values of each of the 24 word positions. -/
  v : List Rat
  h0 : List Rat
  h1 : List Rat
  mode : AxisMode
  /-- Set of causes: bit k is cause k (10 R316). -/
  causes : Nat
  /-- Setpoint entry in force. -/
  sp : SpEntry
  /-- Sequence in force when the axis entered SAFE. -/
  entrySeq : Nat
  /-- Output register. -/
  out : Rat
  /-- OUT result of the last microframe, and whether it was clamped; microframes it has been. -/
  outRaw : Rat
  atLimit : Bool
  limitRun : Nat
  /-- Consecutive microframes of following error beyond the limit; freeze run and its count. -/
  feRun : Nat
  freezeRun : Nat
  freezeBase : Int
  /-- Count at the declaration of a freeze, and whether it has changed since. -/
  frozenAt : Int
  moved : Bool
  /-- Frames left of the following-error latch; the latch has been cleared. -/
  latchLeft : Nat
  latchDone : Bool
  /-- A following-error fault occurred while parking. -/
  parkLost : Bool
  /-- A cause 1 to 4 arose and has not yet been seen by the other axes of the actuator. -/
  signal : Bool
  /-- SAFE was entered with a cause 1 to 4 since the last slot 3 (09 R270, cause 1). -/
  tripped : Bool
  deriving DecidableEq, Repr, Inhabited

/-- The loop engine of a lane. -/
structure LoopState where
  axes : List AxisSlot
  /-- Front setpoint buffer. -/
  buffer : List SpEntry
  /-- Test vectors run and failed in the last mission cycle (10 R320, R323), and in the present one. -/
  vecRun : Nat
  vecFailed : Nat
  vecRunNow : Nat
  vecFailedNow : Nat
  deriving DecidableEq, Repr, Inhabited

end Sys2Proof.Machine
end

