-- ==== Sys2Proof/Machine/Loop.lean ====
section
/-!
DEFINITION. The loop engine (10): the operation set, one axis slot in one microframe, supervision, safe actions and the
faults of an axis.
-/

namespace Sys2Proof.Machine

/-! ## Inputs -/

/-- A feedback channel as latched at phase 0 (10 R295, R313). -/
structure FbLatch where
  count : Int
  speed : Rat
  loss : Bool
  deriving DecidableEq, Repr, Inhabited

/-- What the loop engine reads in a microframe. -/
structure LoopCtx where
  axes : List AxisRec
  lpmc : List Lpmc
  micro : Nat
  slot : Nat
  fb : List FbLatch
  /-- Status fields of the drive profile: value, and whether it is lost. -/
  drive : List (Rat × Bool)
  /-- Actuators in DISABLED. -/
  disabled : List Bool
  deriving DecidableEq, Repr

/-- The AXIS entry of a slot. -/
def LoopCtx.rec? (c : LoopCtx) (n : Nat) : Option AxisRec := c.axes.find? fun a => a.axis == n

/-- The program of a slot. -/
def LoopCtx.prog? (c : LoopCtx) (n : Nat) : Option Lpmc := c.lpmc.find? fun p => p.axis == n

/-- Duration of a microframe in seconds. -/
def microS : Rat := 125 / 1000000

/-- Outer microframes of a cascade ratio (10 R300). -/
def outerNow (ratio micro slot : Nat) : Bool :=
  if ratio = 1 then true
  else if ratio = 2 then micro % 2 == 0
  else if ratio = 4 then micro % 4 == 0
  else if ratio = 8 then micro == 0
  else micro == 0 && slot % 2 == 0

/-! ## Operations (10 R301 to R306) -/

/-- Words an operation occupies (10 R302). -/
def opWords (op : Nat) : Nat :=
  if op = 3 ∨ op = 4 ∨ op = 8 ∨ op = 9 ∨ op = 11 then 2 else if op = 10 then 10 else 1

/-- Sign of a number. -/
def signQ (x : Rat) : Int := if x < 0 then -1 else if 0 < x then 1 else 0

/-- Angle difference of WRAP (10 R306). -/
def wrapDiff (dir : Nat) (margin e : Rat) : Rat :=
  let m := if margin = 0 then 5 else margin
  if dir = 1 then
    let w := wrap360 e
    if 360 - m < w then w - 360 else w
  else if dir = 2 then
    let w := wrap360 e
    let w := if w = 0 then 0 else w - 360
    if w < m - 360 then w + 360 else w
  else wrap180 e

/-- Table interpolation of LUT (10 R305). -/
def lutValue (ys : List Int) (lo hi scale x : Rat) : Rat :=
  let x := clampQ lo hi x
  let p := (x - lo) * 31 / (hi - lo)
  let j := min p.floor.toNat 30
  let y0 : Rat := (nth 0 ys j : Int)
  let y1 : Rat := (nth 0 ys (j + 1) : Int)
  scale * (y0 + (p - (j : Rat)) * (y1 - y0))

/-- What a program run carries along. -/
structure ProgRun where
  v : List Rat
  h0 : List Rat
  h1 : List Rat
  out : Rat
  atLimit : Bool
  /-- A result was not finite (10 R307). -/
  bad : Bool
  deriving DecidableEq, Repr, Inhabited

/-- Store a result: rounded to f32, 0 and a mark where it is not finite. -/
def ProgRun.put (r : ProgRun) (dst : Nat) (q : Rat) : ProgRun :=
  match f32Round q with
  | some x => { r with v := r.v.set dst x }
  | none => { r with v := r.v.set dst 0, bad := true }

/-- A hidden state after rounding; 0 where it is not finite. -/
def hidden (q : Rat) : Rat := (f32Round q).getD 0

/-- One operation at word position i; `held` holds PI integrators, `dt` is its time step. -/
def ProgRun.op (words : List Bytes) (dir : Nat) (held : Bool) (dt : Rat) (i : Nat) (r : ProgRun) : ProgRun :=
  let w := nth [] words i
  let x := nth [] words (i + 1)
  let op := fieldN w 0 1 % 128
  let dst := fieldN w 1 1
  let a := nth 0 r.v (fieldN w 2 1)
  let b := nth 0 r.v (fieldN w 3 1)
  let imm := fieldF w 4
  let p1 := fieldF x 0
  let p2 := fieldF x 4
  let s0 := nth 0 r.h0 i
  let s1 := nth 0 r.h1 i
  match op with
  | 0x01 => r.put dst (a + imm * b)
  | 0x02 => r.put dst (a * b * imm)
  | 0x03 => r.put dst (if imm ≤ nth 0 r.v (fieldN x 0 1) then a else b)
  | 0x04 => r.put dst (clampQ p1 p2 a)
  | 0x05 =>
    let s := s0 + clampQ (-(imm * dt)) (imm * dt) (a - s0)
    { r.put dst s with h0 := r.h0.set i (hidden s) }
  | 0x06 => r.put dst (if absQ a ≤ imm then 0 else a - (signQ a : Rat) * imm)
  | 0x07 => r.put dst (wrapDiff dir imm (a - b))
  | 0x08 =>
    let u := imm * a + s0 + b
    let stop := decide (p2 ≤ absQ u) && decide (signQ a = signQ u)
    let int_ := if stop || held then s0 else hidden (clampQ (-p2) p2 (s0 + p1 * a * dt))
    { r.put dst (clampQ (-p2) p2 (imm * a + int_ + b)) with h0 := r.h0.set i int_ }
  | 0x09 =>
    let den := 2 * p2 + dt
    let b0 := imm * (2 * p1 + dt) / den
    let b1 := imm * (dt - 2 * p1) / den
    let a1 := (dt - 2 * p2) / den
    let y := b0 * a + b1 * s0 - a1 * s1
    { r.put dst y with h0 := r.h0.set i a, h1 := r.h1.set i (hidden y) }
  | 0x0A =>
    let ys := ((List.range 8).map fun k => (List.range 4).map fun m => fieldI (nth [] words (i + 2 + k)) (2 * m) 2).flatten
    r.put dst (lutValue ys p1 p2 imm a)
  | 0x0B =>
    let q := a * imm + p1
    let o := clampQ (p1 - p2) (p1 + p2) q
    match f32Round o with
    | some y => { r with out := y, atLimit := decide (q ≤ p1 - p2) || decide (p1 + p2 ≤ q) }
    | none => { r with out := 0, bad := true }
  | _ => r

/-- Run the words from position i; `fuel` bounds the operations. -/
def ProgRun.words (ws : List Bytes) (ratio : Nat) (outer held : Bool) (dir : Nat) : Nat → Nat → ProgRun → ProgRun
  | 0, _, r => r
  | fuel + 1, i, r =>
    if ws.length ≤ i then r
    else
      let b0 := fieldN (nth [] ws i) 0 1
      let slow := decide (128 ≤ b0)
      let dt := if slow then microS * (ratio : Rat) else microS
      let r := if slow && !outer then r else r.op ws dir held dt i
      ProgRun.words ws ratio outer held dir fuel (i + opWords (b0 % 128)) r

/-! ## Axis states (10 R314 to R318) -/

/-- Whether a set of causes holds cause k. -/
def hasCause (set k : Nat) : Bool := set.testBit k

/-- A set with cause k added. -/
def addCause (set k : Nat) : Nat := if set.testBit k then set else set + 2 ^ k

/-- The recorded cause: the lowest of the set, 0 none (10 R316). -/
def lowestCause (set : Nat) : Nat := ([1, 2, 3, 4, 5, 6].find? fun k => set.testBit k).getD 0

/-- The safe action in force (10 R315). -/
def AxisSlot.action (r : AxisRec) (a : AxisSlot) : Nat :=
  if r.safeAction = 2 ∧ (hasCause a.causes 1 ∨ hasCause a.causes 2 ∨ hasCause a.causes 4 ∨ a.parkLost = true) then 1
  else r.safeAction

/-- Whether the axis parks. -/
def AxisSlot.parking (r : AxisRec) (a : AxisSlot) : Bool := decide (a.mode = .safe) && a.action r == 2

/-- A cause arises (10 R316): SAFE is entered, or the cause is added to the set. -/
def AxisSlot.trip (a : AxisSlot) (k : Nat) : AxisSlot :=
  let hard := decide (1 ≤ k ∧ k ≤ 4)
  let isNew := hard && !(decide (a.mode = .safe) && hasCause a.causes k)
  match a.mode with
  | .off => a
  | .safe => { a with causes := addCause a.causes k, signal := a.signal || isNew, tripped := a.tripped || isNew }
  | _ => { a with mode := .safe, causes := addCause 0 k, entrySeq := a.sp.seq, signal := a.signal || isNew,
                  tripped := a.tripped || isNew, parkLost := false, freezeRun := 0, feRun := 0, latchDone := false }

/-- A continuous angle setpoint (10 R297). -/
def continuousAngle (dir : Nat) (prev s : Rat) : Rat :=
  let up := prev + wrap360 (s - prev)
  if dir = 1 then up
  else if dir = 2 then (if up = prev then up else up - 360)
  else prev + wrap180 (s - prev)

/-- v0 brought back into [-360, 720), with the hidden state of every RATE that reads it (10 R297). -/
def AxisSlot.wrapV0 (words : List Bytes) (a : AxisSlot) : AxisSlot :=
  let x := nth 0 a.v 0
  let d : Rat := if x < -360 then 360 else if 720 ≤ x then -360 else 0
  if d = 0 then a
  else
    let rate := fun (i : Nat) => let w := nth [] words i; decide (fieldN w 0 1 % 128 = 5) && decide (fieldN w 2 1 = 0)
    { a with v := a.v.set 0 (hidden (x + d)), h0 := a.h0.mapIdx fun i h => if rate i then hidden (h + d) else h }

/-- Entry to RELEASE (10 R317): PI and LEAD states 0, RATE states at their present input. -/
def AxisSlot.enterRelease (words : List Bytes) (a : AxisSlot) : AxisSlot :=
  let opAt := fun (i : Nat) => fieldN (nth [] words i) 0 1 % 128
  { a with
    mode := .release, causes := 0, parkLost := false, latchDone := false, latchLeft := 0,
    h0 := a.h0.mapIdx fun i h => if opAt i = 8 ∨ opAt i = 9 then 0 else if opAt i = 5 then nth 0 a.v (fieldN (nth [] words i) 2 1) else h,
    h1 := a.h1.mapIdx fun i h => if opAt i = 9 then 0 else h }

/-- In SAFE with a cause from 1 to 4 whose condition of release is not yet met (09 R270 cause 1; 10 R317, second item), at the
loss flag and count given. -/
def AxisSlot.unmet (a : AxisSlot) (loss : Bool) (count : Int) : Bool :=
  decide (a.mode = .safe) && ((hasCause a.causes 1 && loss) || (hasCause a.causes 2 && !(a.moved || decide (count ≠ a.frozenAt)))
    || (hasCause a.causes 3 && !a.latchDone))

/-- An axis that keeps the others of its actuator from leaving SAFE (10 R317, cause 5): it is in SAFE with a cause from 1 to 4
(DEDUCED, log entry 36: the others, not the axis itself). -/
def AxisSlot.blocks (a : AxisSlot) : Bool :=
  decide (a.mode = .safe) && [1, 2, 3, 4].any fun k => hasCause a.causes k

/-- Whether SAFE may be left at this setpoint read (10 R317). `mates` is true when another axis of the actuator blocks it
(DEDUCED: log entry 36). -/
def AxisSlot.mayRelease (a : AxisSlot) (loss mates : Bool) : Bool :=
  a.sp.run && newer 16 a.sp.seq a.entrySeq && !loss
    && (!hasCause a.causes 2 || a.moved) && (!hasCause a.causes 3 || a.latchDone) && (!hasCause a.causes 5 || !mates)

/-- Take a new setpoint entry at microframe 0 (10 R295, R297, R298): v0 and v1. -/
def AxisSlot.readSetpoint (r : AxisRec) (e : SpEntry) (a : AxisSlot) : AxisSlot :=
  if e.seq = a.sp.seq then a
  else
    let old := nth 0 a.v 0
    let new := hidden (if r.role = 1 then continuousAngle e.dir old e.setpoint else clampQ r.spMin r.spMax e.setpoint)
    let one := decide (e.seq = (a.sp.seq + 1) % 65536)
    { a with sp := e, v := (a.v.set 0 new).set 1 (if one then hidden ((new - old) / (2 / 100)) else 0) }

/-- v0 while parking (10 R315). -/
def AxisSlot.parkV0 (r : AxisRec) (a : AxisSlot) : AxisSlot :=
  let old := nth 0 a.v 0
  { a with v := a.v.set 0 (if r.role = 1 then hidden (continuousAngle 0 old r.parkAngle) else r.parkAngle) }

/-- A value moved toward another by at most a step. -/
def toward (x goal step : Rat) : Rat := x + clampQ (-step) step (goal - x)

/-- Position and speed of an axis, whether its feedback is lost, and its count (10 R295, R313; 11 R343). -/
def axisFeedback (c : LoopCtx) (r : AxisRec) : Rat × Rat × Bool × Int :=
  if r.channel < 24 then
    let f := nth default c.fb r.channel
    (hidden ((f.count : Rat) * r.posScale + r.posOffset), hidden (f.speed * r.posScale * (if r.role = 2 then 60 else 1)),
      f.loss, f.count)
  else if 0x80 ≤ r.channel ∧ r.channel < 0xC0 then
    let d := nth (0, true) c.drive (r.channel - 0x80)
    let y := hidden (d.1 * r.posScale + r.posOffset)
    (y, y, d.2, 0)
  else (0, 0, false, 0)

/-- The states an axis is found in at the load phase: OFF of a DISABLED actuator, else SAFE with cause 6 (10 R314). -/
def AxisSlot.settle (off : Bool) (a : AxisSlot) : AxisSlot :=
  if off then { a with mode := .off, causes := 0 }
  else if a.mode = .off then { a with mode := .safe, causes := addCause 0 6, entrySeq := a.sp.seq }
  else a

/-- The causes found at the load phase: run bit clear, loss flag, another axis of the actuator (10 R313, R316). -/
def AxisSlot.loadCauses (micro : Nat) (loss told : Bool) (a : AxisSlot) : AxisSlot :=
  let a := if micro = 0 ∧ a.sp.run = false then a.trip 6 else a
  let a := if loss then a.trip 1 else a
  if told then a.trip 5 else a

/-- The input registers v2 to v7 (10 R295). -/
def AxisSlot.inputs (pos speed link : Rat) (a : AxisSlot) : AxisSlot :=
  { a with v := [nth 0 a.v 0, nth 0 a.v 1, pos, speed, link, a.out, 1, 0] ++ a.v.drop 8 }

/-- The load phase (10 R294, R295): causes, setpoint, release, registers v0 to v7. Answers the axis and whether it left
SAFE. -/
def AxisSlot.load (c : LoopCtx) (r : AxisRec) (p : Lpmc) (e : SpEntry) (link : Rat) (mates told : Bool) (a : AxisSlot) :
    AxisSlot × Bool :=
  let fb := axisFeedback c r
  let a := AxisSlot.settle (nth false c.disabled r.actuator) { a with signal := false }
  let a := if c.micro = 0 then a.readSetpoint r e else a
  let a := { a with moved := a.moved || decide (fb.2.2.2 ≠ a.frozenAt) }
  let a := a.loadCauses c.micro fb.2.2.1 told
  let a := a.inputs fb.1 fb.2.1 link
  let leave := decide (c.micro = 0) && decide (a.mode = .safe) && a.mayRelease fb.2.2.1 mates
  let a := if leave then a.enterRelease p.words else a
  let a := if a.parking r then a.parkV0 r else a
  (if r.role = 1 then a.wrapV0 p.words else a, leave)

/-- The execute phase (10 R301 to R307): the program runs; a non-finite value is cause 4. -/
def AxisSlot.execute (c : LoopCtx) (r : AxisRec) (p : Lpmc) (a : AxisSlot) : AxisSlot × Bool :=
  let parking := a.parking r
  let held := decide (a.mode = .off) || (decide (a.mode = .safe) && !parking)
  let dir := if parking || a.sp.dir == 3 then 0 else a.sp.dir
  let run := ProgRun.words p.words r.ratio (outerNow r.ratio c.micro c.slot) held dir 24 0
    { v := a.v, h0 := a.h0, h1 := a.h1, out := a.outRaw, atLimit := a.atLimit, bad := false }
  let a := { a with v := run.v, h0 := run.h0, h1 := run.h1, outRaw := run.out, atLimit := run.atLimit,
                    limitRun := if run.atLimit then min 8000 (a.limitRun + 1) else 0 }
  (if run.bad then a.trip 4 else a, run.bad)

/-- Following-error and freeze runs (10 R311, R312) (DEDUCED: log entry 77). -/
def AxisSlot.supervise (r : AxisRec) (p : Lpmc) (count : Int) (a : AxisSlot) : AxisSlot :=
  let closed := decide (a.mode = .run) || a.parking r
  let beyond := p.feReg != 0xFF && closed && decide (r.feLimit < absQ (nth 0 a.v p.feReg))
  let fast := decide (r.channel < 24) && p.rateReg != 0xFF && (closed || decide (a.mode = .release))
    && decide (r.freezeRate < absQ (nth 0 a.v p.rateReg))
  let again := a.freezeRun != 0 && decide (a.freezeBase = count)
  { a with feRun := if beyond then min (8 * r.feTime) (a.feRun + 1) else 0,
           freezeRun := if !fast then 0 else if again then min (8 * r.freezeTime) (a.freezeRun + 1) else 1,
           freezeBase := if fast && !again then count else a.freezeBase }

/-- The output register (10 R314, R315, R317). -/
def AxisSlot.output (r : AxisRec) (a : AxisSlot) : AxisSlot :=
  let step := r.safeRate * microS
  match a.mode with
  | .off => { a with out := r.outZero }
  | .run => { a with out := a.outRaw }
  | .safe =>
    if a.action r = 0 then a
    else if a.action r = 1 then { a with out := toward a.out r.outZero step }
    else { a with out := a.outRaw }
  | .release =>
    let o := toward a.out a.outRaw step
    { a with out := o, mode := if o = a.outRaw then .run else .release }

/-- One axis slot in one microframe (10 R294 to R318). `link` is the linked axis's output of the previous microframe,
`mates` whether another axis of the actuator is in SAFE with a cause 1 to 4, `told` whether one raised such a cause in the
previous microframe (DEDUCED: log entry 77). -/
def AxisSlot.micro (c : LoopCtx) (r : AxisRec) (p : Lpmc) (e : SpEntry) (link : Rat) (mates told : Bool) (a : AxisSlot) :
    AxisSlot × List AlarmOp :=
  let l := a.load c r p e link mates told
  let x := l.1.execute c r p
  let a := (x.1.supervise r p (axisFeedback c r).2.2.2).output r
  (a, AlarmOp.ifOn x.2 ⟨.lp, 2⟩ r.axis 0 ++
    (if l.2 then [AlarmOp.clear ⟨.lp, 1⟩ r.axis, AlarmOp.clear ⟨.lp, 2⟩ r.axis, AlarmOp.clear ⟨.fb, 12⟩ r.channel] else []) ++
    (if a.limitRun = 0 then [AlarmOp.clear ⟨.lp, 10⟩ r.axis] else []) ++
    [AlarmOp.whileOn (hasCause a.causes 3 && r.feLatch == 0 && !a.latchDone) ⟨.lp, 30⟩ r.axis 0])

/-- All 72 slots in one microframe (10 R294): every slot reads the registers of the microframe before (DEDUCED: log entry 36). -/
def LoopState.micro (c : LoopCtx) (s : LoopState) : LoopState × List AlarmOp :=
  let mateOf := fun (r : AxisRec) (f : AxisRec → AxisSlot → Bool) =>
    c.axes.any fun q => q.actuator == r.actuator && q.axis != r.axis && f q (nth default s.axes q.axis)
  let res := s.axes.mapIdx fun n a =>
    match c.rec? n, c.prog? n with
    | some r, some p =>
      let link := if r.link = 0xFF then 0 else (nth default s.axes r.link).out
      a.micro c r p (nth default s.buffer n) link
        (mateOf r fun _ m => m.blocks) (mateOf r fun _ m => m.signal)
    | _, _ => (a, [])
  ({ s with axes := res.map (·.1) }, (res.map (·.2)).flatten)

/-! ## Faults and resets of an axis (10 R311, R312, R317, R323) -/

/-- A following-error fault once the count has reached 8 × fe_time (10 R311) (DEDUCED: log entry 77). -/
def LoopState.followingError (s : LoopState) (r : AxisRec) : LoopState × List AlarmOp :=
  let a := nth default s.axes r.axis
  if 8 * r.feTime ≤ a.feRun then
    let park := a.parking r
    let a' := a.trip 3
    ({ s with axes := s.axes.set r.axis
                { a' with parkLost := a'.parkLost || park, latchLeft := 1000 * r.feLatch, latchDone := false, feRun := 0 } },
      [.raise ⟨.lp, 1⟩ r.axis 0])
  else (s, [])

/-- Feedback frozen once the run has reached 8 × freeze_time (10 R312) (DEDUCED: log entry 77). -/
def LoopState.freeze (s : LoopState) (r : AxisRec) : LoopState × List AlarmOp :=
  let a := nth default s.axes r.axis
  if 8 * r.freezeTime ≤ a.freezeRun then
    ({ s with axes := s.axes.set r.axis { a.trip 2 with frozenAt := a.freezeBase, moved := false, freezeRun := 0 } },
      [.raise ⟨.fb, 12⟩ r.channel 0])
  else (s, [])

/-- fe_latch seconds have passed since the fault (10 R317). -/
def LoopState.latchExpiry (s : LoopState) (r : AxisRec) : LoopState :=
  let a := nth default s.axes r.axis
  if hasCause a.causes 3 ∧ r.feLatch ≠ 0 ∧ a.latchLeft = 0 then
    { s with axes := s.axes.set r.axis { a with latchDone := true } }
  else s

/-- Whether loop.reset finds a pending latch (10 R323). -/
def AxisSlot.pendingLatch (r : AxisRec) (a : AxisSlot) : Bool := hasCause a.causes 3 && r.feLatch == 0 && !a.latchDone

/-- loop.reset (10 R323): clears a pending latch whose fe_latch is 0. -/
def LoopState.reset (s : LoopState) (r : AxisRec) : LoopState × List AlarmOp :=
  let a := nth default s.axes r.axis
  if a.pendingLatch r then
    ({ s with axes := s.axes.set r.axis { a with latchDone := true } }, [.clear ⟨.lp, 30⟩ r.axis])
  else (s, [])

/-- Frames: the following-error latches run down (10 R317: by the frame tick). -/
def LoopState.age (s : LoopState) : LoopState :=
  { s with axes := s.axes.map fun a => { a with latchLeft := a.latchLeft - 1 } }

/-- Axes at lane start (10 R295, R314): registers 0, outputs at out_zero, SAFE with cause 6 or OFF. -/
def initAxes (axes : List AxisRec) (thru : List Thru) : List AxisSlot :=
  (List.range 72).map fun n =>
    let zero : AxisSlot :=
      { (default : AxisSlot) with v := List.replicate 32 0, h0 := List.replicate 24 0, h1 := List.replicate 24 0 }
    match axes.find? fun a => a.axis == n with
    | some r =>
      let on := thru.any fun t => t.actuator == r.actuator && t.flags.testBit 0
      { zero with v := zero.v.set 0 (if r.role = 1 then 0 else clampQ r.spMin r.spMax 0), out := r.outZero, outRaw := r.outZero, mode := if on then .safe else .off,
                  causes := if on then addCause 0 6 else 0 }
    | none => zero

/-- Setpoints written by the duty pair in slot 5 (09 R285; 10 R298, R299); none for the actuators `late`, which R270 has found
unavailable since slot 3 (09 R288). -/
def LoopState.writeSetpoints (axes : List AxisRec) (acts : List Act) (late : List Nat) (s : LoopState) : LoopState :=
  { s with buffer := s.buffer.mapIdx fun n e =>
      match axes.find? fun a => a.axis == n && !late.contains a.actuator with
      | some r =>
        let a := nth default acts r.actuator
        let on := !decide (a.mode = .disabled ∨ a.mode = .unavailable)
        let dir := if a.mode = .turn then (if a.turn = 1 then 1 else if a.turn = -1 then 2 else 0) else 0
        { setpoint := if r.role = 1 ∨ r.role = 4 then a.angle else a.thrust, run := on, dir := dir, seq := (e.seq + 1) % 65536 }
      | none => e }

/-- Axis entries taken at takeover from the copy: those in SAFE or RELEASE (10 R319). -/
def LoopState.takeCopy (s : LoopState) (copy : List AxisSlot) : LoopState :=
  { s with axes := s.axes.mapIdx fun n a =>
      let k := nth default copy n
      if k.mode = .safe ∨ k.mode = .release then
        { a with mode := k.mode, causes := k.causes, latchLeft := k.latchLeft, latchDone := k.latchDone, out := k.out,
                 entrySeq := k.entrySeq, frozenAt := k.frozenAt, moved := k.moved, parkLost := k.parkLost }
      else a }

end Sys2Proof.Machine
end

