-- ==== Sys2Proof/Machine/TypesCan.lean ====
section
/-!
DEFINITION. Plain-data types of the drive bus (12).
-/

namespace Sys2Proof.Machine

/-- A CAN frame (12 R354, R380). -/
structure CanFrame where
  id : Nat
  ext : Bool
  fd : Bool
  brs : Bool
  remote : Bool
  data : Bytes
  deriving DecidableEq, Repr, Inhabited

/-- A frame of a transmit list: its key (0x100 the lane mark, else the drive or CANP frame number) and its content. -/
structure TxItem where
  key : Nat
  frame : CanFrame
  deriving DecidableEq, Repr, Inhabited

/-- A transmit buffer (12 R358, R360, R363, R380). -/
structure TxBuf where
  /-- 0 empty, 1 pending, 2 transmitting, 3 transmitted, 4 transmitted cancel refused, 5 cancelled, 6 cancelled after
  error. -/
  state : Nat
  /-- Content loaded, not yet completed or cancelled. -/
  item : Option TxItem
  /-- Newer content that waits for a cancel or for completion. -/
  next : Option TxItem
  /-- A cancel request came after the sample point. -/
  late : Bool
  /-- When it was marked pending (frame number × 10^6 + ns). -/
  since : Nat
  /-- Nanoseconds of module time at the start of frame of the last completed frame. -/
  time : Nat
  deriving DecidableEq, Repr, Inhabited

/-- A received frame with its timestamp (12 R366, R380). -/
structure RxFrame where
  frame : CanFrame
  s : Nat
  ns : Nat
  deriving DecidableEq, Repr, Inhabited

/-- One controller of a lane (12 R380). -/
structure Bus where
  enabled : Bool
  fd : Bool
  brs : Bool
  order : Bool
  /-- NBT, DBT and tdc_offset as their fields. -/
  nbt : Nat
  dbt : Nat
  tdc : Nat
  tec : Nat
  rec_ : Nat
  busOff : Bool
  inhibited : Bool
  ackRun : Nat
  txOk : Nat
  arbLost : Nat
  errors : Nat
  busOffs : Nat
  late : Nat
  bufs : List TxBuf
  list : List TxItem
  fifo : List RxFrame
  fifoDropped : Nat
  superseded : Nat
  discarded : Nat
  /-- Oldest staging not yet served per command frame: key and frame number (12 R369). -/
  stagings : List (Nat × Nat)
  /-- Since the last health report (12 R381): degraded, bus-off. -/
  degraded : Bool
  wasOff : Bool
  /-- Frames since any frame was seen on the bus (02 R57). -/
  quiet : Nat
  /-- rxlog ring, newest first, with the seq of each frame (12 R367). -/
  log : List (Nat × RxFrame)
  logSeq : Nat
  deriving DecidableEq, Repr, Inhabited

/-- A source of status frames: a drive of the default profile, or a receive layout (12 R373, R379). -/
structure RxSource where
  status : Nat
  seq : Nat
  motion : Nat
  /-- At least one valid frame since the lane started. -/
  seen : Bool
  /-- Frames since the last valid frame, or since the controller was enabled. -/
  age : Nat
  timedOut : Bool
  deriving DecidableEq, Repr, Inhabited

/-- The drive bus of a lane. -/
structure CanState where
  buses : List Bus
  /-- Command fields of the staging area, 0 to 71 (12 R310, R357). -/
  fields : List Rat
  /-- Status fields, 0 to 63. -/
  status : List Rat
  sources : List RxSource
  /-- Actuators whose next command carries the fault-reset bit (12 R372). -/
  faultReset : List Nat
  deriving DecidableEq, Repr, Inhabited

end Sys2Proof.Machine
end

