-- ==== Sys2Proof/Machine/DriveBus.lean ====
section
/-!
DEFINITION. The drive bus (12): the transmit lists, the buffers, error confinement, cancellation, the inhibit, reception
and the drive profile.
-/

namespace Sys2Proof.Machine

/-! ## The drive profile (12 R370 to R373, R378, R379) -/

/-- A transmit entry of the profile: key, bus, frame mask and content. -/
structure TxEntry where
  key : Nat
  bus : Nat
  mask : Nat
  frame : CanFrame
  deriving DecidableEq, Repr, Inhabited

/-- What the sequencer reads when it builds a list. -/
structure CanCtx where
  lane : Lane
  canp : Canp
  canb : List Canb
  thru : List Thru
  axes : List AxisRec
  slots : List AxisSlot
  active : Bool
  unrefereed : Bool
  home : Bool
  takeoverSeq : Nat
  slot : Nat
  motion : Nat
  frame : Nat
  /-- Frame ticks since the lane became ACTIVE. -/
  sinceActive : Nat
  deriving DecidableEq, Repr

/-- Key of the lane mark. -/
def laneMarkKey : Nat := 0x100

/-- The lane header: bytes 0x00 to 0x03 of a command frame (12 R372). -/
def laneHeader (c : CanCtx) (run reset : Bool) : Bytes :=
  [BitVec.ofNat 8 (c.lane.code + 2 * b2n c.active + 4 * b2n run + 8 * b2n reset), BitVec.ofNat 8 c.takeoverSeq,
   BitVec.ofNat 8 c.motion, BitVec.ofNat 8 c.slot]

/-- The lane mark (12 R371). -/
def laneMark (c : CanCtx) : Bytes :=
  [BitVec.ofNat 8 c.lane.code, BitVec.ofNat 8 (b2n c.active + 2 * b2n c.unrefereed + 4 * b2n c.home),
   BitVec.ofNat 8 c.takeoverSeq, BitVec.ofNat 8 c.slot, BitVec.ofNat 8 c.motion, 0] ++ leBytes 2 c.frame

/-- The axes of a drive that have a command field, in ascending order (12 R372). -/
def driveAxes (c : CanCtx) (d : Nat) : List AxisRec :=
  (List.range 72).filterMap fun n => c.axes.find? fun a => a.axis == n && a.actuator == d && a.outKind.testBit 1

/-- Whether any axis of a drive is not in OFF. -/
def driveRuns (c : CanCtx) (d : Nat) : Bool :=
  c.axes.any fun a => a.actuator == d && !decide ((nth default c.slots a.axis).mode = .off)

/-- The command frame of a drive in the default profile (12 R370, R372). -/
def driveCommand (c : CanCtx) (fields : List Rat) (resets : List Nat) (d : Nat) : Bytes :=
  let vals := (driveAxes c d).map fun a => nth 0 fields a.canField
  laneHeader c (driveRuns c d) (resets.contains d) ++ ((List.range 3).map fun k => leF32 (nth 0 vals k)).flatten

/-- Nearest integer. -/
def nearest (q : Rat) : Int := (q + 1 / 2).floor

/-- Bytes of a value of a field type: 0 f32, 1 i16, 2 u16, 3 i32, 4 u8; bit 7 big-endian (12 R379). -/
def fieldBytes (type : Nat) (q : Rat) : Bytes :=
  let bs := match type % 8 with
    | 0 => leF32 q
    | 1 => leInt 2 (clampI (-32768) 32767 (nearest q))
    | 2 => leBytes 2 (clampI 0 65535 (nearest q)).toNat
    | 3 => leInt 4 (clampI (-2147483648) 2147483647 (nearest q))
    | _ => leBytes 1 (clampI 0 255 (nearest q)).toNat
  if type.testBit 7 then bs.reverse else bs

/-- Bytes of a field type at an offset, least significant first. -/
def fieldSlice (type : Nat) (bs : Bytes) (off : Nat) : Bytes :=
  let w := slice bs off (match type % 8 with | 0 => 4 | 1 => 2 | 2 => 2 | 3 => 4 | _ => 1)
  if type.testBit 7 then w.reverse else w

/-- Value of a field type at an offset. -/
def fieldValue (type : Nat) (bs : Bytes) (off : Nat) : Rat :=
  let w := fieldSlice type bs off
  match type % 8 with
  | 0 => fieldF w 0
  | 1 => (fieldI w 0 2 : Rat)
  | 2 => (leNat w : Rat)
  | 3 => (fieldI w 0 4 : Rat)
  | _ => (leNat w : Rat)

/-- Bytes written at an offset. -/
def overlay (bs : Bytes) (off : Nat) (new : Bytes) : Bytes :=
  bs.mapIdx fun i b => if off ≤ i ∧ i < off + new.length then new.getD (i - off) 0 else b

/-- Content of an installer layout (12 R379). -/
def layoutData (c : CanCtx) (fields : List Rat) (resets : List Nat) (f : CanFrameRec) : Bytes :=
  let acts := f.fields.filterMap fun k =>
    if k.kind = 1 then (c.axes.find? fun a => a.canField == k.index && a.outKind.testBit 1).map (·.actuator) else none
  f.fields.foldl (fun bs k =>
    if k.kind = 1 then overlay bs k.offset (fieldBytes k.type (nth 0 fields k.index * k.scale))
    else if k.kind = 3 then overlay bs k.offset (laneHeader c (acts.any (driveRuns c)) (acts.any resets.contains))
    else if k.kind = 4 then overlay bs k.offset (fieldBytes k.type k.scale) else bs) (zeros f.length)

/-- The enabled bus entry of a number. -/
def canbOf (cs : List Canb) (bus : Nat) : Option Canb := cs.find? fun b => b.bus == bus && b.flags.testBit 0

/-- The transmit entries of the profile with their present content. -/
def txEntries (c : CanCtx) (fields : List Rat) (resets : List Nat) : List TxEntry :=
  if c.canp.profile = 1 then
    (List.range 24).filterMap fun d =>
      match c.thru.find? fun t => t.actuator == d with
      | some t => some ⟨d, t.driveBus, 2 ^ c.canp.commandSlot,
          ⟨0x200 + d, false, true, match canbOf c.canb t.driveBus with | some b => b.flags.testBit 2 | none => false, false,
           driveCommand c fields resets d⟩⟩
      | none => none
  else
    c.canp.frames.filterMap fun f =>
      if f.direction = 1 then
        some ⟨f.frame, f.bus, f.frameMask, ⟨f.identifier, f.flags.testBit 0, f.flags.testBit 1, f.flags.testBit 2, false,
          layoutData c fields resets f⟩⟩
      else none

/-- The lane mark of a bus, when lane marks are on (12 R357, R370). -/
def laneMarkItem (c : CanCtx) (b : Bus) : Option TxItem :=
  if c.canp.laneMarks = 1 then
    some ⟨laneMarkKey, ⟨c.canp.laneMarkId % 2 ^ 29, c.canp.laneMarkId.testBit 29, b.fd, b.brs && b.fd, false, laneMark c⟩⟩
  else none

/-- Whether an entry is listed in this frame: by its mask; at the first frame as ACTIVE every entry, and then none for
three frames (12 R357, R376). -/
def TxEntry.listed (c : CanCtx) (e : TxEntry) : Bool :=
  if c.sinceActive = 0 then true else e.mask.testBit c.slot && decide (3 ≤ c.sinceActive)

/-! ## Buffers (12 R358 to R360) -/

/-- Whether a buffer is free. -/
def TxBuf.free (b : TxBuf) : Bool := b.item.isNone

/-- Load a free buffer. -/
def TxBuf.load (b : TxBuf) (i : TxItem) : TxBuf := { b with item := some i, next := none, late := false }

/-- Load the free command buffers from the list, in order (12 R358). -/
def Bus.refill (b : Bus) : Bus :=
  let go := fun (b : Bus) (k : Nat) =>
    match b.list with
    | i :: rest =>
      if (nth default b.bufs k).free then { b with bufs := modNth b.bufs k (·.load i), list := rest } else b
    | [] => b
  go (go b 1) 2

/-- Newer content for a buffer that holds a frame (12 R360): it waits for the cancel or the completion; a frame not yet
marked pending is replaced at once. -/
def Bus.restage (b : Bus) (k : Nat) (i : TxItem) : Bus :=
  let x := nth default b.bufs k
  let busy := decide (x.state = 1 ∨ x.state = 2)
  { b with bufs := b.bufs.set k (if busy then { x with next := some i } else x.load i),
           superseded := if !busy || x.next.isSome then satInc 16 b.superseded else b.superseded }

/-- Stage a command frame (12 R360): newest content wins in the list, in a buffer, or at the end of the list. -/
def Bus.stage (frame : Nat) (b : Bus) (i : TxItem) : Bus :=
  let b := { b with stagings := if b.stagings.any fun s => s.1 == i.key then b.stagings else b.stagings ++ [(i.key, frame)] }
  if b.list.any fun j => j.key == i.key then
    { b with list := b.list.map fun j => if j.key = i.key then i else j, superseded := satInc 16 b.superseded }
  else
    match b.bufs.findIdx? fun x => (match x.item with | some j => j.key == i.key | none => false) with
    | some k => b.restage k i
    | none => { b with list := b.list ++ [i] }

/-- Stage the lane mark in TXB0 (12 R358, R360). -/
def Bus.stageMark (b : Bus) (i : TxItem) : Bus :=
  let x := nth default b.bufs 0
  if x.free then { b with bufs := modNth b.bufs 0 (·.load i) }
  else b.restage 0 i

/-- The list of a bus at phase 118 µs of microframe 0 (12 R357, R365, R376). -/
def Bus.build (c : CanCtx) (fields : List Rat) (resets : List Nat) (n : Nat) (b : Bus) : Bus :=
  if !b.enabled || !c.active || b.inhibited then b
  else
    let es := (txEntries c fields resets).filter fun e => e.bus == n && e.listed c
    let b := match laneMarkItem c b with | some i => b.stageMark i | none => b
    (es.foldl (fun b e => b.stage c.frame ⟨e.key, e.frame⟩) b).refill

/-- The outputs of the axes with a drive command field (12 R310). -/
def stageFields (axes : List AxisRec) (slots : List AxisSlot) (fields : List Rat) : List Rat :=
  axes.foldl (fun fs a => if a.outKind.testBit 1 then fs.set a.canField (nth default slots a.axis).out else fs) fields

/-- Transmit lists of every bus; a fault-reset bit serves one command (12 R372). -/
def CanState.build (c : CanCtx) (s : CanState) : CanState :=
  let fields := stageFields c.axes c.slots s.fields
  let sent := (txEntries c fields s.faultReset).filter fun e => e.listed c && c.active
      && !(nth default s.buses e.bus).inhibited
  let served := if c.canp.profile = 1 then sent.map (·.key) else if sent.isEmpty then [] else s.faultReset
  { s with fields := fields, buses := s.buses.mapIdx fun n b => b.build c fields s.faultReset n,
           faultReset := s.faultReset.filter fun d => !served.contains d }

/-! ## Arbitration and completion (12 R359, R361, R363) -/

/-- Rank of a frame in arbitration: lower wins (base identifier, then standard before extended, then the extension). -/
def CanFrame.rank (f : CanFrame) : Nat :=
  if f.ext then (f.id / 2 ^ 18) * 2 ^ 19 + 2 ^ 18 + f.id % 2 ^ 18 else f.id * 2 ^ 19

/-- The buffer offered among those pending at a start of frame (12 R359). -/
def Bus.offered (b : Bus) (sof : Nat) : Option Nat :=
  let can := ([0, 1, 2].filterMap fun k =>
    let x := nth default b.bufs k
    match x.item with
    | some i => if (x.state = 1 ∨ x.state = 2) ∧ x.since ≤ sof then some (k, i.frame.rank) else none
    | none => none)
  (can.foldl (fun (best : Option (Nat × Nat)) p =>
    match best with
    | some q => if !b.order && decide (p.2 < q.2) then some p else best
    | none => some p) none).map (·.1)

/-- A buffer after its content left it in a state: newer content is loaded. -/
def TxBuf.settle (b : TxBuf) (st : Nat) : TxBuf :=
  match b.next with
  | some i => { b with state := st, item := some i, next := none, late := false }
  | none => { b with state := st, item := none, late := false }

/-- Error counters frozen or not, passive (PRESUMED: log entry 79). -/
def Bus.passive (b : Bus) : Bool := decide (128 ≤ b.tec) || decide (128 ≤ b.rec_)

/-- State code of register 0x10 (12 R380) (PRESUMED: log entry 79). -/
def Bus.stateCode (b : Bus) : Nat := if b.inhibited then 4 else if b.busOff then 2 else if b.passive then 1 else 0

/-- Codes of a bus while its conditions hold. -/
def Bus.codes (n : Nat) (b : Bus) : List AlarmOp :=
  [AlarmOp.whileOn (b.passive && !b.busOff) ⟨.db, 1⟩ n 0, AlarmOp.whileOn b.busOff ⟨.db, 3⟩ n 0,
   AlarmOp.whileOn (decide (16 ≤ b.ackRun)) ⟨.db, 7⟩ n 0]

/-- A module frame completes (12 R358, R361, R369). -/
def Bus.complete (n sof ns : Nat) (b : Bus) : Bus × List AlarmOp :=
  if b.busOff ∨ b.inhibited then (b, [])
  else
    match b.offered sof with
    | none => (b, [])
    | some k =>
      let x := nth default b.bufs k
      let key := match x.item with | some i => i.key | none => laneMarkKey
      let x' := { x.settle (if x.late then 4 else 3) with time := ns }
      let b := { b with bufs := b.bufs.set k x', txOk := (b.txOk + 1) % 2 ^ 32, ackRun := 0, tec := b.tec - 1,
                        stagings := b.stagings.filter fun s => s.1 != key }
      let b := b.refill
      (b, b.codes n ++ (if key = laneMarkKey then [] else [.clear ⟨.db, 10⟩ n]))

/-- What a failed transmission or reception met (12 R361, R364). -/
inductive CanError where
  | arbitration
  | acknowledge
  | transmit
  /-- Error seen as a receiver, and whether it raises the counter by 8. -/
  | receive (big : Bool)
  deriving DecidableEq, Repr, Inhabited

/-- An arbitration loss or an error (12 R361 to R364): the frame is retried, unless a cancel takes effect
(PRESUMED: log entry 79). -/
def Bus.error (n sof : Nat) (e : CanError) (b : Bus) : Bus × List AlarmOp :=
  if b.busOff ∨ b.inhibited then (b, [])
  else
    let cancelled := fun (b : Bus) =>
      match b.offered sof with
      | some k =>
        let x := nth default b.bufs k
        if x.late then
          ({ b with bufs := b.bufs.set k (x.settle 6),
                    superseded := if x.next.isSome then satInc 16 b.superseded else b.superseded } : Bus).refill
        else b
      | none => b
    let b' : Bus := match e with
      | .arbitration => { b with arbLost := satInc 16 b.arbLost }
      | .acknowledge =>
        cancelled { b with errors := satInc 16 b.errors, ackRun := min 31 (b.ackRun + 1),
                           tec := if b.passive then b.tec else b.tec + 8 }
      | .transmit => cancelled { b with errors := satInc 16 b.errors, tec := b.tec + 8 }
      | .receive big => { b with errors := satInc 16 b.errors, rec_ := min 255 (b.rec_ + if big then 8 else 1) }
    let off := decide (255 < b'.tec)
    let b' := if off then { b' with busOff := true, busOffs := satInc 16 b'.busOffs, wasOff := true } else b'
    let b' := { b' with degraded := b'.degraded || b'.passive || decide (16 ≤ b'.ackRun) }
    (b', b'.codes n)

/-- 128 occurrences of 11 recessive bits (12 R362): error active with both counters at 0 (PRESUMED: log entry 79). -/
def Bus.recover (n : Nat) (b : Bus) : Bus × List AlarmOp :=
  if b.busOff then
    let bufs := b.bufs.map fun x => match x.next with | some i => { x.load i with state := 1 } | none => x
    let b := { b with busOff := false, tec := 0, rec_ := 0, bufs := bufs,
                      superseded := satTo 16 (b.superseded + (b.bufs.filter fun x => x.next.isSome).length) }
    (b, b.codes n)
  else (b, [])

/-- The sequencer marks a loaded buffer pending (12 R380). -/
def Bus.request (k since : Nat) (b : Bus) : Bus :=
  if b.inhibited then b
  else { b with bufs := modNth b.bufs k fun x => if x.item.isSome then { x with state := 1, since := since } else x }

/-- When a cancel request arrives (12 R363). -/
inductive CancelTime where
  /-- The frame is not being transmitted, or is in arbitration at or before the sample point. -/
  | before
  /-- After that sample point. -/
  | after
  deriving DecidableEq, Repr, Inhabited

/-- A cancel request (12 R360, R363). -/
def Bus.cancel (k : Nat) (w : CancelTime) (b : Bus) : Bus :=
  let x := nth default b.bufs k
  if x.item.isNone ∨ (x.state ≠ 1 ∧ x.state ≠ 2) then b
  else
    match w with
    | .before =>
      ({ b with bufs := b.bufs.set k (x.settle 5),
                superseded := if x.next.isSome then satInc 16 b.superseded else b.superseded } : Bus).refill
    | .after => { b with bufs := b.bufs.set k { x with late := true, state := 2 } }

/-- The Baize's inhibit asserts (12 R365). -/
def Bus.inhibit (b : Bus) : Bus :=
  { b with inhibited := true, list := [], stagings := [],
           bufs := b.bufs.map fun x => if x.item.isSome then { x with state := 5, item := none, next := none, late := false } else x }

/-- A command frame is late (12 R369): its oldest staging is two frames old (DESIGN CHOICE: log entry 87). -/
def Bus.commandLate (n key frame : Nat) (b : Bus) : Bus × List AlarmOp :=
  if b.stagings.any fun s => s.1 == key && decide (s.2 + 2 ≤ frame) then
    ({ b with late := satInc 16 b.late, degraded := true, stagings := b.stagings.filter fun s => s.1 != key },
      [.raise ⟨.db, 10⟩ n key])
  else (b, [])

/-! ## Reception (12 R366 to R368, R373) -/

/-- Whether a frame passes a filter (12 R377). -/
def CanFilter.passes (f : CanFilter) (x : CanFrame) : Bool :=
  f.id.testBit 31 && (f.id % 2 ^ 29 &&& f.mask % 2 ^ 29) == (x.id &&& f.mask % 2 ^ 29)
    && (!f.mask.testBit 29 || f.id.testBit 29 == x.ext)

/-- The receive entry a frame's identifier names on a bus: key and length. -/
def rxEntry (canp : Canp) (thru : List Thru) (bus : Nat) (x : CanFrame) : Option (Nat × Nat × Option CanFrameRec) :=
  if canp.profile = 1 then
    if x.ext = false ∧ 0x280 ≤ x.id ∧ x.id < 0x298 ∧ (thru.any fun t => t.actuator == x.id - 0x280 && t.driveBus == bus) then
      some (x.id - 0x280, 16, none)
    else none
  else
    (canp.frames.find? fun f => f.direction == 2 && f.bus == bus && f.identifier == x.id && f.flags.testBit 0 == x.ext).map
      fun f => (f.frame, f.length, some f)

/-- Whether an identifier is one the module itself sends on a bus (12 R368). -/
def moduleId (canp : Canp) (thru : List Thru) (bus : Nat) (x : CanFrame) : Bool :=
  (canp.laneMarks == 1 && x.id == canp.laneMarkId % 2 ^ 29 && x.ext == canp.laneMarkId.testBit 29) ||
  (if canp.profile = 1 then
    !x.ext && decide (0x200 ≤ x.id ∧ x.id < 0x218) && thru.any fun t => t.actuator + 0x200 == x.id && t.driveBus == bus
  else canp.frames.any fun f => f.direction == 1 && f.bus == bus && f.identifier == x.id && f.flags.testBit 0 == x.ext)

/-- A valid status frame: the source it is of, and the status fields it carries. -/
def CanState.takeStatus (key : Nat) (lay : Option CanFrameRec) (x : CanFrame) (s : CanState) : CanState :=
  let src := nth default s.sources key
  match lay with
  | none =>
    let fields := (List.range 3).foldl (fun fs k => if key ≤ 20 then List.set fs (3 * key + k) (fieldF x.data (4 + 4 * k)) else fs) s.status
    { s with status := fields,
             sources := s.sources.set key { src with status := fieldN x.data 0 1, seq := fieldN x.data 1 1,
                                                     motion := fieldN x.data 2 1, seen := true, age := 0, timedOut := false } }
  | some f =>
    let bit := fun (k : CanField) => (leNat (fieldSlice k.type x.data k.offset)).testBit k.index
    let ready := f.fields.all fun k => k.kind != 5 || bit k
    let fault := f.fields.any fun k => k.kind == 6 && bit k
    let fields := f.fields.foldl (fun fs k =>
      if k.kind = 2 then fs.set k.index (fieldValue k.type x.data k.offset * k.scale) else fs) s.status
    { s with status := fields,
             sources := s.sources.set key { src with status := b2n ready + 2 * b2n fault, seen := true, age := 0, timedOut := false } }

/-- A frame is received (12 R366 to R368) (PRESUMED: log entry 79). -/
def CanState.receive (canp : Canp) (canb : List Canb) (thru : List Thru) (bus : Nat) (x : RxFrame) (s : CanState) :
    CanState × List AlarmOp :=
  let b : Bus := { nth default s.buses bus with quiet := 0 }
  let put := fun (b : Bus) (s : CanState) => { s with buses := s.buses.set bus b }
  let ends := fun (b : Bus) => b.codes bus
  if !b.enabled || b.busOff then (s, [])
  else
    let b := if b.inhibited then b else { b with rec_ := if 128 ≤ b.rec_ then 127 else b.rec_ - 1, ackRun := 0 }
    if x.frame.remote then (put { b with discarded := satInc 16 b.discarded } s, ends b)
    else if moduleId canp thru bus x.frame then (put { b with degraded := true } s, ends b ++ [.raise ⟨.db, 15⟩ bus 0])
    else match rxEntry canp thru bus x.frame with
      | some (key, len, lay) =>
        if x.frame.data.length = len then ((put b s).takeStatus key lay x.frame, ends b ++ [.clear ⟨.db, 12⟩ key])
        else (put { b with discarded := satInc 16 b.discarded } s, ends b)
      | none =>
        let pass := match canbOf canb bus with
          | some r => (r.filters.take r.filterCount).any fun f => f.passes x.frame
          | none => false
        if !pass then (put b s, ends b)
        else if 64 ≤ b.fifo.length then (put { b with fifoDropped := satInc 16 b.fifoDropped } s, ends b ++ [.raise ⟨.db, 5⟩ bus 0])
        else (put { b with fifo := b.fifo ++ [x] } s, ends b)

/-- The head of the FIFO is removed (12 R380). -/
def Bus.pop (b : Bus) : Bus := { b with fifo := b.fifo.drop 1 }

/-- The comms core empties the FIFO into the ring (12 R367). -/
def Bus.drain (b : Bus) : Bus :=
  b.fifo.foldl (fun b x => { b with log := ((b.logSeq, x) :: b.log).take 256, logSeq := b.logSeq + 1 }) { b with fifo := [] }

/-- The time-out of a source in frames (12 R373, R379). -/
def sourceTimeout (canp : Canp) (key : Nat) : Nat :=
  if canp.profile = 1 then canp.statusTimeout
  else match canp.frames.find? fun f => f.frame == key && f.direction == 2 with
    | some f => if f.timeout = 0 then canp.statusTimeout else f.timeout
    | none => canp.statusTimeout

/-- Sources that the profile has. -/
def sourceUsed (canp : Canp) (thru : List Thru) (key : Nat) : Bool :=
  if canp.profile = 1 then thru.any fun t => t.actuator == key else canp.frames.any fun f => f.frame == key && f.direction == 2

/-- No valid status frame for status_timeout (12 R373). -/
def CanState.statusTimeout (canp : Canp) (thru : List Thru) (key : Nat) (s : CanState) : CanState × List AlarmOp :=
  let src := nth default s.sources key
  if sourceUsed canp thru key ∧ sourceTimeout canp key ≤ src.age ∧ key < 128 then
    ({ s with sources := s.sources.set key { src with timedOut := true } }, [.raise ⟨.db, 12⟩ key 0])
  else (s, [])

/-- The source that carries a status field (12 R373, R379). -/
def fieldSource (canp : Canp) (n : Nat) : Option Nat :=
  if canp.profile = 1 then some (n / 3)
  else (canp.frames.find? fun f => f.direction == 2 && f.fields.any fun k => k.kind == 2 && k.index == n).map (·.frame)

/-- Value of a status field and whether it is lost (12 R313, R373). -/
def CanState.statusField (canp : Canp) (s : CanState) (n : Nat) : Rat × Bool :=
  match fieldSource canp n with
  | some k => let src := nth default s.sources k; (nth 0 s.status n, !src.seen || src.timedOut)
  | none => (nth 0 s.status n, true)

/-- Whether a source says its drive is not ready (12 R373). -/
def RxSource.notReady (r : RxSource) : Bool := !r.seen || r.timedOut || r.status % 8 != 1

/-- Whether the drive of an actuator counts as not ready for 09 R270. -/
def CanState.driveNotReady (canp : Canp) (axes : List AxisRec) (s : CanState) (d : Nat) : Bool :=
  if canp.profile = 1 then (nth default s.sources d).notReady
  else
    axes.any fun a => a.actuator == d && decide (0x80 ≤ a.channel ∧ a.channel < 0xC0) &&
      (match fieldSource canp (a.channel - 0x80) with | some k => (nth default s.sources k).notReady | none => true)

/-- Frames: ages of the sources, and of the last frame seen on each bus (12 R373; 02 R57). -/
def CanState.age (s : CanState) : CanState :=
  { s with sources := s.sources.map fun r => { r with age := satInc 16 r.age },
           buses := s.buses.map fun b => { b with quiet := satInc 16 b.quiet } }

/-- Bus state of the health report (12 R381). -/
def Bus.health (b : Bus) : Nat := if !b.enabled then 3 else if b.busOff || b.wasOff then 2 else if b.degraded || b.passive || decide (16 ≤ b.ackRun) then 1 else 0

/-- A controller at lane start, from CANB (12 R377, R380). -/
def initBus (cs : List Canb) (n : Nat) : Bus :=
  let z : Bus := { (default : Bus) with bufs := [default, default, default] }
  match canbOf cs n with
  | some r =>
    { z with enabled := true, fd := r.flags.testBit 1, brs := r.flags.testBit 2, order := r.flags.testBit 3,
             nbt := r.nomBrp + 256 * r.nomTseg1 + 65536 * r.nomTseg2 + 16777216 * r.nomSjw,
             dbt := r.dataBrp + 256 * r.dataTseg1 + 65536 * r.dataTseg2 + 16777216 * r.dataSjw, tdc := r.tdcOffset }
  | none => z

/-- The drive bus at lane start. -/
def initCan (cs : List Canb) : CanState :=
  { buses := (List.range 4).map (initBus cs), fields := List.replicate 72 0, status := List.replicate 64 0,
    sources := List.replicate 128 default, faultReset := [] }

end Sys2Proof.Machine
end

