-- ==== Sys2Proof/Machine/TypesFb.lean ====
section
/-!
DEFINITION. Plain-data types of the feedback interface (11).
-/

namespace Sys2Proof.Machine

/-- A latch set (11 R340). -/
structure FbSet where
  count : Int
  /-- Time of the count, modulo 2^64. -/
  ts : Nat
  mf : Nat
  speed : Rat
  loss : Bool
  criterion : Nat
  deriving DecidableEq, Repr, Inhabited

/-- One feedback channel of a lane (11 R325 to R350). -/
structure FbChan where
  /-- Filtered lines, raw complement wires, raw SSI data line. -/
  lineA : Bool
  lineB : Bool
  lineZ : Bool
  compA : Bool
  compB : Bool
  compZ : Bool
  ssiData : Bool
  count : Int
  /-- Counting steps, not reduced and not set by an index (11 R342). -/
  travel : Int
  /-- Mode 1: phase in degrees, whole periods, whether a conversion has been taken; conversions taken. -/
  phase : Rat
  periods : Int
  hasPhase : Bool
  conversions : Nat
  /-- Sample (or conversion) numbers of the last four illegal transitions, newest first. -/
  illegal : List Nat
  /-- An illegal transition arrived since the last latch. -/
  illegalNow : Bool
  phaseErrors : Nat
  disagrees : Nat
  ssiInvalid : Nat
  /-- Pairs whose wires read alike (bits A, B, Z; three more: already declared) and the sample at which each began. -/
  alike : Nat
  alikeSince : List Nat
  /-- Amplitude in 1/4096; consecutive conversions outside the window. -/
  ampLast : Nat
  ampMin : Nat
  ampOut : Bool
  ampRun : Nat
  /-- SSI: last valid raw position, its time, consecutive invalid frames, last frame valid. -/
  ssiRaw : Option Nat
  ssiTime : Nat
  ssiMissRun : Nat
  ssiValid : Bool
  supplyOn : Bool
  supplyMa : Nat
  supplyV : Nat
  /-- Microframes the supply has been at its limit, and below the open current. -/
  shortRun : Nat
  openRun : Nat
  loss : Bool
  criterion : Nat
  /-- Criteria that hold as events left them: bits 2 and 5 to 7 (11 R349). -/
  holds : Nat
  /-- Microframes in which no criterion has held. -/
  clearRun : Nat
  losses : Nat
  referenced : Bool
  armed : Bool
  armNext : Bool
  capture : Int
  disc : Int
  /-- Successive discrepancies (11 R345), and whether the next index event references without judgement. -/
  succession : Nat
  relearn : Bool
  indexSeen : Bool
  illegalSeen : Bool
  /-- Newest count change: travel and sample number (11 R342). -/
  edgeTravel : Int
  edgeSample : Nat
  /-- Latches of the last 64 microframes, newest first: travel, edge travel, edge sample. -/
  history : List (Int × Int × Nat)
  edgeAge : Nat
  latch : FbSet
  held : FbSet
  deriving DecidableEq, Repr, Inhabited

/-- The feedback interface of a lane: 24 channels and the sample number of the last phase 0. -/
structure FbState where
  chans : List FbChan
  sample : Nat
  deriving DecidableEq, Repr, Inhabited

end Sys2Proof.Machine
end

