-- ==== Sys2Proof/Machine/Feedback.lean ====
section
/-!
DEFINITION. The feedback interface (11): counting in each mode, the latch, speed, index, loss of a channel.
-/

namespace Sys2Proof.Machine

/-! ## Counts (11 R329 to R333) -/

/-- A count reduced to [0, M), or to a signed 32-bit value with modulus 0 (11 R333). -/
def reduceCount (m : Nat) (c : Int) : Int :=
  if m = 0 then signed 32 (unsigned 32 c) else c % (m : Int)

/-- The count set to a first position, which is its travel too (11 R331, R338). -/
def FbChan.place (r : Fbch) (c : Int) (sample : Nat) (f : FbChan) : FbChan :=
  { f with count := reduceCount r.modulus c, travel := c, edgeTravel := c, edgeSample := sample }

/-- Step of the counter by the invert flag (11 R329). -/
def FbChan.step (r : Fbch) (d : Int) (sample : Nat) (f : FbChan) : FbChan :=
  let d := if r.flags.testBit 0 then -d else d
  if d = 0 then f
  else { f with count := reduceCount r.modulus (f.count + d), travel := f.travel + d, edgeTravel := f.travel + d,
                edgeSample := sample }

/-- An illegal transition at a sample (11 R329 to R332). -/
def FbChan.illegalAt (n : Nat) (f : FbChan) : FbChan :=
  { f with phaseErrors := satInc 16 f.phaseErrors, illegal := (n :: f.illegal).take 4, illegalNow := true,
           illegalSeen := true }

/-- Position of a filtered (A, B) state in the Gray sequence 00, 01, 11, 10 (11 R329). -/
def grayIndex (a b : Bool) : Nat := if a then (if b then 2 else 3) else (if b then 1 else 0)

/-- The filtered line after a sample: in mode 4 a pair that reads alike keeps its level (11 R334). -/
def newLevel (mode : Nat) (old wire comp : Bool) : Bool := if mode = 4 ∧ wire = comp then old else wire

/-- Where a pair that is checked reads alike: the mask bit and the sample it began at; bits 3 to 5 mark the pairs already
declared (11 R334). -/
def FbChan.alikeStep (r : Fbch) (sample : Nat) (pairs : List (Bool × Bool)) (f : FbChan) : FbChan :=
  if r.mode = 4 then
    let was := fun (k : Nat) => f.alike.testBit k
    let now := fun (k : Nat) => let p := nth (false, true) pairs k; p.1 == p.2 && (k != 2 || r.indexMode != 0)
    { f with alike := sumN ((List.range 3).map fun k => if now k then 2 ^ k + (if f.alike.testBit (k + 3) then 2 ^ (k + 3) else 0) else 0),
             alikeSince := (List.range 3).map fun k => if now k && !was k then sample else nth 0 f.alikeSince k,
             holds := if (List.range 3).any now then f.holds else f.holds % 4 + f.holds / 8 * 8 }
  else f

/-- A new level of the lines at a sample (11 R329, R330). -/
def FbChan.lines (r : Fbch) (sample : Nat) (a b z ca cb cz : Bool) (f : FbChan) : FbChan :=
  let na := newLevel r.mode f.lineA a ca
  let nb := newLevel r.mode f.lineB b cb
  let nz := newLevel r.mode f.lineZ z cz
  let riseA := na && !f.lineA
  let riseB := nb && !f.lineB
  let d := (grayIndex na nb + 4 - grayIndex f.lineA f.lineB) % 4
  let changedB := nb != f.lineB
  let f' := { FbChan.alikeStep r sample [(a, ca), (b, cb), (z, cz)] f with
              lineA := na, lineB := nb, lineZ := nz, compA := ca, compB := cb, compZ := cz }
  if r.mode = 2 ∨ r.mode = 3 ∨ r.mode = 4 then
    (if d = 1 then f'.step r 1 sample else if d = 3 then f'.step r (-1) sample
     else if d = 2 then f'.illegalAt sample else f')
  else if r.mode = 6 then
    (if riseA then (if changedB then f'.illegalAt sample else f'.step r (if nb then 1 else -1) sample) else f')
  else if r.mode = 7 then
    (if riseA then (if changedB then f'.illegalAt sample else f'.step r 1 sample)
     else if riseB then f'.step r (-1) sample else f')
  else f'

/-- A mode 1 conversion (11 R331, R335): sine and cosine in volts (DEDUCED: log entry 78). -/
def FbChan.conversion (r : Fbch) (sample : Nat) (s c : Rat) (f : FbChan) : FbChan :=
  let amp := (s * s + c * c) / (25 / 100)
  let outside := decide (amp < 6 / 10) || decide (13 / 10 ≤ amp)
  let a16 := satTo 16 (amp * 4096).floor.toNat
  let phi := wrap360 (atan2Q s c)
  let n := f.conversions + 1
  let f' := { f with conversions := n, ampLast := a16, ampMin := min f.ampMin a16, ampOut := outside,
                     ampRun := if outside then f.ampRun + 1 else 0, phase := phi, hasPhase := true }
  let raw := fun (p : Int) (x : Rat) => p * (r.interp : Int) + (x / 360 * (r.interp : Rat)).floor
  if !f.hasPhase then f'.place r (raw 0 phi) sample
  else
    let d := wrap180 (phi - f.phase)
    if 135 ≤ absQ d then f'.illegalAt n
    else
      let p := f.periods + (if phi - f.phase < -180 then 1 else if 180 < phi - f.phase then -1 else 0)
      { f' with periods := p }.step r (raw p phi - raw f.periods f.phase) sample

/-- What an SSI frame shows (11 R336, R337). -/
structure SsiFrame where
  /-- Data bits as received. -/
  bits : Nat
  errorBit : Bool
  parityBit : Bool
  /-- Data high before the first clock edge; line delay within 2 µs; low after the last bit and high again in time;
  complete at the receiving lane's phase 0. -/
  highBefore : Bool
  delayOk : Bool
  closeOk : Bool
  complete : Bool
  /-- Position time, ns. -/
  time : Nat
  deriving DecidableEq, Repr, Inhabited

/-- Gray code to binary. -/
def grayToBinary : Nat → Nat → Nat
  | 0, _ => 0
  | n + 1, g => if g = 0 then 0 else g ^^^ grayToBinary n (g / 2)

/-- Number of ones in the low n bits. -/
def ones : Nat → Nat → Nat
  | 0, _ => 0
  | n + 1, x => x % 2 + ones n (x / 2)

/-- Position of a frame. -/
def SsiFrame.position (r : Fbch) (s : SsiFrame) : Nat :=
  let d := s.bits % 2 ^ r.ssiBits
  if r.ssiFormat.testBit 0 then grayToBinary r.ssiBits d else d

/-- Difference of two positions, reduced to the signed range of ssi_bits (11 R338). -/
def ssiDiff (bits a b : Nat) : Int := signed bits ((a + 2 ^ bits - b % 2 ^ bits) % 2 ^ bits)

/-- Whether a frame is valid (11 R337). -/
def SsiFrame.valid (r : Fbch) (prev : Option Nat) (s : SsiFrame) : Bool :=
  let pos := s.position r
  s.highBefore && s.delayOk && s.closeOk && s.complete && !(r.ssiFormat.testBit 1 && s.errorBit)
    && !(r.ssiFormat.testBit 2 && (ones r.ssiBits (s.bits % 2 ^ r.ssiBits) + b2n s.parityBit) % 2 == 1)
    && (match prev with | some p => r.maxStep == 0 || decide ((ssiDiff r.ssiBits pos p).natAbs ≤ r.maxStep) | none => true)

/-- An SSI frame completes (11 R337, R338) (DEDUCED: log entry 78). -/
def FbChan.ssi (r : Fbch) (sample : Nat) (s : SsiFrame) (f : FbChan) : FbChan :=
  if s.valid r f.ssiRaw then
    let pos := s.position r
    let f := match f.ssiRaw with | some p => FbChan.step r (ssiDiff r.ssiBits pos p) sample f | none => f.place r pos sample
    { f with ssiRaw := some pos, ssiTime := s.time % 2 ^ 64, ssiMissRun := 0, ssiValid := true }
  else { f with ssiMissRun := f.ssiMissRun + 1, ssiValid := false, ssiInvalid := satInc 8 f.ssiInvalid }

/-! ## Loss (11 R348, R349) -/

/-- Whether any criterion holds now. -/
def FbChan.criterionHolds (r : Fbch) (f : FbChan) : Bool :=
  (r.mode == 1 && decide (r.ampSamples ≤ f.ampRun)) || (r.mode == 5 && decide (r.ssiMiss ≤ f.ssiMissRun))
    || (r.supplyOpenMa != 0 && decide (800 ≤ f.openRun)) || f.illegalNow
    || f.holds.testBit 2 || f.holds.testBit 5 || f.holds.testBit 7

/-- The loss flag is set with a criterion (11 R348, R349): FB-010; with the hold flag the channel loses its reference. -/
def FbChan.lose (r : Fbch) (k : Nat) (f : FbChan) : FbChan × List AlarmOp :=
  let unref := r.flags.testBit 2 && decide (r.mode ≠ 5 ∧ r.indexMode ≠ 0)
  let f' := { f with clearRun := 0, referenced := f.referenced && !unref, relearn := f.relearn || unref }
  if f.loss then (f', [])
  else ({ f' with loss := true, criterion := k, losses := satInc 16 f.losses }, [.raise ⟨.fb, 10⟩ r.channel k])

/-- The loss flag clears after clear_time with no criterion (11 R349) (DEDUCED: log entry 78). -/
def FbChan.lossClear (r : Fbch) (f : FbChan) : FbChan × List AlarmOp :=
  if f.loss ∧ 8 * r.clearTime ≤ f.clearRun ∧ (r.flags.testBit 2 = false ∨ f.referenced = true) then
    ({ f with loss := false, criterion := 0 }, [.clear ⟨.fb, 10⟩ r.channel, .clear ⟨.fb, 4⟩ r.channel,
      .clear ⟨.fb, 13⟩ r.channel])
  else (f, [])

/-- The 4th illegal transition within 1 024 samples (11 R332). -/
def FbChan.illegalFault (r : Fbch) (f : FbChan) : FbChan × List AlarmOp :=
  match f.illegal with
  | [n, _, _, o] =>
    if n - o < 1024 then
      let (f, ops) := f.lose r 6
      ({ f with illegal := [] }, .raise ⟨.fb, 4⟩ r.channel 0 :: ops)
    else (f, [])
  | _ => (f, [])

/-- A pair has disagreed for more than 3 samples (11 R334). -/
def FbChan.wireDisagree (r : Fbch) (sample : Nat) (f : FbChan) : FbChan × List AlarmOp :=
  let late := fun (k : Nat) => f.alike.testBit k && !f.alike.testBit (k + 3) && decide (nth 0 f.alikeSince k + 3 ≤ sample)
  if r.mode = 4 ∧ (late 0 || late 1 || late 2) = true then
    let marks := sumN ((List.range 3).map fun k => if late k then 2 ^ (k + 3) else 0)
    let (f, ops) := f.lose r 2
    ({ f with alike := f.alike + marks, disagrees := satInc 8 f.disagrees, holds := if f.holds.testBit 2 then f.holds else f.holds + 4 }, ops)
  else (f, [])

/-- amp_samples conversions outside the window (11 R335). -/
def FbChan.amplitudeLoss (r : Fbch) (f : FbChan) : FbChan × List AlarmOp :=
  if r.mode = 1 ∧ r.ampSamples ≤ f.ampRun then f.lose r 1 else (f, [])

/-- ssi_miss invalid frames (11 R337). -/
def FbChan.ssiLoss (r : Fbch) (f : FbChan) : FbChan × List AlarmOp :=
  if r.mode = 5 ∧ r.ssiMiss ≤ f.ssiMissRun then f.lose r 3 else (f, [])

/-- Sensor supply at its limit for 10 ms (11 R339). -/
def FbChan.supplyShort (r : Fbch) (f : FbChan) : FbChan × List AlarmOp :=
  if f.supplyOn ∧ 80 ≤ f.shortRun then
    let (f, ops) := f.lose r 5
    ({ f with supplyOn := false, shortRun := 0, holds := if f.holds.testBit 5 then f.holds else f.holds + 32 },
      .raise ⟨.fb, 20⟩ r.channel 0 :: ops)
  else (f, [])

/-- Sensor supply current below supply_open_ma for 100 ms (11 R339). -/
def FbChan.supplyOpen (r : Fbch) (f : FbChan) : FbChan × List AlarmOp :=
  if r.supplyOpenMa ≠ 0 ∧ 800 ≤ f.openRun then f.lose r 4 else (f, [])

/-- The supply retries (11 R339). -/
def FbChan.supplyRetry (r : Fbch) (f : FbChan) : FbChan × List AlarmOp :=
  if f.holds.testBit 5 then
    ({ f with supplyOn := true, shortRun := 0, holds := f.holds - 32 }, [.clear ⟨.fb, 20⟩ r.channel])
  else (f, [])

/-! ## Index (11 R344 to R346) -/

/-- Discrepancy of a captured count (11 R344). -/
def indexDisc (r : Fbch) (captured : Int) : Int :=
  let p := if r.indexPeriod = 0 then r.modulus else r.indexPeriod
  let d := captured - r.indexValue
  if p = 0 then d
  else
    let m := d % (p : Int)
    if 2 * m < (p : Int) then m else m - (p : Int)

/-- An index event (11 R344 to R346, R349). -/
def FbChan.index (r : Fbch) (f : FbChan) : FbChan × List AlarmOp :=
  let d := indexDisc r f.count
  let f := { f with capture := f.count, disc := d, indexSeen := true }
  let set_ := fun (f : FbChan) => { f with count := reduceCount r.modulus r.indexValue, referenced := true }
  let bad := decide ((r.indexTol : Int) < d.natAbs)
  let hold7 := fun (h : Nat) (on : Bool) => if on then (if h.testBit 7 then h else h + 128) else (if h.testBit 7 then h - 128 else h)
  if r.indexMode = 1 then
    if f.referenced = false ∨ f.relearn = true then
      ({ set_ f with relearn := false, succession := 0 }, [])
    else if bad then
      let n := f.succession + 1
      let f := { set_ f with succession := n }
      if 3 ≤ n then
        let (f, ops) := { f with holds := hold7 f.holds true }.lose r 7
        (f, [.raise ⟨.fb, 11⟩ r.channel 0, .raise ⟨.fb, 13⟩ r.channel 0] ++ ops)
      else (f, [.raise ⟨.fb, 11⟩ r.channel 0])
    else ({ set_ f with succession := 0, holds := hold7 f.holds false }, [.clear ⟨.fb, 11⟩ r.channel])
  else if r.indexMode = 2 then
    if f.armed then ({ set_ f with armed := false, relearn := false }, [.clear ⟨.fb, 11⟩ r.channel])
    else if f.referenced then
      (f, if bad then [.raise ⟨.fb, 11⟩ r.channel 0] else [.clear ⟨.fb, 11⟩ r.channel])
    else (f, [])
  else (f, [])

/-! ## The latch (11 R340 to R342) -/

/-- Seconds of a number of feedback samples. -/
def sampleS (n : Nat) : Rat := (n : Rat) / 50000000

/-- Speed at a latch (11 R342) (DEDUCED: log entry 78). -/
def FbChan.speedNow (r : Fbch) (sample : Nat) (f : FbChan) : Rat :=
  let then_ := nth (0, 0, 0) f.history (r.speedWindow - 1)
  if r.speedMethod = 0 then ((f.travel - then_.1 : Int) : Rat) / ((r.speedWindow : Rat) * microS)
  else if (r.periodTimeout : Rat) / 1000 ≤ sampleS (sample - f.edgeSample) then 0
  else if f.edgeTravel ≠ then_.2.1 ∨ f.edgeSample ≠ then_.2.2 then
    (if f.edgeSample ≤ then_.2.2 then f.latch.speed
     else ((f.edgeTravel - then_.2.1 : Int) : Rat) / sampleS (f.edgeSample - then_.2.2))
  else if sample ≤ f.edgeSample then f.latch.speed
  else
    let m := 1 / sampleS (sample - f.edgeSample)
    clampQ (-m) m f.latch.speed

/-- The latch of one channel at phase 0: `time` is module time modulo 2^64, `mf` the microframe number. -/
def FbChan.latchNow (r : Fbch) (sample time mf : Nat) (supply : Option (Nat × Nat)) (f : FbChan) : FbChan :=
  let v := f.speedNow r sample
  let ma := match supply with | some s => s.1 | none => f.supplyMa
  let f := { f with supplyMa := ma, supplyV := match supply with | some s => s.2 | none => f.supplyV,
                    shortRun := if f.supplyOn ∧ 300 ≤ ma then min 80 (f.shortRun + 1) else 0,
                    openRun := if r.supplyOpenMa ≠ 0 ∧ f.supplyOn ∧ ma < r.supplyOpenMa then min 800 (f.openRun + 1) else 0 }
  { f with latch := ⟨f.count, if r.mode = 5 then f.ssiTime else time, mf, hidden v, f.loss, f.criterion⟩,
           history := ((f.travel, f.edgeTravel, f.edgeSample) :: f.history).take 64,
           edgeAge := satTo 32 (20 * (sample - f.edgeSample)),
           clearRun := if f.criterionHolds r then 0 else f.clearRun + 1, illegalNow := false }

/-- The FBCH entry of a channel. -/
def fbRec (recs : List Fbch) (n : Nat) : Option Fbch := recs.find? fun r => r.channel == n

/-- The latch of every channel; samples advance by 6 250 each microframe (50 MHz). -/
def FbState.latch (recs : List Fbch) (time mf : Nat) (supplies : List (Option (Nat × Nat))) (s : FbState) : FbState :=
  let n := s.sample + 6250
  { s with sample := n, chans := s.chans.mapIdx fun i f =>
      match fbRec recs i with | some r => f.latchNow r n time mf (nth none supplies i) | none => f }

/-- What the loop engine takes of a channel. -/
def FbChan.toLatch (f : FbChan) : FbLatch := ⟨f.latch.count, f.latch.speed, f.latch.loss⟩

/-- Change one channel that has an entry. -/
def FbState.withChan (recs : List Fbch) (n : Nat) (f : Fbch → FbChan → FbChan × List AlarmOp) (s : FbState) :
    FbState × List AlarmOp :=
  match fbRec recs n with
  | some r =>
    let (ch, ops) := f r (nth default s.chans n)
    ({ s with chans := s.chans.set n ch }, ops)
  | none => (s, [])

/-- A channel at reset of the lane (11 R350): registers at their reset values. -/
def FbChan.blank : FbChan := { (default : FbChan) with ampMin := 0xFFFF, alikeSince := [0, 0, 0] }

/-- Channels at lane start (11 R344, R347): those without index and SSI are referenced; reset-once channels arm by
themselves while the other lane runs. -/
def initChans (recs : List Fbch) (otherRuns : Bool) : List FbChan :=
  (List.range 24).map fun i =>
    match fbRec recs i with
    | some r =>
      { FbChan.blank with referenced := r.indexMode == 0 || r.mode == 5, armed := r.indexMode == 2 && otherRuns,
                          supplyOn := r.supply != 0 }
    | none => FbChan.blank

/-- fb.clear and the clear bit (11 R350, R352). -/
def FbChan.clearCounts (f : FbChan) : FbChan :=
  { f with phaseErrors := 0, disagrees := 0, ssiInvalid := 0, ampMin := 0xFFFF }

/-- Bits 15 to 0 of register 0x04 (11 R350). -/
def FbChan.status (f : FbChan) : Nat :=
  b2n f.loss + 2 * f.criterion + 16 * b2n f.referenced + 32 * b2n f.armed + 64 * b2n f.supplyOn + 128 * b2n f.ampOut
    + 256 * b2n f.ssiValid + 512 * b2n f.indexSeen + 1024 * b2n f.illegalSeen

end Sys2Proof.Machine
end

