-- ==== Sys2Proof/Machine/TypesGnss.lean ====
section
/-!
DEFINITION. Plain-data types of the GNSS receiver of a lane (05), and the operands that bring what its correlators and
solvers measure (05 gives no algorithm for those numbers).
-/

namespace Sys2Proof.Machine

/-- A tracking slot (05 R142, R143, R156). -/
structure GnssSlot where
  /-- 0 idle, 1 pull-in, 2 locked, 3 time-synchronised. -/
  state : Nat
  signal : Nat
  svid : Nat
  pseudorange : Rat
  carrier : Rat
  doppler : Rat
  /-- 0.01 dB-Hz. -/
  cn0 : Nat
  /-- Dumps (1 ms) of continuous carrier lock. -/
  lockMs : Nat
  elevation : Int
  azimuth : Nat
  reason : Nat
  flags : Nat
  gloChannel : Int
  /-- Motion cycles the C/N0 has stayed below cn0_drop (05 R144). -/
  lowRun : Nat
  /-- Epochs left of re-admission (05 R166). -/
  wait : Nat
  /-- C/N0 of the last 50 epochs, newest first. -/
  cn0Hist : List Nat
  crossRun : Nat
  dopRun : Nat
  deriving DecidableEq, Repr, Inhabited

/-- An idle slot. -/
def GnssSlot.idle : GnssSlot := ⟨0, 0, 0, 0, 0, 0, 0, 0, 0, 0, 0, 0, 0, 0, 0, [], 0, 0⟩

/-- A qualifying signal that has no slot (05 R151): its score as last computed, and whether a re-admission wait ended with
its slot (05 R168). -/
structure LeftOut where
  signal : Nat
  svid : Nat
  elevation : Int
  cn0 : Nat
  score : Rat
  waiting : Bool
  deriving DecidableEq, Repr, Inhabited

/-- One antenna of a lane (05 R140 to R151). -/
structure AntennaState where
  biasOn : Bool
  biasShort : Bool
  biasOpen : Bool
  /-- Motion cycles above bias_max, and below 5 mA. -/
  overRun : Nat
  underRun : Nat
  /-- Motion cycles since a short has switched the bias off. -/
  offRun : Nat
  highOk : Bool
  lowOk : Bool
  slots : List GnssSlot
  /-- Signals left out (05 R151), and how many mission cycles untracked has stayed above 0. -/
  leftOut : List LeftOut
  untrackedRun : Nat
  /-- The slots and the untracked count of the epoch latched at slot 19, and the published ones (05 R155, R156). -/
  latched : List GnssSlot
  latchedOut : Nat
  meas : List GnssSlot
  measOut : Nat
  decisions : Nat
  /-- Noise above the 600 s median, 0.5 dB (05 R156). -/
  noiseHigh : Nat
  noiseLow : Nat
  deriving DecidableEq, Repr, Inhabited

/-- A navigation message record (05 R153). -/
structure NavRecord where
  seq : Nat
  antenna : Nat
  signal : Nat
  svid : Nat
  kind : Nat
  timeS : Nat
  timeNs : Nat
  bitCount : Nat
  status : Nat
  corrected : Nat
  wordMask : Nat
  bits : Bytes
  deriving DecidableEq, Repr, Inhabited

/-- An ephemeris set of a satellite (05 R154). -/
structure Ephemeris where
  system : Nat
  svid : Nat
  healthy : Bool
  /-- The set itself, as its bits. -/
  data : Bytes
  /-- Module time of its acceptance, s. -/
  acceptedAt : Nat
  deriving DecidableEq, Repr, Inhabited

/-- Position, velocity and time solution (05 R160). -/
structure Pvt where
  epochS : Nat
  epochNs : Nat
  mode : Nat
  flags : Nat
  latitude : Rat
  longitude : Rat
  height : Rat
  velocity : V3
  sigmaH : Rat
  sigmaV : Rat
  clockBias : Rat
  clockDrift : Rat
  hdop : Nat
  signalsUsed : Nat
  satellitesUsed : Nat
  corrAge : Nat
  baseId : Nat
  frameNumber : Nat
  excluded : Nat
  deriving DecidableEq, Repr, Inhabited

/-- Heading object (05 R162). -/
structure GnssHeading where
  epochS : Nat
  epochNs : Nat
  status : Nat
  signals : Nat
  heading : Rat
  pitch : Rat
  sigmaHeading : Rat
  sigmaPitch : Rat
  lengthError : Int
  deriving DecidableEq, Repr, Inhabited

/-- What a lane sends the other in the reserve of slot 1 (05 R166, R174, R175): its solution, heading, and residuals (signal,
svid, cm). -/
structure PeerSolution where
  pvt : Pvt
  heading : GnssHeading
  residuals : List (Nat × Nat × Int)
  deriving DecidableEq, Repr, Inhabited

/-- Offset window of one system (05 R164). -/
structure OffsetWindow where
  /-- estimated - broadcast of the last epochs, newest first, each with whether the system had two signals. -/
  diffs : List (Rat × Bool)
  estimate : Rat
  broadcast : Rat
  insideRun : Nat
  raised : Bool
  deriving DecidableEq, Repr, Inhabited

/-- GNSS receiver of a lane. -/
structure GnssState where
  ant0 : AntennaState
  ant1 : AntennaState
  navRing : List NavRecord
  navSeq : Nat
  /-- Messages of the last 60 s: signal, svid, age in frames, failed (GN-050). -/
  navStats : List (Nat × Nat × Nat × Bool)
  ephs : List Ephemeris
  ephPending : List Ephemeris
  /-- Leap-second count last received. -/
  leap : Option Nat
  pvt : Pvt
  heading : GnssHeading
  /-- Epochs each of the modes 1 to 4 has met its conditions (05 R157). -/
  modeRuns : List Nat
  firstFix : Bool
  noSolution : Nat
  firstHeading : Bool
  noHeading : Nat
  /-- SBAS satellite in use (0 none), frames it must not be used (05 R158). -/
  sbasPrn : Nat
  sbasHold : List (Nat × Nat)
  sbasType1 : List (Nat × Nat)
  rtcmUsed : Nat
  rtcmIgnored : Nat
  rtcmDiscarded : Nat
  /-- Frames since the newest observation message and since the station position, base identifier. -/
  obsAge : Option Nat
  stationAge : Option Nat
  baseId : Nat
  offsets : List OffsetWindow
  /-- Consecutive passing epochs fitted to the OCXO model (05 R168), and whether the model is established. -/
  fitRun : Nat
  driftRun : Nat
  withheld : Bool
  clearRun : Nat
  peer : Option PeerSolution
  peerAge : Nat
  residuals : List (Nat × Nat × Int)
  crossRun : Nat
  /-- Module time of the epoch latched at slot 19 and its frame number (05 R155). -/
  epochS : Nat
  epochNs : Nat
  epochFrame : Nat
  deriving DecidableEq, Repr, Inhabited

/-! ## Operands -/

/-- What one dump tells of one slot (05 R142, R156). -/
structure DumpObs where
  slot : Nat
  codeLock : Bool
  carrierLock : Bool
  timeKnown : Bool
  pseudorange : Rat
  carrier : Rat
  doppler : Rat
  cn0 : Nat
  elevation : Int
  azimuth : Nat
  halfCycle : Bool
  slip : Bool
  deriving DecidableEq, Repr, Inhabited

/-- What the checks measure of one tracked signal at an epoch (05 R166). -/
structure SignalObs where
  antenna : Nat
  slot : Nat
  /-- Residual of the solution, cm. -/
  residual : Int
  /-- Departure of the cross-antenna single difference, cm; of the range rate from the observer's, mm/s. -/
  crossAnt : Int
  dopplerDev : Int
  deriving DecidableEq, Repr, Inhabited

/-- One round of the residual test (05 R166). -/
structure ResidualRound where
  fails : Bool
  antenna : Nat
  slot : Nat
  /-- Largest normalised residual, 0.01. -/
  largest : Nat
  deriving DecidableEq, Repr, Inhabited

/-- What the solvers deliver for an epoch (05 R157 to R168): numbers for which the manual gives no algorithm. -/
structure GnssIn where
  signals : List SignalObs
  rounds : List ResidualRound
  noiseHigh0 : Nat
  noiseLow0 : Nat
  noiseHigh1 : Nat
  noiseLow1 : Nat
  bias0Ma : Nat
  bias1Ma : Nat
  /-- Departures of the clock from the OCXO model: bias over one epoch in ns, drift in ppb. -/
  clockStep : Int
  clockDriftDev : Int
  /-- Largest subset of signals (antenna, slot) whose solution meets the model. -/
  clockSubset : List (Nat × Nat)
  /-- Signals (slots of the first antenna) arriving from within aoa_limit of each other though predicted 30° apart. -/
  aoaCluster : List Nat
  latitude : Rat
  longitude : Rat
  height : Rat
  velocity : V3
  sigmaH : Rat
  sigmaV : Rat
  clockBias : Rat
  clockDrift : Rat
  hdop : Nat
  /-- Corrections for every GPS L1 C/A signal used; slots of the first antenna in common with the base; ambiguities fixed;
  ratio, 0.01. -/
  sbasAll : Bool
  rtkSlots : List Nat
  rtkFixed : Bool
  rtkRatio : Nat
  /-- Heading solution: solved, its signals (signal, svid) in common, ratio, length (m), direction and pitch (degrees), sigmas. -/
  hdgSolved : Bool
  hdgSignals : List (Nat × Nat)
  hdgRatio : Nat
  hdgLength : Rat
  hdgDirection : Rat
  hdgPitch : Rat
  hdgSigma : Rat
  pitchSigma : Rat
  /-- Estimated and broadcast offsets of Galileo, BeiDou and GLONASS to GPS, ns. -/
  offEstimate : List Rat
  offBroadcast : List Rat
  /-- Horizontal distance between the lanes' solutions at a common point, cm (05 R166). -/
  crossLane : Nat
  deriving DecidableEq, Repr, Inhabited

end Sys2Proof.Machine
end

