-- ==== Sys2Proof/Machine/TypesLane.lean ====
section
/-!
DEFINITION. Plain-data types of the state of one lane that chapters 01 to 04 name: frame, life, Attic, redundancy,
partner, Cellar, ledger, supply and calendar; and the operand types that bring the surroundings to the ticks.
-/

namespace Sys2Proof.Machine

/-! ## 01: the frame -/

/-- The frame indices and the slice bookkeeping of a lane (01 R12 to R28). -/
structure FrameState where
  /-- Frame number (00 R8): never steps, never repeats. -/
  number : Nat
  /-- Frame slot, 0 to 19 (01 R14). -/
  slot : Nat
  /-- Motion index, 0 to 49 (01 R14). -/
  motion : Nat
  /-- Microframe index, 0 to 7 (01 R12). -/
  micro : Nat
  /-- Whether the lane has had its first frame tick since its start (02 R40). -/
  ticked : Bool
  /-- Frame indices adopted (01 R16; 02 R58). -/
  adopted : Bool
  /-- Slices started at the last tick (01 R23). -/
  running : List Nat
  /-- Mailbox sequence number per slice (01 R23). -/
  seqs : List (Nat × Nat)
  /-- Frame numbers of the overruns counted within the last 20 frames, one entry per overrun (01 R27). -/
  overruns : List Nat
  /-- Overruns counted since the last health report (02 R59). -/
  overrunsReport : Nat
  /-- Whether each schedulable core acknowledged the tick within 50 µs (01 R24). -/
  acks : List Bool
  /-- Module time (ns) and frame number of the last slot-0 tick: t_k of 07. -/
  cycleNs : Nat
  cycleFrame : Nat
  deriving DecidableEq, Repr, Inhabited

/-! ## 02: lane life -/

/-- Lane states (02 R39); `unpowered` is a lane whose rails are down, before any power-up. -/
inductive LaneLife where
  | starting
  | standby
  | active
  | failed
  | isolated
  deriving DecidableEq, Repr, Inhabited

/-- The code of a lane state in frames (02 R39). -/
def LaneLife.code : LaneLife → Nat
  | .starting => 0
  | .standby => 1
  | .active => 2
  | .failed => 3
  | .isolated => 4

/-- The lane state a code names (02 R39). -/
def LaneLife.ofCode : Nat → Option LaneLife
  | 0 => some .starting
  | 1 => some .standby
  | 2 => some .active
  | 3 => some .failed
  | 4 => some .isolated
  | _ => none

/-- How far a start has come (04 R126). -/
inductive StartPhase where
  /-- Rails up, processor booting. -/
  | boot
  /-- Booted, key being read and checked. -/
  | key
  /-- Key check passed, self-test running. -/
  | selfTest
  /-- Self-test over, waiting for the frame indices to be adopted. -/
  | adopt
  /-- Start over. -/
  | done
  deriving DecidableEq, Repr, Inhabited

/-- The life of a lane (02 R39 to R42). -/
structure LifeState where
  powered : Bool
  state : LaneLife
  phase : StartPhase
  /-- Cause carried in heartbeats (02 R43, R50; 03 R96; 04 R127, R128). -/
  cause : Nat
  /-- Restart latch (02 R41). -/
  latched : Bool
  /-- Bit 0 to 16: subsystems with a failed start item (04 R127). -/
  startFailed : List Nat
  /-- A start item other than a fault item failed and removes readiness until R57 passes (04 R127). -/
  startCode : Bool
  /-- The measured hold-up is below 10 ms (04 R123). -/
  holdupBad : Bool
  /-- Isolated by the installer, not by a differing image (02 R40). -/
  byInstaller : Bool
  /-- Frame ticks since the lane became ACTIVE, and whether it runs without a copy (02 R65). -/
  sinceActive : Nat
  noCopy : Bool
  /-- Takeover order received and not yet obeyed; switch order received (02 R48). -/
  orderTakeover : Bool
  orderSwitch : Bool
  deriving DecidableEq, Repr, Inhabited

/-! ## 02: heartbeat, status and abdication frames -/

/-- The fields of a heartbeat or abdication frame (02 R43). -/
structure Heartbeat where
  kind : Nat
  lane : Nat
  state : Nat
  readiness : Nat
  frameNumber : Nat
  frameSlot : Nat
  motionIndex : Nat
  takeoverSeq : Nat
  flags : Nat
  imageHash : Bytes
  cause : Nat
  overruns : Nat
  selftest : Nat
  copySeq : Nat
  tickOffset : Int
  deriving DecidableEq, Repr, Inhabited

/-- The fields of a Baize status frame (02 R48). -/
structure BaizeStatus where
  flags : Nat
  activeLane : Nat
  order : Nat
  takeoverSeq : Nat
  baizeFrame : Nat
  deriving DecidableEq, Repr, Inhabited

/-- The peer lane as a receiver of heartbeats knows it (02 R43). -/
structure PeerView where
  last : Option Heartbeat
  /-- Frames (or Baize frames) of the receiver since the last valid heartbeat. -/
  missing : Nat
  /-- A valid heartbeat arrived since the last tick. -/
  seenNow : Bool
  /-- Frames since active command traffic of the other lane was seen on each cross-listen receiver (02 R37, R67). -/
  crossAge : List Nat
  deriving DecidableEq, Repr, Inhabited

/-- The Baize link of one lane (02 R66, R69). -/
structure BaizeLink where
  last : Option BaizeStatus
  /-- Frames of the lane's tick without a valid status frame. -/
  missing : Nat
  seenNow : Bool
  /-- Consecutive frames whose status showed neither lane seen while this lane saw the other. -/
  neither : Nat
  /-- Consecutive frames with a valid status frame and the cores agreeing. -/
  good : Nat
  coresAgree : Bool
  /-- This lane sees the Baize absent. -/
  absent : Bool
  deriving DecidableEq, Repr, Inhabited

/-- One self-test item of 02 R57 in the lane: result and when it last completed with a pass (mission count). -/
structure TestItem where
  failed : Bool
  lastPass : Option Nat
  deriving DecidableEq, Repr, Inhabited

/-- Standby self-test and health report (02 R57 to R59). -/
structure HealthState where
  /-- Mission cycles since the lane started. -/
  missions : Nat
  /-- Mission cycles spent in STANDBY. -/
  standbyMissions : Nat
  /-- Output loop-back. -/
  loopback : TestItem
  /-- DRAM scrub and FRAM scrub. -/
  dramScrub : TestItem
  framScrub : TestItem
  /-- Engine test vectors: allocation engine, loop engine, filter engine, tracking sequencers. -/
  vectors : List TestItem
  /-- Drive bus item: frames since 2 or more buses had failed, up to a mission cycle (02 R58). -/
  busOk : Nat
  /-- GNSS item: motion cycles with fewer than 4 signals on an antenna. -/
  gnssLow : List Nat
  scrubCorrected : Nat
  /-- Shadow comparison: consecutive motion cycles outside limits, and the largest differences (m, degrees). -/
  shadowRun : Nat
  shadowPos : Rat
  shadowHdg : Rat
  reportSeq : Nat
  /-- Last published report (the 64-byte object of 02 R59). -/
  report : Bytes
  deriving DecidableEq, Repr, Inhabited

/-- The Muslin link as a lane knows it (02 R44, R65). -/
structure MuslinState where
  /-- Serial lanes up. -/
  serial0 : Bool
  serial1 : Bool
  /-- Measured tick offset to the peer, µs (02 R47). -/
  tickOffset : Int
  /-- Sequence of the last state copy sent, or of the last complete copy received (02 R43). -/
  copySeq : Nat
  /-- Frames since the last complete copy was received (02 R58). -/
  copyAge : Nat
  deriving DecidableEq, Repr, Inhabited

/-! ## 02: partner link -/

/-- The fields of a partner message (02 R73); the triples are kept as the bytes sent. -/
structure PartnerMsg where
  role : Nat
  flags : Nat
  activeLane : Nat
  seq : Nat
  laneStates : List Nat
  mode : Nat
  timeQuality : Nat
  pose : Bytes
  velocity : Bytes
  demand : Bytes
  setpoint : Bytes
  actuators : Nat
  gainBank : Nat
  frameNumber : Nat
  deriving DecidableEq, Repr, Inhabited

/-- The partner link of one lane (02 R73 to R77). -/
structure PartnerState where
  /-- Last valid message from the partner lane on this lane's fibre, and motion cycles since it. -/
  last : Option PartnerMsg
  missing : Nat
  /-- The newest valid message from either partner lane, and motion cycles since it. -/
  newestMsg : Option PartnerMsg
  newestAge : Nat
  /-- Own message sequence. -/
  seq : Nat
  /-- This module is in command. -/
  inCommand : Bool
  /-- Command was taken by force (02 R77). -/
  forced : Bool
  /-- A take-command request is pending, and its age in motion cycles (02 R75). -/
  request : Bool
  requestAge : Nat
  /-- A forced take waits for the next motion-cycle boundary. -/
  forcePending : Bool
  /-- This module releases at its next boundary / has sent the release. -/
  releasePending : Bool
  releaseSent : Bool
  /-- A release has been received and command is taken at the next boundary. -/
  takePending : Bool
  /-- Motion cycles without any valid message while partner_di is off (02 R76). -/
  lostRun : Nat
  /-- Last message sent. -/
  out : Bytes
  deriving DecidableEq, Repr, Inhabited

/-! ## 03: Cellar, key store, maker, ledger -/

/-- A cell of the cellar key: address and byte. -/
abbrev KeyCells := List (Nat × Byte)

/-- A cellar key in a socket (03 R79, R80): its 64 MiB in canonical form, and whether it can be read. -/
structure Key where
  readable : Bool
  cells : KeyCells
  deriving DecidableEq, Repr, Inhabited

/-- A write transaction on a cellar key (03 R98). -/
structure KeyWrite where
  bank : Nat
  length : Nat
  expected : Bytes
  next : Nat
  owner : Nat
  /-- Frames since the last chunk or close (03 R99). -/
  idle : Nat
  /-- Sectors erased so far. -/
  erased : List Nat
  /-- The chunks of the sector that holds the header, written last (03 R98). -/
  held : List (Nat × Bytes)
  /-- Closed and being verified (03 R100), with the request to answer. -/
  closing : Bool
  closeSeq : Nat
  deriving DecidableEq, Repr, Inhabited

/-- The state of a bank as cellar.status shows it (03 R102). -/
structure BankState where
  /-- 0 valid, 1 invalid, 3 not checked. -/
  state : Nat
  reason : Nat
  hash : Bytes
  deriving DecidableEq, Repr, Inhabited

/-- cellar.status and the transaction (03 R98, R102). -/
structure CellarState where
  selected : Nat
  running : Nat
  keyPresent : Bool
  bank0 : BankState
  bank1 : BankState
  generation : Nat
  runningHash : Bytes
  write : Option KeyWrite
  /-- Whether neither bank-select slot was newer at the last reading (03 R82). -/
  tie : Bool
  /-- The slot with the older generation, or the one a flip writes (03 R82). -/
  flipSlot : Nat
  deriving DecidableEq, Repr, Inhabited

/-- A session key (03 R107): kind 1 operator, 2 installer. -/
structure SessionKey where
  keyId : Nat
  kind : Nat
  key : Bytes
  deriving DecidableEq, Repr, Inhabited

/-- A signer key (03 R107). -/
structure SignerKey where
  keyId : Nat
  key : Bytes
  deriving DecidableEq, Repr, Inhabited

/-- What the maker writes (03 R106, R109): resident firmware, trims, factory records, as the strings last written. -/
structure MakerState where
  token : Bool
  /-- Calendar ticks (1/32 768 s) at entry (03 R109). -/
  entered : Nat
  link : Bool
  firmware : Bytes
  trims : Bytes
  factory : Bytes
  deriving DecidableEq, Repr, Inhabited

/-- A change ledger entry (03 R112). -/
structure LedgerEntry where
  seq : Nat
  role : Nat
  flags : Nat
  objectId : Nat
  keyId : Nat
  opHours : Nat
  powerCycles : Nat
  timeS : Nat
  timeQuality : Nat
  valueLen : Nat
  oldValue : Bytes
  newValue : Bytes
  deriving DecidableEq, Repr, Inhabited

/-- The change ledger of a lane (03 R110, R113): the newest 2 048 entries, newest first. -/
structure LedgerState where
  ring : List LedgerEntry
  /-- Seq of the next entry. -/
  nextSeq : Nat
  wraps : Nat
  badCrc : Nat
  /-- The FRAM of the ledger fails its read-back (03 R111). -/
  failing : Bool
  deriving DecidableEq, Repr, Inhabited

/-! ## The Attic (02 R41, R42; 03 R107; 04 R118, R120; 14 R413) -/

/-- A custom coefficient set in slots 4 to 7 (14 R413). -/
structure CoeffSet where
  len : Nat
  delay : Nat
  taps : List Int
  crc : Nat
  deriving DecidableEq, Repr, Inhabited

/-- Retained state in FRAM. -/
structure AtticState where
  takeoverSeq : Nat
  /-- Operating hours as last written (s and 1/32 768 s), and the power-cycle count (04 R120). -/
  opHours : Nat
  opFrac : Nat
  powerCycles : Nat
  /-- Claims of the lane's own two feeds (04 R118). -/
  claim1 : Bool
  claim2 : Bool
  /-- Calendar ticks of the entries into STARTING that count (02 R41), newest first. -/
  starts : List Nat
  /-- Cause of the last boot watchdog reset (04 R128), 0 none. -/
  bootCause : Nat
  sessionKeys : List SessionKey
  signerKeys : List SignerKey
  coeffs : List (Option CoeffSet)
  /-- Accepted ephemeris sets (05 R154). -/
  ephs : List Ephemeris
  deriving DecidableEq, Repr, Inhabited

/-! ## 04: supply and calendar -/

/-- One supply feed (04 R115). -/
structure Feed where
  good : Bool
  /-- Reading in units of 10 mV. -/
  reading : Nat
  deriving DecidableEq, Repr, Inhabited

/-- Supply state of a lane (04 R115 to R125). -/
structure PowerState where
  feed1 : Feed
  feed2 : Feed
  losses : Nat
  ocxoWarming : Bool
  /-- Hold-up measured at the last start, 0.1 ms. -/
  holdup : Nat
  inputDw : Nat
  plateTemp : Int
  railLimit : Bool
  /-- Rails in regulation; both feeds lost and the hold-up running; FRAM write-protected. -/
  regulated : Bool
  onHoldup : Bool
  writeProtected : Bool
  /-- A both-feed loss has happened since the last start: the next start is a power-up (04 R120). -/
  powerUpNext : Bool
  /-- Calendar ticks of losses of both feeds (PW-005), newest first. -/
  bothLost : List Nat
  /-- Live operating hours (s, 1/32 768 s). -/
  opHours : Nat
  opFrac : Nat
  /-- Consecutive mission cycles above and not above +85 °C (18 R517). -/
  hotRun : Nat
  coolRun : Nat
  /-- Frames the reading of each feed has been inside [8 V, 72 V] (04 R117). -/
  inRun : List Nat
  deriving DecidableEq, Repr, Inhabited

/-- A calendar clock (04 R131, R136). -/
structure Calendar where
  s : Nat
  /-- 1/32 768 s. -/
  frac : Nat
  leap : Nat
  valid : Bool
  /-- Backup cell at or above its minimum. -/
  cellOk : Bool
  /-- Seconds since it was last set from a LOCKED source (04 R133). -/
  sinceSet : Nat
  deriving DecidableEq, Repr, Inhabited

/-- Calendar ticks since its zero. -/
def Calendar.ticks (c : Calendar) : Nat := c.s * 32768 + c.frac

/-- Eligibility and the observer initialisation it needs (04 R129). -/
structure EligState where
  eligible : Bool
  deriving DecidableEq, Repr, Inhabited

end Sys2Proof.Machine
end

