-- ==== Sys2Proof/Machine/TypesNav.lean ====
section
/-!
DEFINITION. Plain-data types of the references (06) and of the vessel motion observer (07).
-/

namespace Sys2Proof.Machine

/-! ## 06: references -/

/-- Reference states (06 R194). -/
inductive RefMode where
  | disabled
  | absent
  | qualifying
  | accepted
  | rejected
  deriving DecidableEq, Repr, Inhabited

/-- The code of a reference state (06 R194). -/
def RefMode.code : RefMode → Nat
  | .disabled => 0 | .absent => 1 | .qualifying => 2 | .accepted => 3 | .rejected => 4

/-- What a measurement carries, by format (06 R178, R179, R187). -/
inductive RefValue where
  /-- Geographic position in degrees with its own sigma. -/
  | geo (lat lon sigma : Rat)
  /-- Relative offset in sensor axes. -/
  | relative (off : V3) (sigma : Rat)
  /-- Taut wire: angles about y and x, length. -/
  | wire (angleY angleX length : Rat)
  | motion (roll pitch heave : Rat)
  | heading (deg sigma : Rat)
  /-- Relative wind: angle in degrees, speed in m/s. -/
  | wind (angle speed : Rat)
  deriving DecidableEq, Repr, Inhabited

/-- A measurement that has passed intake and waits for the tests (06 R180, R181). -/
structure Measurement where
  /-- Arrival and measurement time, ns of module time. -/
  arrival : Nat
  time : Nat
  value : RefValue
  /-- Whether the range test of its format accepts it (06 R187), and whether it is degraded. -/
  rangeOk : Bool
  degraded : Bool
  /-- Message time used (06 R181), and whether RF-011 applies. -/
  msgTime : Bool
  timeBad : Bool
  /-- Velocity of an internal GNSS reference, north and east (07 R214). -/
  velocity : Option V2
  deriving DecidableEq, Repr, Inhabited

/-- State of one reference (06 R186 to R199). -/
structure RefState where
  mode : RefMode
  /-- Reason shown, and the reason of the newest measurement. -/
  reason : Nat
  kept : Nat
  selected : Bool
  /-- Newest measurement since the last slot-0 tick, and the one that tick takes into the tests. -/
  waiting : Option Measurement
  due : Option Measurement
  superseded : Nat
  refused : Nat
  /-- Sentences or frames received, and refused at intake, since the last slot-0 tick; whether the motion cycle that ended at
  it received some and refused every one. -/
  gotCycle : Nat
  refusedCycle : Nat
  allRefused : Bool
  /-- Newest measurement tested: time, value in the local frame (position) or its kind's unit, degraded, passed 1 to 4. -/
  measTime : Nat
  value : V3
  has : Bool
  passed4 : Bool
  degraded : Bool
  srcSigma : Rat
  msgTime : Bool
  noFrame : Bool
  /-- A new measurement was tested in this cycle. -/
  isNew : Bool
  /-- Age at the last test, ms. -/
  ageMs : Nat
  /-- Values over twice freeze_time, and innovations over twice var_window, each with its time, newest first. -/
  history : List (Nat × V3)
  innovations : List (Nat × V2)
  innovation : V2
  varSigma : Rat
  sigma : Rat
  predRun : Nat
  medianRun : Nat
  medianDist : Rat
  candidate : Bool
  drift : V2
  driftAbove : Bool
  /-- Consecutive measurements that passed every test, and motion cycles in QUALIFYING since its (re)start. -/
  passRun : Nat
  qualCycles : Nat
  /-- ACCEPTED at least once since the lane started. -/
  everAccepted : Bool
  /-- Frames since a measurement last passed tests 1 and 2. -/
  lostFrames : Nat
  anchored : Bool
  anchor : V2
  reanchor : Bool
  share : Nat
  /-- Failed only the prediction test in this cycle. -/
  predOnly : Bool
  deriving DecidableEq, Repr, Inhabited

/-- Per-port intake counts (06 R177). -/
structure SerialPort where
  chars : Nat
  framing : Nat
  parity : Nat
  dropped : Nat
  refused : Nat
  /-- Characters and errors of the last 60 s, in mission cycles, newest first (RF-010). -/
  window : List (Nat × Nat)
  cycChars : Nat
  cycErrors : Nat
  /-- Bytes in the receive FIFO of 1 024 bytes. -/
  fill : Nat
  deriving DecidableEq, Repr, Inhabited

/-- A sentence whose time a GST may repeat (06 R178). -/
structure GstEntry where
  source : Nat
  talker : Bytes
  utc : Bytes
  deriving DecidableEq, Repr, Inhabited

/-- What the references stage passes to the observer (06 R193; 07 R208). -/
structure RefOutput where
  /-- Weighted mean position (innovation, or the position itself before initialisation) and its variance. -/
  pos : Option (V2 × Rat)
  hdg : Option (Rat × Rat)
  /-- At least one reference of the kind accepted and selected. -/
  posHeld : Bool
  hdgHeld : Bool
  /-- Combined true wind: air velocity-from vector north, east; whether a wind reference is accepted and selected. -/
  wind : V2
  windHeld : Bool
  /-- Combined roll, pitch, heave. -/
  motion : V3
  motionHeld : Bool
  /-- Candidates offered for re-initialisation (06 R196): position, heading. -/
  offerPos : Option (V2 × Rat)
  offerHdg : Option (Rat × Rat)
  /-- Velocity of an accepted internal position reference. -/
  velocity : Option V2
  /-- A geographic position reference is among those that gave the mean. -/
  geoHeld : Bool
  deriving DecidableEq, Repr, Inhabited

/-- Combined roll, pitch and heading of a motion cycle (06 R182), degrees. -/
structure AttEntry where
  time : Nat
  roll : Rat
  pitch : Rat
  hdg : Rat
  deriving DecidableEq, Repr, Inhabited

/-- The references of a lane (06). -/
structure RefsState where
  /-- Indexed by ref_id, 0 to 25. -/
  refs : List RefState
  gst : List GstEntry
  ports : List SerialPort
  out : RefOutput
  /-- Provisional origin before the observer is initialised (06 R199): latitude, longitude. -/
  provisional : Option V2
  /-- Motion cycles every candidate of position / heading has failed only the prediction test (06 R196). -/
  predOnlyPos : Nat
  predOnlyHdg : Nat
  /-- Offered to the observer or to the operator: position, heading. -/
  offeredPos : Bool
  offeredHdg : Bool
  acceptPos : Bool
  acceptHdg : Bool
  /-- origin_gen whose shift this stage has applied (07 R205). -/
  originGen : Nat
  /-- The values held lie in the observer's frame (06 R199). -/
  inFrame : Bool
  /-- The last 250 motion cycles, newest first. -/
  attitudes : List AttEntry
  deriving DecidableEq, Repr, Inhabited

/-! ## 07: observer -/

/-- The 15 states (07 R206): pose, velocity, bias, wave states (first and second of each degree of freedom). -/
structure Est where
  eta : V3
  nu : V3
  b : V3
  xi1 : V3
  xi2 : V3
  deriving DecidableEq, Repr, Inhabited

/-- One entry of the history of 06 R182: time (ns) and estimate. -/
structure HistEntry where
  time : Nat
  est : Est
  deriving DecidableEq, Repr, Inhabited

/-- A pending origin move (07 R204): the negative of the shift vector of 07 R205, and the new origin. -/
structure OriginMove where
  shift : V2
  lat : Rat
  lon : Rat
  deriving DecidableEq, Repr, Inhabited

/-- vessel.reset (07 R230): cause code number, quantity, jump, time. -/
structure ResetRec where
  cause : Nat
  quantity : Nat
  jump : V3
  timeS : Nat
  timeNs : Nat
  deriving DecidableEq, Repr, Inhabited

/-- The observer of a lane (07). -/
structure ObserverState where
  /-- 0 not initialised, 1 initialised. -/
  status : Nat
  est : Est
  /-- Prediction for the next cycle (07 R212). -/
  pred : Est
  /-- Covariance, 15 by 15, rows. -/
  cov : List (List Rat)
  epochS : Nat
  epochNs : Nat
  epochFrame : Nat
  age : Nat
  /-- ω0 of north, east, heading; edge counters (07 R221, R222). -/
  omega0 : V3
  edge : List Nat
  inside : List Nat
  /-- Block sums and the 5 Hz series of each degree of freedom, newest first. -/
  blockSum : V3
  blockCount : Nat
  series : List V3
  wind : V3
  /-- Wind ramp (07 R211): value at its start, frames left, whether toward the computed value. -/
  windFrom : V3
  windLeft : Nat
  windOn : Bool
  thrust : V3
  /-- Motion cycles since the last new innovation, capped at 5 (07 R208). -/
  nPos : Nat
  nHdg : Nat
  /-- Dead reckoning (07 R223 to R225). -/
  drPos : Bool
  drHdg : Bool
  drPosT : Nat
  drHdgT : Nat
  limitPos : Bool
  limitHdg : Bool
  sigma0 : V3
  sigmaPose : V3
  /-- Standard deviations of the 15 states (07 R220), and of the total motion (radians for heading). -/
  sigmas : List Rat
  sigmaTotal : V3
  resetNow : Bool
  /-- Whether dead reckoning was in progress at the last update (07 R226). -/
  wasDrPos : Bool
  wasDrHdg : Bool
  /-- Origin (07 R203, R204): latitude and longitude in degrees; generation; pending move; last shift and its time. -/
  originSet : Bool
  floating : Bool
  lat0 : Rat
  lon0 : Rat
  originGen : Nat
  pending : Option OriginMove
  lastShift : V2
  moveS : Nat
  moveNs : Nat
  history : List HistEntry
  lastReset : ResetRec
  deriving DecidableEq, Repr, Inhabited

end Sys2Proof.Machine
end

