-- ==== Sys2Proof/Machine/TypesNet.lean ====
section
/-!
DEFINITION. Plain-data types of the state of one lane that chapters 15 and 16 name: clock, timestamp units, PTP, time
sources, pulses, ports, sessions, telemetry and the Larder.
-/

namespace Sys2Proof.Machine

/-! ## 15: clock -/

/-- The lane's clock registers and counters (15 R439 to R441). -/
structure ClockState where
  /-- Time counter: seconds, nanoseconds and 2^-40 ns (15 R439). -/
  s : Nat
  ns : Nat
  frac : Nat
  /-- Time counter at the last frame tick, in 2^-40 ns. -/
  tickAt : Nat
  /-- INCR in 2^-40 ns, in force; and the three registers it is loaded from. -/
  incr : Nat
  incrNs : Nat
  incrLo : Nat
  incrHi : Nat
  /-- STEP_S and STEP_NS, step_pending, step_done, incr_clamped. -/
  stepS : Int
  stepNs : Int
  stepPending : Bool
  stepDone : Bool
  incrClamped : Bool
  /-- TICK_SLEW in 2^-40 ns per period; TICK_OFFSET in 2^-40 ns. -/
  tickSlew : Int
  tickOffset : Int
  /-- Snapshot of TIME_S_HI, TIME_NS, FRAME_LO, FRAME_HI (15 R441). -/
  snapSHi : Nat
  snapNs : Nat
  snapFrame : Nat
  /-- Last value returned by a read of TIME_S_LO. -/
  readLo : Nat
  /-- Offset left to be slewed out through INCR, ns (15 R449). -/
  slewLeft : Int
  deriving DecidableEq, Repr, Inhabited

/-- A timestamp unit (15 R442). -/
structure StampUnit where
  valid : Bool
  overrun : Bool
  locked : Bool
  s : Nat
  ns : Nat
  deriving DecidableEq, Repr, Inhabited

/-- One-step registers of a LAN (15 R443). -/
structure OneStep where
  enable : Bool
  ingress : Bool
  count : Nat
  deriving DecidableEq, Repr, Inhabited

/-- A foreign master (15 R444, R462). -/
structure ForeignMaster where
  identity : Nat
  lan : Nat
  clockClass : Nat
  priority1 : Nat
  priority2 : Nat
  /-- Frames since its last Announce. -/
  age : Nat
  selected : Bool
  deriving DecidableEq, Repr, Inhabited

/-- The ordinary clock of a lane (15 R443). -/
structure PtpState where
  masters : List ForeignMaster
  isMaster : Bool
  /-- Offset from master and path delay of the default profile, ns; whether a delay is measured. -/
  offset : Int
  delay : Int
  haveDelay : Bool
  /-- Half the measured path delay variation, ns (15 R447). -/
  delayVar : Nat
  ignored : Nat
  /-- Sequence of the last event message sent and its egress stamp (s, ns). -/
  seq : Nat
  sentS : Nat
  sentNs : Nat
  sent : Bytes
  /-- Sync of a two-step master waiting for its Follow_Up: sequence and ingress time in ns. -/
  syncSeq : Nat
  syncIngress : Option Nat
  /-- Master the Sync run is from, and consecutive frames it has run (15 R445). -/
  syncFrom : Option Nat
  deriving DecidableEq, Repr, Inhabited

/-- Time source codes of 15 R461. -/
inductive TimeSource where
  | none
  | gnss
  | ptp
  | pulse
  | other
  | calendar
  | image
  deriving DecidableEq, Repr, Inhabited

/-- The code of a time source (15 R461). -/
def TimeSource.code : TimeSource → Nat
  | .none => 0 | .gnss => 1 | .ptp => 2 | .pulse => 3 | .other => 5 | .calendar => 6 | .image => 7

/-- Time quality (15 R447). -/
inductive Quality where
  | unset
  | calendar
  | freerun
  | holdover
  | locked
  deriving DecidableEq, Repr, Inhabited

/-- The code of a time quality (15 R447): a higher code is better. -/
def Quality.code : Quality → Nat
  | .unset => 0 | .calendar => 1 | .freerun => 2 | .holdover => 3 | .locked => 4

/-- Time sources of a lane (15 R445 to R448, R461). -/
structure SourceState where
  quality : Quality
  source : TimeSource
  /-- Frames each source has met its condition: GNSS, PTP, time pulse input (15 R445). -/
  gnssRun : Nat
  ptpRun : Nat
  pulseRun : Nat
  gnssOk : Bool
  ptpOk : Bool
  pulseOk : Bool
  otherOk : Bool
  /-- Frames without a qualified source (15 R447). -/
  noneRun : Nat
  /-- Error estimate in ns at the last measurement, frames since the last measurement, none where UNSET. -/
  estimate : Option Nat
  sinceMeas : Nat
  lastOffset : Int
  lastStepS : Int
  lastStepNs : Int
  /-- Seconds continuously LOCKED; frames of 24 h with the plate within 5 degrees (15 R448). -/
  lockedFrames : Nat
  warmFrames : Nat
  warmTemp : Int
  /-- Rate class taken at the entry into HOLDOVER: true 1.5 µs per hour. -/
  warm : Bool
  /-- Mission cycles since the lane last set calendar clocks by their rule of 600 (04 R135). -/
  calCycles : Nat
  /-- Published time.a / time.b (15 R461). -/
  published : Bytes
  deriving DecidableEq, Repr, Inhabited

/-- A pulse generator (15 R450, R451). -/
structure PulseGen where
  mode : Nat
  polarity : Nat
  running : Bool
  missed : Bool
  omitted : Bool
  startS : Nat
  startNs : Nat
  period : Nat
  width : Nat
  skipped : Nat
  /-- Settings in force: mode, START in ns, PERIOD, WIDTH (taken at arm). -/
  actMode : Nat
  actStart : Nat
  actPeriod : Nat
  actWidth : Nat
  /-- Settings taken by an arm while a pulse is high, in force from its end. -/
  armed : Bool
  newStart : Nat
  newPeriod : Nat
  newWidth : Nat
  newMode : Nat
  high : Bool
  fired : Bool
  /-- Time counter (ns) of the last falling edge. -/
  lastFall : Option Nat
  /-- Grid index of the next periodic edge. -/
  nextK : Nat
  deriving DecidableEq, Repr, Inhabited

/-! ## 15: ports -/

/-- A network port (15 R432, R433, R462). -/
structure Port where
  link : Bool
  framesIn : Nat
  framesOut : Nat
  drops : Nat
  duplicates : Nat
  /-- Bytes the policer still admits (15 R433), at most 65 536. -/
  tokens : Nat
  /-- A frame was dropped since the last frame tick. -/
  dropping : Bool
  deriving DecidableEq, Repr, Inhabited

/-- A PRP source (15 R434, R435). -/
structure NodeEntry where
  source : Nat
  /-- Frames since it was heard on LAN-A and on LAN-B. -/
  ageA : Nat
  ageB : Nat
  /-- Drop window of each LAN: start and expected sequence. -/
  startA : Nat
  expectA : Nat
  startB : Nat
  expectB : Nat
  deriving DecidableEq, Repr, Inhabited

/-- The network side of a lane (15 R432 to R437). -/
structure NetState where
  lanA : Port
  lanB : Port
  service : Port
  partner : Port
  nodes : List NodeEntry
  /-- Next PRP sequence and supervision frames sent. -/
  prpSeq : Nat
  supervision : Nat
  /-- Stream datagrams discarded and counted (15 R436). -/
  streamDiscards : Nat
  deriving DecidableEq, Repr, Inhabited

/-! ## 15: operator protocol -/

/-- A subscription item (15 R460). -/
structure SubItem where
  object : Nat
  period : Nat
  phase : Nat
  deriving DecidableEq, Repr, Inhabited

/-- A session (15 R453 to R460). -/
structure Session where
  number : Nat
  station : Nat
  /-- 1 operator station, 2 service station (03 R93). -/
  kind : Nat
  rights : Nat
  keyId : Nat
  key : Bytes
  address : Nat
  udpPort : Nat
  /-- Newest seq accepted, and which of the 32 below it have been seen (15 R457). -/
  newest : Nat
  seen : List Nat
  /-- Frames since the last valid message. -/
  age : Nat
  /-- Seq of the last message the lane sent. -/
  outSeq : Nat
  subs : List SubItem
  late : List SubItem
  deferred : Nat
  discarded : Nat
  deriving DecidableEq, Repr, Inhabited

/-- One item of a reply (15 R455). -/
structure ReplyItem where
  status : Nat
  reason : Nat
  object : Nat
  value : Bytes
  deriving DecidableEq, Repr, Inhabited

/-- A datagram the lane has sent. -/
structure Sent where
  address : Nat
  udpPort : Nat
  bytes : Bytes
  deriving DecidableEq, Repr, Inhabited

/-- An answer waiting to be sent (15 R458), with the key that tags it and where it goes. -/
structure Answer where
  session : Nat
  keyId : Nat
  key : Bytes
  address : Nat
  udpPort : Nat
  /-- Message type: 0x02 OPENED, 0x03 CLOSE, 0x04 KEEPALIVE, 0x12 REPLY, 0x21 TELEMETRY. -/
  kind : Nat
  seq : Nat
  items : List ReplyItem
  /-- Body of an OPENED or a TELEMETRY message. -/
  body : Bytes
  deriving DecidableEq, Repr, Inhabited

/-- A failed OPEN: source address and age in frames (15 R456). -/
structure FailedOpen where
  address : Nat
  age : Nat
  deriving DecidableEq, Repr, Inhabited

/-- The operator protocol of a lane (15 R453 to R460). -/
structure SessionState where
  sessions : List Session
  lastNumber : Nat
  failed : List FailedOpen
  /-- OPEN messages discarded and counted (15 R456). -/
  badOpens : Nat
  /-- Answers sent in the next frame, and the datagrams sent at the last tick. -/
  answers : List Answer
  sent : List Sent
  /-- Telemetry assembled in slot 7, sent in slot 8 (15 R460). -/
  telemetry : List Answer
  deriving DecidableEq, Repr, Inhabited

/-! ## 16: Larder -/

/-- A staging entry (16 R474). -/
structure Staged where
  key : Nat
  code : Code
  count : Nat
  firstS : Nat
  firstNs : Nat
  lastS : Nat
  lastNs : Nat
  frame : Nat
  quality : Nat
  laneState : Nat
  cause : Nat
  detail : Bytes
  deriving DecidableEq, Repr, Inhabited

/-- A histogram or extreme selected for recording, with the samples not yet committed (16 R469, R473). -/
structure LarderInst where
  item : Nat
  inst : Nat
  lo : Rat
  width : Rat
  /-- Samples with their module time (s, ns), oldest first. -/
  samples : List (Rat × Nat × Nat)
  deriving DecidableEq, Repr, Inhabited

/-- The body of a Larder record (16 R466 to R468, R470). -/
inductive LarderBody where
  | empty
  | histogram (lo width : Rat) (underflow overflow : Nat) (bins : List Nat) (sum : Rat) (period : Nat)
  | extreme (min max : Option Rat) (minS minNs maxS maxNs samples period : Nat)
  | event (code : Code) (cause firstS firstNs lastS lastNs firstFrame eventNo quality laneState : Nat) (detail : Bytes)
  deriving DecidableEq, Repr, Inhabited

/-- A Larder record (16 R465). `whole` is false of a record whose write was cut off or whose CRC fails. -/
structure LarderRecord where
  flags : Nat
  key : Nat
  opHours : Nat
  powerCycles : Nat
  seq : Nat
  repeats : Nat
  whole : Bool
  body : LarderBody
  deriving DecidableEq, Repr, Inhabited

/-- The Larder of a lane (16 R464 to R476): records by number, strictly rising; an unlisted record is type 0. -/
structure LarderState where
  records : List (Nat × LarderRecord)
  histInstances : Nat
  extInstances : Nat
  floodWindow : Nat
  lardCrc : Nat
  newestEvent : Nat
  eventsHeld : Nat
  reformats : Nat
  lostEvents : Nat
  badAtStart : Nat
  staging : List Staged
  insts : List LarderInst
  /-- The FRAM of the Larder fails its read-back (16 R473); records to be written again. -/
  failing : Bool
  retry : List Nat
  /-- Header of the descriptor record and its body as last written; none before its first write (16 R465, R470). -/
  headSeq : Nat
  headOp : Nat
  headCycles : Nat
  headBody : Option Bytes
  deriving DecidableEq, Repr, Inhabited

end Sys2Proof.Machine
end

