-- ==== Sys2Proof/Machine/TypesSafe.lean ====
section
/-!
DEFINITION. Plain-data types of the safety functions (13).
-/

namespace Sys2Proof.Machine

/-- Instance states (13 R396). -/
inductive InstMode where
  | init
  | off
  | armed
  | on
  | lockout
  deriving DecidableEq, Repr, Inhabited

/-- The code of an instance state. -/
def InstMode.code : InstMode → Nat
  | .init => 0 | .off => 1 | .armed => 2 | .on => 3 | .lockout => 4

/-- One channel of a safety input in a voter (13 R393, R394). -/
structure SafeChan where
  level : Bool
  /-- Last raw sample, and consecutive samples at it. -/
  raw : Bool
  run : Nat
  /-- A run of filter_time has completed since the voter started. -/
  settled : Bool
  /-- Its source was low in the last sample, a low raw sample was seen in this pulse, consecutive pulses missed. -/
  pulsing : Bool
  sawLow : Bool
  missed : Nat
  deriving DecidableEq, Repr, Inhabited

/-- One safety input in a voter (13 R392, R395). -/
structure SafeInput where
  ch1 : SafeChan
  ch2 : SafeChan
  on : Bool
  discRun : Nat
  discFault : Bool
  pulseFault : Bool
  /-- Consecutive ticks a reset input has been on (13 R401). -/
  hold : Nat
  deriving DecidableEq, Repr, Inhabited

/-- One instance in a voter (13 R396 to R402). -/
structure InstState where
  mode : InstMode
  cause : Nat
  /-- Frames in the state. -/
  time : Nat
  startDone : Bool
  joined : Bool
  /-- Two-hand: which input turned on first (true: input_a) and ticks since. -/
  gap : Option (Bool × Nat)
  deriving DecidableEq, Repr, Inhabited

/-- What a voter's exchange frame carries (13 R387, R402). -/
structure Exchange where
  hash : Option Bytes
  /-- Baize hash a lane holds. -/
  baizeHash : Option Bytes
  states : List Nat
  votes : Nat
  deriving DecidableEq, Repr, Inhabited

/-- A voter (13 R384 to R402). -/
structure Voter where
  inputs : List SafeInput
  insts : List InstState
  /-- Votes formed, and those transferred to the switch drivers; bit 2n channel 1, bit 2n + 1 channel 2 of output n. -/
  votes : Nat
  cmd : Nat
  /-- First evaluation on a SAFE record completed. -/
  evaluated : Bool
  watchdog : Bool
  /-- Vote transfers missed (SF-031), missed in this and in the last mission cycle. -/
  missed : Nat
  missedNow : Bool
  missedLast : Bool
  /-- Per channel: ticks the own switches differ, ticks the terminal differs, ticks since the last change of command. -/
  swRun : List Nat
  termRun : List Nat
  cmdAge : List Nat
  /-- Per output: ticks of agreement, fault. -/
  agreeRun : List Nat
  outFault : Nat
  /-- Per channel: ticks the vote differed from both others (13 R391), mission cycles with SF-021. -/
  diffRun : List Nat
  diffMissions : Nat
  terminals : Nat
  /-- Baize hash held by a lane, and whether the Baize's own frames gave it. -/
  baizeHash : Option Bytes
  baizeDirect : Bool
  /-- Last exchange frames from lane A, lane B and the Baize. -/
  fromA : Option Exchange
  fromB : Option Exchange
  fromBaize : Option Exchange
  deriving DecidableEq, Repr, Inhabited

/-- The test-pulse generator of the safety I/O (13 R394). -/
structure PulseSource where
  mask : Nat
  t1Low : Bool
  t2Low : Bool
  deriving DecidableEq, Repr, Inhabited

/-- Readback of a tick (13 R389): the two switches of lane A, lane B and the Baize per channel, and the terminals. -/
structure SafeReadback where
  a1 : Nat
  a2 : Nat
  b1 : Nat
  b2 : Nat
  z1 : Nat
  z2 : Nat
  terminals : Nat
  deriving DecidableEq, Repr, Inhabited

/-- Readback of a switch test (13 R390). -/
structure SwitchTest where
  /-- Both other voters' switches read closed at its start, and at the instant of judgement. -/
  othersAtStart : Bool
  othersAtEnd : Bool
  ownOpen : Bool
  terminalOn : Bool
  deriving DecidableEq, Repr, Inhabited

end Sys2Proof.Machine
end

