-- ==== Sys2Proof/Machine/TypesIn.lean ====
section
/-!
DEFINITION. The operand types of the commands: what the surroundings of the block bring with an event (datagrams, raw
levels, measured numbers). Nothing here is state of the block.
-/

namespace Sys2Proof.Machine

/-- A datagram that reaches a port of a lane (15 R454): port 0 the control network, 1 the service port. -/
structure Msg where
  bytes : Bytes
  port : Nat
  address : Nat
  udpPort : Nat
  deriving DecidableEq, Repr, Inhabited

/-- What the supervisor and the board sensors measure of a lane (04 R115, R119; 16 R469; 18 R511, R517). -/
structure Ambient where
  /-- 0.1 °C. -/
  plateTemp : Int
  /-- 0.1 W. -/
  inputDw : Nat
  /-- Readings, and supervisor minimum and maximum since the last mission cycle, 10 mV. -/
  feed1 : Nat
  feed2 : Nat
  min1 : Nat
  max1 : Nat
  min2 : Nat
  max2 : Nat
  ocxoWarming : Bool
  /-- The sensor supply rail is limiting. -/
  railLimit : Bool
  /-- The backup cell of the calendar clock is at or above its minimum. -/
  cellOk : Bool
  deriving DecidableEq, Repr, Inhabited

/-- What the self-test of 02 R57 finds in a frame: result of an item that completes in it. -/
structure TestIn where
  loopback : Option Bool
  dramScrub : Option Bool
  framScrub : Option Bool
  /-- Allocation engine, loop engine, filter engine, tracking sequencers. -/
  vectors : List (Option Bool)
  corrected : Nat
  /-- The analog converter of the lane is at fault (14 R415). -/
  converter : Bool
  deriving DecidableEq, Repr, Inhabited

/-- A time measurement of a source (15 R445): its offset in ns, and the epoch conditions it met since the last tick. -/
structure TimeIn where
  /-- Each source meets its condition in this frame: GNSS clock model, PTP Sync run, time pulse edges. -/
  gnss : Bool
  ptp : Bool
  pulse : Bool
  /-- Measured offset of the source in use, ns, where one was measured. -/
  offset : Option Int
  deriving DecidableEq, Repr, Inhabited

/-- Framing and parity errors of a serial port in a frame (06 R177). -/
structure SerialErrors where
  port : Nat
  framing : Nat
  parity : Nat
  deriving DecidableEq, Repr, Inhabited

/-- What a frame tick of a lane finds (01 R23, R24): slices of the ended frame that did not finish, tick
acknowledgements, and what the slices and the safety core read of their surroundings. -/
structure FrameIn where
  unfinished : List Nat
  acks : List Bool
  safetyLate : Bool
  readback : Option SafeReadback
  switchTest : Option SwitchTest
  gnss : GnssIn
  serial : List SerialErrors
  ambient : Ambient
  test : TestIn
  time : TimeIn
  /-- FRAM read-backs of the ledger and of the Larder that fail in this frame. -/
  ledgerFail : Bool
  larderFail : Bool
  deriving DecidableEq, Repr, Inhabited

/-- What a microframe tick of a lane finds at its phases (01 R18). -/
structure MicroIn where
  /-- Raw safety input levels, bit 2n channel 1 and bit 2n + 1 channel 2 of input n. -/
  safety : Nat
  /-- Raw discrete input levels. -/
  discrete : Nat
  /-- Current (mA) and voltage (0.1 V) of each channel's sensor supply, where measured. -/
  supplies : List (Option (Nat × Nat))
  /-- Read-back of each analog output terminal and whether it is at compliance. -/
  outs : List (Option (Rat × Bool))
  deriving DecidableEq, Repr, Inhabited

/-- What a Baize tick finds. -/
structure BaizeIn where
  /-- Raw safety input samples of the Baize frame, oldest first. -/
  safety : List Nat
  readback : Option SafeReadback
  switchTest : Option SwitchTest
  safetyLate : Bool
  /-- The hardware comparator finds the two cores agreeing (02 R48). -/
  coresAgree : Bool
  cellOk : Bool
  deriving DecidableEq, Repr, Inhabited

/-- Outcome of the start self-test (04 R127). -/
structure StartTest where
  /-- Failing subsystem numbers of fault items: lockstep, DRAM, engine vectors, Attic header. -/
  faults : List Nat
  ledgerBad : Nat
  loopback : Bool
  /-- 0.1 ms. -/
  holdup : Nat
  serial0 : Bool
  serial1 : Bool
  /-- Larder records whose CRC or seq_tail is found wrong. -/
  larderBroken : List Nat
  deriving DecidableEq, Repr, Inhabited

/-- A demodulated navigation message (05 R152 to R154). -/
structure NavIn where
  antenna : Nat
  signal : Nat
  svid : Nat
  kind : Nat
  headOk : Bool
  checkOk : Bool
  corrected : Nat
  wordMask : Nat
  bits : Bytes
  /-- Module time at the start of its first bit. -/
  timeS : Nat
  timeNs : Nat
  /-- Ephemeris set this message completes, and whether it lies near the one held. -/
  eph : Option Ephemeris
  near : Bool
  /-- Leap-second count it carries, and SBAS message type. -/
  leap : Option Nat
  sbasType : Option Nat
  deriving DecidableEq, Repr, Inhabited

/-- A frame at a network port (15 R433 to R436). -/
structure NetFrame where
  length : Nat
  /-- PTP or PRP supervision: in a class of its own before the policer. -/
  special : Bool
  /-- PRP: source and sequence of the redundancy control trailer. -/
  prp : Option (Nat × Nat)
  /-- UDP destination port, destination (multicast) or source address, and payload. -/
  udpPort : Nat
  destination : Nat
  source : Nat
  payload : Bytes
  deriving DecidableEq, Repr, Inhabited

/-- A PTP message received on a LAN (15 R443 to R445). -/
inductive PtpIn where
  | announce (identity clockClass priority1 priority2 : Nat)
  /-- One-step Sync: sequence, master's time less ingress time in ns (without path delay). -/
  | sync (identity seq : Nat) (diff : Int)
  /-- Two-step Sync and its Follow_Up. -/
  | sync2 (identity seq ingressNs : Nat)
  | followUp (identity seq originNs : Nat)
  /-- Response to a delay request: sequence, time of receipt at the master, ns. -/
  | delayResp (identity seq receiveNs : Nat)
  /-- Peer delay response: sequence, turnaround time in ns, ingress time in ns. -/
  | pdelayResp (identity seq turnNs ingressNs : Nat)
  /-- Delay request (or peer delay request) of another node. -/
  | delayReq (identity seq : Nat)
  | pdelayReq (identity seq : Nat)
  /-- Management, Signaling and every other message 15 R443 excludes. -/
  | other
  deriving DecidableEq, Repr, Inhabited

/-- What the maker writes on the maker port (03 R106). -/
inductive MakerOp where
  | firmware (data : Bytes)
  | trims (data : Bytes)
  | factory (data : Bytes)
  /-- The maker region of the cellar key: offset in the region and bytes (03 R79). -/
  | keyRegion (offset : Nat) (data : Bytes)
  /-- First installer key, and first signer key (03 R106). -/
  | firstInstaller (keyId : Nat) (key : Bytes)
  | firstSigner (keyId : Nat) (key : Bytes)
  deriving DecidableEq, Repr, Inhabited

/-- A transfer on the Muslin link (11 R346; 14 R418, R420; 05 R154; 04 R132). -/
inductive MuslinItem where
  | fbArm (channel : Nat)
  | anChannel (channel : Nat) (start alt : Bool)
  | ephemeris (e : Ephemeris)
  /-- Time-transfer frame, with the ns it was stamped at after the last tick. -/
  | timeTransfer (ns : Nat)
  /-- Aiding: the leap-second count the other lane holds. -/
  | aiding (leap : Nat)
  | coeffCrcs (crcs : List Nat)
  deriving DecidableEq, Repr, Inhabited

/-- Registers whose write has no command of its own (00 R10): RW fields and WC bits. -/
inductive Reg where
  | incrNs
  | incrLo
  | stepS
  | stepNs
  | clockFlags
  | tickSlew
  | stamp (unit : Nat)
  | oneStep (lan : Nat)
  | pulseCtrl (g : Nat)
  | pulseStartLo (g : Nat)
  | pulseStartHi (g : Nat)
  | pulseStartNs (g : Nat)
  | pulsePeriodLo (g : Nat)
  | pulsePeriodHi (g : Nat)
  | pulseWidth (g : Nat)
  | engStatus
  | engReset
  | fbStatus (channel : Nat)
  | setpoint (axis : Nat)
  | setpointControl (axis : Nat)
  | setpointSeq (axis : Nat)
  /-- A 32-bit word of the problem block (09 R277), by its offset. -/
  | problem (offset : Nat)
  deriving DecidableEq, Repr, Inhabited

/-- Settings of time.pulse (15 R462). -/
structure PulseIn where
  mode : Nat
  startS : Nat
  startNs : Nat
  period : Nat
  width : Nat
  deriving DecidableEq, Repr, Inhabited

end Sys2Proof.Machine
end

