-- ==== Sys2Proof/Syntax.lean ====
section
/-!
DEFINITION. The commands of the block: one constructor per row of spec/opcode_table.json. The docstring of each is the
row's rule; its operands are what the surroundings bring with it.
-/

namespace Sys2Proof

open Sys2Proof.Machine

/-- A command: an operation of the table with its operands. -/
inductive Instr where
  /-- LANE_POWER_UP (R126). -/
  | lanePowerUp (lane : Lane) (feed : Nat)
  /-- BOOT_COMPLETE (R132). -/
  | bootComplete (lane : Lane) (err : Int)
  /-- BOOT_WATCHDOG_RESET (R128). -/
  | bootWatchdogReset (lane : Lane)
  /-- KEY_CHECK_COMPLETE (R95). -/
  | keyCheckComplete (lane : Lane)
  /-- START_SELF_TEST_COMPLETE (R127). -/
  | startSelfTestComplete (lane : Lane) (test : StartTest)
  /-- FRAME_TICK (R12). -/
  | frameTick (lane : Lane) (inp : FrameIn)
  /-- MICROFRAME_TICK (R18). -/
  | microframeTick (lane : Lane) (inp : MicroIn)
  /-- HEARTBEAT_RECEIVED (R43). -/
  | heartbeatReceived (dest : Unit3) (bytes : Bytes) (offset : Int)
  /-- STATE_COPY_RECEIVED (R45). -/
  | stateCopyReceived (lane : Lane) (damage : Nat)
  /-- ABDICATION (R50). -/
  | abdication (lane : Lane) (cause : Nat)
  /-- ABDICATION_FRAME_RECEIVED (R49). -/
  | abdicationFrameReceived (dest : Unit3) (bytes : Bytes)
  /-- BAIZE_READY (R48). -/
  | baizeReady
  /-- BAIZE_TICK (R49). -/
  | baizeTick (inp : BaizeIn)
  /-- BAIZE_STATUS_RECEIVED (R48). -/
  | baizeStatusReceived (lane : Lane) (bytes : Bytes)
  /-- BAIZE_BUS_FRAME_SEEN (R49). -/
  | baizeBusFrameSeen (lane : Lane) (bus : Nat)
  /-- TAKEOVER (R54). -/
  | takeover (lane : Lane)
  /-- COMMANDED_SWITCHOVER (R56). -/
  | commandedSwitchover (lane : Lane)
  /-- TRANSMIT_INHIBIT_ASSERT (R55). -/
  | transmitInhibitAssert (lane : Lane)
  /-- HOME_ONLY_PERIOD_END (R51). -/
  | homeOnlyPeriodEnd
  /-- REVERT_HOLDOFF_END (R61). -/
  | revertHoldoffEnd
  /-- BAIZE_ABSENT (R66). -/
  | baizeAbsent (lane : Lane)
  /-- BAIZE_PRESENT_AGAIN (R69). -/
  | baizePresentAgain
  /-- UNREFEREED_TAKEOVER (R67). -/
  | unrefereedTakeover (lane : Lane)
  /-- AUTO_RESTART (R41). -/
  | autoRestart (lane : Lane)
  /-- LANE_SWITCH (R56). -/
  | laneSwitch (lane : Lane) (msg : Msg)
  /-- LANE_ISOLATE (R60). -/
  | laneIsolate (lane : Lane) (msg : Msg) (value : Nat)
  /-- LANE_ADOPT_IMAGE (R71). -/
  | laneAdoptImage (lane : Lane) (msg : Msg)
  /-- LANE_RESTART (R60). -/
  | laneRestart (lane : Lane) (msg : Msg) (target : Lane)
  /-- PARTNER_TAKE_COMMAND (R75). -/
  | partnerTakeCommand (lane : Lane) (msg : Msg) (value : Nat)
  /-- PARTNER_MESSAGE_RECEIVED (R73). -/
  | partnerMessageReceived (lane : Lane) (bytes : Bytes)
  /-- PARTNER_REQUEST_LAPSE (R75). -/
  | partnerRequestLapse (lane : Lane)
  /-- PARTNER_MESSAGES_LOST (R76). -/
  | partnerMessagesLost (lane : Lane)
  /-- PARTNER_AUTO_TAKEOVER (R76). -/
  | partnerAutoTakeover (lane : Lane)
  /-- SHADOW_COMPARISON_FAULT (R57). -/
  | shadowComparisonFault (lane : Lane)
  /-- CELLAR_WRITE_OPEN (R98). -/
  | cellarWriteOpen (lane : Lane) (msg : Msg) (bank length : Nat) (expected : Bytes)
  /-- CELLAR_WRITE_CHUNK (R98). -/
  | cellarWriteChunk (lane : Lane) (msg : Msg) (offset : Nat) (data : Bytes)
  /-- CELLAR_WRITE_CLOSE (R100). -/
  | cellarWriteClose (lane : Lane) (msg : Msg)
  /-- CELLAR_VERIFY_COMPLETE (R100). -/
  | cellarVerifyComplete (lane : Lane)
  /-- CELLAR_WRITE_ABORT (R99). -/
  | cellarWriteAbort (lane : Lane) (msg : Msg)
  /-- CELLAR_WRITE_TIMEOUT (R99). -/
  | cellarWriteTimeout (lane : Lane)
  /-- CELLAR_SELECT (R102). -/
  | cellarSelect (lane : Lane) (msg : Msg) (bank : Nat)
  /-- CELLAR_KEY_REMOVED (R80). -/
  | cellarKeyRemoved (lane : Lane)
  /-- CELLAR_KEY_INSERTED (R80). -/
  | cellarKeyInserted (lane : Lane) (key : Key)
  /-- KEY_STORE_ADD (R107). -/
  | keyStoreAdd (lane : Lane) (msg : Msg) (signer : Bool) (keyId kind : Nat) (key : Bytes)
  /-- KEY_STORE_REMOVE (R107). -/
  | keyStoreRemove (lane : Lane) (msg : Msg) (signer : Bool) (keyId : Nat)
  /-- MAKER_TOKEN_ENTRY (R109). -/
  | makerTokenEntry (lane : Lane) (serial : Nat) (token response : Bytes)
  /-- MAKER_TOKEN_LAPSE (R109). -/
  | makerTokenLapse (lane : Lane) (linkDrop : Bool)
  /-- FEED_GOOD (R115). -/
  | feedGood (lane : Lane) (feed reading : Nat)
  /-- FEED_LOST (R115). -/
  | feedLost (lane : Lane) (feed reading : Nat)
  /-- FEED_LOW_VOLTAGE (R117). -/
  | feedLowVoltage (lane : Lane) (feed : Nat)
  /-- FEED_HIGH_VOLTAGE (R117). -/
  | feedHighVoltage (lane : Lane) (feed : Nat)
  /-- POWER_CLAIM (R118). -/
  | powerClaim (lane : Lane) (msg : Msg) (mask : Nat)
  /-- GNSS_DUMP (R142). -/
  | gnssDump (lane : Lane) (antenna : Nat) (obs : List DumpObs)
  /-- SEARCH_HIT (R145). -/
  | searchHit (lane : Lane) (antenna signal svid cn0 : Nat) (elevation channel : Int)
  /-- SLOT_RELEASE (R144). -/
  | slotRelease (lane : Lane) (antenna slot : Nat)
  /-- ANTENNA_BIAS_FAULT (R141). -/
  | antennaBiasFault (lane : Lane) (antenna : Nat)
  /-- ANTENNA_BIAS_RETRY (R141). -/
  | antennaBiasRetry (lane : Lane) (antenna : Nat)
  /-- NAV_MESSAGE (R152). -/
  | navMessage (lane : Lane) (nav : NavIn)
  /-- RTCM_FRAME_RECEIVED (R159). -/
  | rtcmFrameReceived (lane : Lane) (bytes : Bytes)
  /-- GNSS_PEER_SOLUTION_RECEIVED (R166). -/
  | gnssPeerSolutionReceived (lane : Lane)
  /-- GNSS_SOLUTION_TIMEOUT (R171). -/
  | gnssSolutionTimeout (lane : Lane)
  /-- HEADING_FIX_TIMEOUT (R161). -/
  | headingFixTimeout (lane : Lane)
  /-- UNTRACKED_TIMEOUT (R151). -/
  | untrackedTimeout (lane : Lane) (antenna : Nat)
  /-- SENTENCE_RECEIVED (R178). -/
  | sentenceReceived (lane : Lane) (source : Nat) (bytes : Bytes) (arrival : Nat)
  /-- REFERENCE_BINARY_FRAME (R179). -/
  | referenceBinaryFrame (lane : Lane) (source : Nat) (bytes : Bytes) (arrival : Nat)
  /-- REFERENCE_LOST (R195). -/
  | referenceLost (lane : Lane) (ref : Nat)
  /-- PREDICTION_ONLY_TIMEOUT (R196). -/
  | predictionOnlyTimeout (lane : Lane) (heading : Bool)
  /-- REFS_SELECT (R196). -/
  | refsSelect (lane : Lane) (msg : Msg) (ref : Nat) (on : Bool)
  /-- REFS_ACCEPT (R200). -/
  | refsAccept (lane : Lane) (msg : Msg) (ref : Nat)
  /-- REFS_ANCHOR (R200). -/
  | refsAnchor (lane : Lane) (msg : Msg) (ref : Nat)
  /-- DEAD_RECKONING_LIMIT (R225). -/
  | deadReckoningLimit (lane : Lane) (heading : Bool)
  /-- CTRL_MODE (R244). -/
  | ctrlMode (lane : Lane) (msg : Msg) (mode : Nat)
  /-- CTRL_SETPOINT (R249). -/
  | ctrlSetpoint (lane : Lane) (msg : Msg) (kind gen : Nat) (x y h : Option Rat)
  /-- CTRL_GAIN_BANK (R242). -/
  | ctrlGainBank (lane : Lane) (msg : Msg) (bank : Nat)
  /-- CTRL_JOYSTICK (R246). -/
  | ctrlJoystick (lane : Lane) (msg : Msg) (x y z : Rat) (seq : Nat)
  /-- CTRL_FOOTPRINT (R250). -/
  | ctrlFootprint (lane : Lane) (msg : Msg) (cn ce : Option Rat) (radius : Rat)
  /-- CTRL_BIAS_RELEASE (R248). -/
  | ctrlBiasRelease (lane : Lane) (msg : Msg)
  /-- CTRL_TRACK_POINT (R251). -/
  | ctrlTrackPoint (lane : Lane) (msg : Msg) (n : Nat) (point : Waypoint)
  /-- CTRL_TRACK_COMMIT (R251). -/
  | ctrlTrackCommit (lane : Lane) (msg : Msg) (n : Nat)
  /-- CTRL_TARGET_OFFSET (R253). -/
  | ctrlTargetOffset (lane : Lane) (msg : Msg) (x y : Rat)
  /-- JOYSTICK_TIMEOUT (R246). -/
  | joystickTimeout (lane : Lane)
  /-- CROSS_TRACK_TIMEOUT (R245). -/
  | crossTrackTimeout (lane : Lane)
  /-- TARGET_LOST (R253). -/
  | targetLost (lane : Lane)
  /-- ENG_START (R278). -/
  | engStart (lane : Lane) (value : Nat)
  /-- ENGINE_RUN_COMPLETE (R280). -/
  | engineRunComplete (lane : Lane) (damaged : Bool)
  /-- ALLOC_EXCLUDE (R271). -/
  | allocExclude (lane : Lane) (msg : Msg) (actuator : Nat) (on : Bool)
  /-- ACTUATOR_REENTRY (R270). -/
  | actuatorReentry (lane : Lane) (actuator : Nat)
  /-- TRANSIT_TIMEOUT (R275). -/
  | transitTimeout (lane : Lane) (actuator : Nat)
  /-- FOLLOWING_ERROR_FAULT (R311). -/
  | followingErrorFault (lane : Lane) (axis : Nat)
  /-- FEEDBACK_FREEZE (R312). -/
  | feedbackFreeze (lane : Lane) (axis : Nat)
  /-- FE_LATCH_EXPIRY (R317). -/
  | feLatchExpiry (lane : Lane) (axis : Nat)
  /-- LOOP_RESET (R323). -/
  | loopReset (lane : Lane) (msg : Msg) (axis : Nat)
  /-- OUT_LIMIT_TIMEOUT (R324). -/
  | outLimitTimeout (lane : Lane) (axis : Nat)
  /-- INDEX_EVENT (R344). -/
  | indexEvent (lane : Lane) (channel : Nat)
  /-- ILLEGAL_TRANSITION_FAULT (R332). -/
  | illegalTransitionFault (lane : Lane) (channel : Nat)
  /-- WIRE_DISAGREE (R334). -/
  | wireDisagree (lane : Lane) (channel sample : Nat)
  /-- AMPLITUDE_LOSS (R335). -/
  | amplitudeLoss (lane : Lane) (channel : Nat)
  /-- SSI_FRAME_COMPLETE (R336). -/
  | ssiFrameComplete (lane : Lane) (channel sample : Nat) (frame : SsiFrame)
  /-- SSI_LOSS (R337). -/
  | ssiLoss (lane : Lane) (channel : Nat)
  /-- SENSOR_SUPPLY_SHORT (R339). -/
  | sensorSupplyShort (lane : Lane) (channel : Nat)
  /-- SENSOR_SUPPLY_OPEN (R339). -/
  | sensorSupplyOpen (lane : Lane) (channel : Nat)
  /-- SENSOR_SUPPLY_RETRY (R339). -/
  | sensorSupplyRetry (lane : Lane) (channel : Nat)
  /-- LOSS_CLEAR (R349). -/
  | lossClear (lane : Lane) (channel : Nat)
  /-- COUNT_LATCH_READ (R341). -/
  | countLatchRead (lane : Lane) (channel : Nat)
  /-- FB_ARM (R346). -/
  | fbArm (lane : Lane) (msg : Msg) (channel : Nat)
  /-- FB_CLEAR (R352). -/
  | fbClear (lane : Lane) (msg : Msg) (channel : Nat)
  /-- TXB_REQUEST (R380). -/
  | txbRequest (lane : Lane) (bus buffer since : Nat)
  /-- TXB_CANCEL (R363). -/
  | txbCancel (lane : Lane) (bus buffer : Nat) (time : CancelTime)
  /-- CAN_FRAME_COMPLETE (R358). -/
  | canFrameComplete (lane : Lane) (bus sof ns : Nat)
  /-- CAN_TX_ERROR (R361). -/
  | canTxError (lane : Lane) (bus sof : Nat) (error : CanError)
  /-- BUS_OFF_RECOVERY (R362). -/
  | busOffRecovery (lane : Lane) (bus : Nat)
  /-- CAN_FRAME_RECEIVED (R366). -/
  | canFrameReceived (lane : Lane) (bus : Nat) (frame : RxFrame)
  /-- FIFO_POP (R380). -/
  | fifoPop (lane : Lane) (bus : Nat)
  /-- TRANSMIT_INHIBIT (R365). -/
  | transmitInhibit (lane : Lane)
  /-- TRANSMIT_INHIBIT_RELEASE (R365). -/
  | transmitInhibitRelease (lane : Lane)
  /-- DRIVE_STATUS_TIMEOUT (R373). -/
  | driveStatusTimeout (lane : Lane) (source : Nat)
  /-- COMMAND_LATE (R369). -/
  | commandLate (lane : Lane) (bus key : Nat)
  /-- VOTER_WATCHDOG_EXPIRY (R386). -/
  | voterWatchdogExpiry (voter : Unit3)
  /-- TEST_PULSE (R394). -/
  | testPulse (second low : Bool)
  /-- SAFE_RECORD_TRANSFER (R387). -/
  | safeRecordTransfer (lane : Lane)
  /-- SAFETY_EXCHANGE_RECEIVED (R387). -/
  | safetyExchangeReceived (dest source : Unit3)
  /-- FIR_SAMPLE (R412). -/
  | firSample (lane : Lane) (channel : Nat) (samples : List Rat)
  /-- ANALOG_INPUT_INVALID (R415). -/
  | analogInputInvalid (lane : Lane) (channel : Nat)
  /-- ANALOG_INPUT_VALID (R415). -/
  | analogInputValid (lane : Lane) (channel : Nat)
  /-- ANALOG_FILL_COMPLETE (R418). -/
  | analogFillComplete (lane : Lane) (channel : Nat)
  /-- AN_CHANNEL (R418). -/
  | anChannel (lane : Lane) (msg : Msg) (channel : Nat) (start alt : Bool)
  /-- AN_COEFF_LOAD (R419). -/
  | anCoeffLoad (lane : Lane) (msg : Msg) (slot len design : Nat) (taps : List Int)
  /-- AN_OUT_SET (R423). -/
  | anOutSet (lane : Lane) (msg : Msg) (output : Nat) (value : Rat)
  /-- AN_OUT_TIMEOUT (R423). -/
  | anOutTimeout (lane : Lane) (output : Nat)
  /-- ANALOG_READBACK_FAULT (R425). -/
  | analogReadbackFault (lane : Lane) (output : Nat)
  /-- DISCRETE_OUTPUT_OVERLOAD (R428). -/
  | discreteOutputOverload (output : Nat)
  /-- DISCRETE_OUTPUT_RETRY (R428). -/
  | discreteOutputRetry (output : Nat)
  /-- NETWORK_FRAME_RECEIVED (R434). -/
  | networkFrameReceived (lane : Lane) (port : Nat) (frame : NetFrame) (arrival : Nat)
  /-- PRP_SUPERVISION (R434). -/
  | prpSupervision (lane : Lane)
  /-- LINK_CHANGE (R434). -/
  | linkChange (lane : Lane) (port : Nat) (up : Bool)
  /-- NODE_FORGET (R435). -/
  | nodeForget (lane : Lane) (source : Nat)
  /-- INCR_WRITE (R439). -/
  | incrWrite (lane : Lane) (value : Nat)
  /-- STEP_ARM (R440). -/
  | stepArm (lane : Lane)
  /-- STEP_APPLY (R440). -/
  | stepApply (lane : Lane)
  /-- SLEW_COMPLETE (R440). -/
  | slewComplete (lane : Lane)
  /-- TIME_SNAPSHOT_READ (R441). -/
  | timeSnapshotRead (lane : Lane)
  /-- TIMESTAMP_CAPTURE (R442). -/
  | timestampCapture (lane : Lane) (unit ns : Nat)
  /-- CAPTURE_NOW (R442). -/
  | captureNow (lane : Lane) (ns : Nat)
  /-- CAPTURE_RELEASE (R442). -/
  | captureRelease (lane : Lane) (unit : Nat)
  /-- PTP_MESSAGE_RECEIVED (R443). -/
  | ptpMessageReceived (lane : Lane) (lan : Nat) (message : PtpIn) (ns : Nat)
  /-- PTP_SYNC_SEND (R443). -/
  | ptpSyncSend (lane : Lane) (lan ns : Nat)
  /-- FOREIGN_MASTER_AGE_OUT (R444). -/
  | foreignMasterAgeOut (lane : Lane) (identity : Nat)
  /-- SOURCE_QUALIFIED (R445). -/
  | sourceQualified (lane : Lane) (source : TimeSource) (offset : Int)
  /-- HOLDOVER_ENTRY (R447). -/
  | holdoverEntry (lane : Lane)
  /-- FREERUN_ENTRY (R447). -/
  | freerunEntry (lane : Lane)
  /-- PULSE_ARM (R451). -/
  | pulseArm (lane : Lane) (generator ns : Nat)
  /-- PULSE_EDGE (R450). -/
  | pulseEdge (lane : Lane) (generator : Nat)
  /-- PULSE_WIDTH_END (R450). -/
  | pulseWidthEnd (lane : Lane) (generator : Nat)
  /-- TIME_PULSE (R462). -/
  | timePulse (lane : Lane) (msg : Msg) (output : Nat) (pulse : PulseIn)
  /-- OPEN (R456). -/
  | openSession (lane : Lane) (msg : Msg)
  /-- CLOSE (R453). -/
  | close (lane : Lane) (msg : Msg)
  /-- KEEPALIVE (R455). -/
  | keepalive (lane : Lane) (msg : Msg)
  /-- READ (R455). -/
  | read (lane : Lane) (msg : Msg)
  /-- SUBSCRIBE (R460). -/
  | subscribe (lane : Lane) (msg : Msg)
  /-- SESSION_TIMEOUT (R453). -/
  | sessionTimeout (lane : Lane) (session : Nat)
  /-- CANVAS_REQUEST (R487). -/
  | canvasRequest (lane : Lane) (region : Nat)
  /-- CANVAS_TICK (R481). -/
  | canvasTick (inp : CanvasIn)
  /-- CANVAS_PHASE_BOUNDARY (R482). -/
  | canvasPhaseBoundary
  /-- CANVAS_RAILS_IDLE (R481). -/
  | canvasRailsIdle
  /-- CANVAS_RAIL_RETRY (R481). -/
  | canvasRailRetry
  /-- CRACK_LOOP_CHECK (R490). -/
  | crackLoopCheck (ohm : Nat)
  /-- CANVAS_TEMPERATURE_CLEAR (R489). -/
  | canvasTemperatureClear
  /-- CANVAS_POWER_FAIL (R491). -/
  | canvasPowerFail
  /-- CANVAS_START (R488). -/
  | canvasStart (readable : Bool) (ohm : Nat)
  /-- CANVAS_RESTART (R493). -/
  | canvasRestart (lane : Lane) (msg : Msg)
  /-- CANVAS_STATUS_TIMEOUT (R494). -/
  | canvasStatusTimeout (lane : Lane)
  /-- REGISTER_WRITE (R10). -/
  | registerWrite (lane : Lane) (reg : Reg) (value : Nat)
  /-- FILTERED_LINE_CHANGE (R329). -/
  | filteredLineChange (lane : Lane) (channel sample : Nat) (a b z ca cb cz : Bool)
  /-- SINE_COSINE_CONVERSION (R331). -/
  | sineCosineConversion (lane : Lane) (channel sample : Nat) (sine cosine : Rat)
  /-- ALARM_ACKNOWLEDGEMENT (R112). -/
  | alarmAcknowledgement (lane : Lane) (msg : Msg) (code : Code) (item : Nat)
  /-- MAKER_COMMAND (R106). -/
  | makerCommand (lane : Lane) (op : MakerOp)
  /-- CAPTURE_VALID_READ (R442). -/
  | captureValidRead (lane : Lane) (unit : Nat)
  /-- RAILS_RAMP_DOWN (R124). -/
  | railsRampDown (part : Unit3)
  /-- CALENDAR_OSCILLATOR_STOP (R131). -/
  | calendarOscillatorStop (clock : Unit3)
  /-- MUSLIN_SERIAL_LANE_FAILED (R65). -/
  | muslinSerialLaneFailed (second : Bool)
  /-- GNSS_FRONT_END_FAULT (R171). -/
  | gnssFrontEndFault (lane : Lane) (antenna : Nat) (low : Bool)
  /-- PTP_DELAY_REQUEST (R443). -/
  | ptpDelayRequest (lane : Lane) (lan ns : Nat)
  /-- MUSLIN_TRANSFER_RECEIVED (R346). -/
  | muslinTransferReceived (lane : Lane) (item : MuslinItem)
  deriving DecidableEq, Repr, Inhabited

end Sys2Proof
end

