-- ==== Sys2Proof/Decode.lean ====
section
/-!
DEFINITION. The command a word of the table's bits spells. The block has no instruction words: no row of spec/opcode_table.json
gives bits, so that no word spells a command.
-/

namespace Sys2Proof

/-- No row of the table gives bits. -/
def decodeTableWord (nbits w : Nat) : Option Instr := match nbits, w with | _, _ => none

end Sys2Proof
end

