-- ==== Sys2Proof/Machine/Observer.lean ====
section
/-!
DEFINITION. The vessel motion observer (07) as functions of its own state: the local frame, the model, the two observer
types, dead reckoning, origin moves, initialisation and the wave peak frequencies. Arithmetic is exact; circular
functions and roots are free values where they are not rational (log entries 4 and 5).
-/

namespace Sys2Proof.Machine

/-! ## Matrices as lists of rows -/

/-- Inner product. -/
def dot (a b : List Rat) : Rat := sumQ (List.zipWith (· * ·) a b)

/-- Transpose of a matrix of n columns. -/
def transposeM (n : Nat) (m : List (List Rat)) : List (List Rat) :=
  (List.range n).map fun j => m.map fun r => nth 0 r j

/-- Product with a matrix of n columns. -/
def mulM (n : Nat) (a b : List (List Rat)) : List (List Rat) :=
  let bt := transposeM n b
  a.map fun r => bt.map fun c => dot r c

/-- Sum of matrices. -/
def addM (a b : List (List Rat)) : List (List Rat) := List.zipWith (List.zipWith (· + ·)) a b

/-- Multiple of a matrix. -/
def scaleM (k : Rat) (a : List (List Rat)) : List (List Rat) := a.map (·.map (k * ·))

/-- Diagonal matrix. -/
def diagM (d : List Rat) : List (List Rat) := d.mapIdx fun i x => (List.range d.length).map fun j => if i = j then x else 0

/-- Identity matrix. -/
def identM (n : Nat) : List (List Rat) := diagM (List.replicate n 1)

/-- One Gauss-Jordan elimination step on pivot row i of an augmented matrix. -/
def pivotM (m : List (List Rat)) (i : Nat) : List (List Rat) :=
  let p := nth [] m i
  let d := nth 0 p i
  let p' := if d = 0 then p else p.map (· / d)
  m.mapIdx fun j r => if j = i then p' else List.zipWith (fun x y => x - nth 0 r i * y) r p'

/-- Inverse of an n by n matrix (a symmetric positive one: the pivots are not zero) (DEDUCED: log entry 72). -/
def invM (n : Nat) (m : List (List Rat)) : List (List Rat) :=
  let aug := List.zipWith (· ++ ·) m (identM n)
  ((List.range n).foldl pivotM aug).map (·.drop n)

/-! ## The local frame (07 R202) -/

/-- First eccentricity squared of WGS-84. -/
def wgsE2 : Rat := let f : Rat := 1 / (298257223563 / 1000000000); f * (2 - f)

/-- Earth-centred coordinates of a geographic position in degrees, height 0. -/
def ecef (lat lon : Rat) : V3 :=
  let nu : Rat := 6378137 / sqrtQ (1 - wgsE2 * sinQ lat * sinQ lat)
  ⟨nu * cosQ lat * cosQ lon, nu * cosQ lat * sinQ lon, nu * (1 - wgsE2) * sinQ lat⟩

/-- North and east of a geographic position in the frame of an origin. -/
def toLocal (lat0 lon0 lat lon : Rat) : V2 :=
  let d := V3.sub (ecef lat lon) (ecef lat0 lon0)
  ⟨-(sinQ lat0) * cosQ lon0 * d.x - sinQ lat0 * sinQ lon0 * d.y + cosQ lat0 * d.z,
   -(sinQ lon0) * d.x + cosQ lon0 * d.y⟩

/-- The inverse, by six rounds of correction from the origin (07 R202: iteratively to 1 mm). -/
def toGeo (lat0 lon0 : Rat) (p : V2) : V2 :=
  (List.range 6).foldl (fun (g : V2) _ =>
    let q := toLocal lat0 lon0 g.x g.y
    ⟨g.x + degQ ((p.x - q.x) / 6378137), g.y + degQ ((p.y - q.y) / (6378137 * maxQ (cosQ lat0) (1 / 1000)))⟩)
    ⟨lat0, lon0⟩

/-! ## The model (07 R206, R207) -/

/-- The states as a list, ξ1 before ξ2. -/
def Est.toList (x : Est) : List Rat :=
  [x.eta.x, x.eta.y, x.eta.z, x.nu.x, x.nu.y, x.nu.z, x.b.x, x.b.y, x.b.z, x.xi1.x, x.xi1.y, x.xi1.z, x.xi2.x,
   x.xi2.y, x.xi2.z]

/-- The states from a list. -/
def Est.ofList (l : List Rat) : Est :=
  let g := nth 0 l
  ⟨⟨g 0, g 1, g 2⟩, ⟨g 3, g 4, g 5⟩, ⟨g 6, g 7, g 8⟩, ⟨g 9, g 10, g 11⟩, ⟨g 12, g 13, g 14⟩⟩

/-- x + k y on states. -/
def Est.axpy (k : Rat) (y x : Est) : Est := Est.ofList (List.zipWith (fun a b => b + k * a) y.toList x.toList)

/-- Solution of M x = f for the mass matrix of 07 R207. -/
def massSolve (v : Vmod) (f : V3) : V3 :=
  let det := v.m22 * v.m33 - v.m23 * v.m23
  ⟨f.x / v.m11, (v.m33 * f.y - v.m23 * f.z) / det, (v.m22 * f.z - v.m23 * f.y) / det⟩

/-- Damping force D_L ν + D_Q(ν). -/
def damping (v : Vmod) (nu : V3) : V3 :=
  ⟨v.d11 * nu.x + v.dq.x * absQ nu.x * nu.x,
   v.d22 * nu.y + v.d23 * nu.z + v.dq.y * absQ nu.y * nu.y,
   v.d32 * nu.y + v.d33 * nu.z + v.dq.z * absQ nu.z * nu.z⟩

/-- R(ψ) applied to a triple, ψ in radians. -/
def rotNE (psi : Rat) (a : V3) : V3 := let h := toNorthEast (degQ psi) ⟨a.x, a.y⟩; ⟨h.x, h.y, a.z⟩

/-- Transpose of R(ψ) applied to a triple. -/
def rotBody (psi : Rat) (a : V3) : V3 := let h := toBody (degQ psi) ⟨a.x, a.y⟩; ⟨h.x, h.y, a.z⟩

/-- Time derivative of the states (07 R207); `psi` is the rotation used, none for the estimate's own. -/
def Est.deriv (v : Vmod) (w0 : V3) (tau : V3) (psi : Option Rat) (x : Est) : Est :=
  let p := psi.getD x.eta.z
  let f := V3.sub (V3.add (rotBody p x.b) tau) (damping v x.nu)
  let l := v.waveZeta
  { eta := rotNE p x.nu, nu := massSolve v f,
    b := V3.zip (fun b t => -b / t) x.b v.biasTc,
    xi1 := x.xi2,
    xi2 := V3.sub (V3.zip (fun a w => -(w * w) * a) x.xi1 w0) (V3.zip (fun a w => 2 * l * w * a) x.xi2 w0) }

/-- One motion cycle. -/
def cycleS : Rat := 2 / 100

/-- One step of the classical fourth-order Runge-Kutta method over one motion cycle (07 R212). -/
def Est.step (v : Vmod) (w0 tau : V3) (psi : Option Rat) (x : Est) : Est :=
  let f := Est.deriv v w0 tau psi
  let k1 := f x
  let k2 := f (Est.axpy (cycleS / 2) k1 x)
  let k3 := f (Est.axpy (cycleS / 2) k2 x)
  let k4 := f (Est.axpy cycleS k3 x)
  Est.axpy (cycleS / 6) k4 (Est.axpy (cycleS / 3) k3 (Est.axpy (cycleS / 3) k2 (Est.axpy (cycleS / 6) k1 x)))

/-- Rows of R(ψ) over three columns. -/
def rotRows (psi : Rat) : List (List Rat) :=
  let c := cosQ (degQ psi); let s := sinQ (degQ psi)
  [[c, -s, 0], [s, c, 0], [0, 0, 1]]

/-- Jacobian of the model (07 R218). -/
def jacobian (v : Vmod) (w0 : V3) (x : Est) : List (List Rat) :=
  let c := cosQ (degQ x.eta.z); let s := sinQ (degQ x.eta.z)
  let z3 : List Rat := [0, 0, 0]
  let r := rotRows x.eta.z
  let dRnu : List Rat := [-s * x.nu.x - c * x.nu.y, c * x.nu.x - s * x.nu.y, 0]
  let dRb : V3 := ⟨-s * x.b.x + c * x.b.y, -c * x.b.x - s * x.b.y, 0⟩
  let col := fun (f : V3) => let a := massSolve v f; ([a.x, a.y, a.z] : List Rat)
  let nuPsi := col dRb
  let dm := fun (j : Nat) =>
    match j with
    | 0 => col ⟨-v.d11 - 2 * v.dq.x * absQ x.nu.x, 0, 0⟩
    | 1 => col ⟨0, -v.d22 - 2 * v.dq.y * absQ x.nu.y, -v.d32⟩
    | _ => col ⟨0, -v.d23, -v.d33 - 2 * v.dq.z * absQ x.nu.z⟩
  let rb := fun (j : Nat) =>
    match j with
    | 0 => col ⟨c, -s, 0⟩
    | 1 => col ⟨s, c, 0⟩
    | _ => col ⟨0, 0, 1⟩
  let etaRows := (List.range 3).map fun i => [0, 0, nth 0 dRnu i] ++ nth [] r i ++ z3 ++ z3 ++ z3
  let nuRows := (List.range 3).map fun i =>
    [0, 0, nth 0 nuPsi i] ++ ((List.range 3).map fun j => nth 0 (dm j) i) ++ ((List.range 3).map fun j => nth 0 (rb j) i)
      ++ z3 ++ z3
  let tc := [v.biasTc.x, v.biasTc.y, v.biasTc.z]
  let ws := [w0.x, w0.y, w0.z]
  let at3 := fun (i : Nat) (q : Rat) => (List.range 3).map fun j => if i = j then q else 0
  let bRows := (List.range 3).map fun i => z3 ++ z3 ++ at3 i (-1 / nth 1 tc i) ++ z3 ++ z3
  let x1Rows := (List.range 3).map fun i => z3 ++ z3 ++ z3 ++ z3 ++ at3 i 1
  let x2Rows := (List.range 3).map fun i =>
    z3 ++ z3 ++ z3 ++ at3 i (-(nth 0 ws i * nth 0 ws i)) ++ at3 i (-(2 * v.waveZeta * nth 0 ws i))
  etaRows ++ nuRows ++ bRows ++ x1Rows ++ x2Rows

/-- Propagation of the covariance (07 R218). -/
def propagateCov (v : Vmod) (w0 : V3) (x : Est) (p : List (List Rat)) : List (List Rat) :=
  let a := jacobian v w0 x
  let phi := addM (identM 15) (addM (scaleM cycleS a) (scaleM (cycleS * cycleS / 2) (mulM 15 a a)))
  let sq := fun (q : Rat) => q * q * cycleS
  let qd : List Rat := [0, 0, 0, sq (v.qForce.x / v.m11), sq (v.qForce.y / v.m22), sq (v.qForce.z / v.m33),
    sq v.qBias.x, sq v.qBias.y, sq v.qBias.z, 0, 0, 0, sq v.qWave.x, sq v.qWave.y, sq v.qWave.z]
  addM (mulM 15 (mulM 15 phi p) (transposeM 15 phi)) (diagM qd)

/-! ## Wind (07 R210, R211) -/

/-- A table of 19 values at 0, 10, ... 180 degrees, interpolated linearly (07 R210). -/
def windTable (t : List Int) (deg : Rat) : Rat :=
  let i := (deg / 10).floor.toNat
  let lo := (nth 0 t i : Rat) / 1000
  let hi := (nth 0 t (min (i + 1) 18) : Rat) / 1000
  lo + (hi - lo) * (deg / 10 - (i : Rat))

/-- Wind force from the air velocity's origin vector (speed times direction it blows from, north and east). -/
def windForce (v : Vmod) (from_ : V2) (x : Est) : V3 :=
  let a := toBody (degQ x.eta.z) ⟨-from_.x, -from_.y⟩
  let vx := a.x - x.nu.x
  let vy := a.y - x.nu.y
  let g := atan2Q (-vy) (-vx)
  let q := (1 / 2) * ((v.rhoAir : Rat) / 1000) * (vx * vx + vy * vy) / 1000
  let sg : Rat := if g < 0 then -1 else if g = 0 then 0 else 1
  ⟨q * v.areaFront * windTable v.cx (absQ g), q * v.areaLat * sg * windTable v.cy (absQ g),
   q * v.areaLat * v.loa * sg * windTable v.cn (absQ g)⟩

/-- The ramp of 07 R211 over wind_ramp, in motion cycles (DEDUCED: log entry 72). -/
def ObserverState.windStep (v : Vmod) (o : ObserverState) (held : Bool) (comp : V3) : ObserverState :=
  let full := 50 * v.windRamp
  let o := if held != o.windOn then { o with windOn := held, windFrom := o.wind, windLeft := full } else o
  let target := if held then comp else V3.zero
  if o.windLeft = 0 then { o with wind := target }
  else
    let left := o.windLeft - 1
    let k : Rat := (left : Rat) / (full : Rat)
    { o with windLeft := left, wind := V3.add (V3.scale k o.windFrom) (V3.scale (1 - k) target) }

/-! ## Correction -/

/-- Innovation of a cycle (07 R208): north, east, heading in radians, with variances. -/
structure Innov where
  pos : Option (V2 × Rat)
  hdg : Option (Rat × Rat)
  deriving DecidableEq, Repr, Inhabited

/-- Correction of the passive nonlinear observer (07 R216, R217). -/
def passiveGain (v : Vmod) (w0 : V3) (psiY : Rat) (nPos nHdg : Nat) : List (List Rat) :=
  let l := v.waveZeta
  let kAuto := (v.m11 + v.m22) / 2
  let k4 : V3 := ⟨if v.k4.x = 0 then kAuto * v.omegaC.x * v.omegaC.x else v.k4.x,
    if v.k4.y = 0 then kAuto * v.omegaC.y * v.omegaC.y else v.k4.y,
    if v.k4.z = 0 then v.m33 * v.omegaC.z * v.omegaC.z else v.k4.z⟩
  let ns : List Rat := [(nPos : Rat), (nPos : Rat), (nHdg : Rat)]
  let sc := fun (rows : List (List Rat)) => rows.map fun r => List.zipWith (fun x n => x * n * cycleS) r ns
  let dg := fun (a : V3) => diagM [a.x, a.y, a.z]
  let k3 := V3.mulc v.biasRatio k4
  let k1u := V3.zip (fun c w => -2 * (v.notchZeta - l) * c / w) v.omegaC w0
  let k1l := V3.map (fun w => 2 * w * (v.notchZeta - l)) w0
  let cols := ([⟨k4.x, 0, 0⟩, ⟨0, k4.y, 0⟩, ⟨0, 0, k4.z⟩] : List V3).map fun c => massSolve v (rotBody psiY c)
  let nuRows := [cols.map (·.x), cols.map (·.y), cols.map (·.z)]
  sc (dg v.omegaC) ++ sc nuRows ++ sc (dg k3) ++ sc (dg k1u) ++ sc (dg k1l)

/-- H of 07 R218: rows north, east, heading, where measured. -/
def measRows (i : Innov) : List (List Rat) :=
  let row := fun (k : Nat) => (List.range 15).map fun j => if j = k ∨ j = 12 + k then (1 : Rat) else 0
  (if i.pos.isSome then [row 0, row 1] else []) ++ (if i.hdg.isSome then [row 2] else [])

/-- Innovations and variances as columns. -/
def measVals (i : Innov) : List Rat × List Rat :=
  let p := match i.pos with | some (p, r) => ([p.x, p.y], [r, r]) | none => ([], [])
  let h := match i.hdg with | some (y, r) => ([y], [r]) | none => ([], [])
  (p.1 ++ h.1, p.2 ++ h.2)

/-- Joseph form with a gain (07 R218). -/
def joseph (k h : List (List Rat)) (r : List Rat) (p : List (List Rat)) : List (List Rat) :=
  let m := r.length
  let ikh := addM (identM 15) (scaleM (-1) (mulM 15 k h))
  addM (mulM 15 (mulM 15 ikh p) (transposeM 15 ikh)) (mulM 15 (mulM m k (diagM r)) (transposeM m k))

/-- The corrected state and covariance by the observer type in use (07 R216 to R218, R220). -/
def correct (v : Vmod) (w0 : V3) (nPos nHdg : Nat) (i : Innov) (x : Est) (p : List (List Rat)) :
    Est × List (List Rat) :=
  let h := measRows i
  let (y, r) := measVals i
  let m := r.length
  if m = 0 then (x, p)
  else
    let k :=
      if v.observerType = 0 then
        let psiY := x.eta.z + (match i.hdg with | some (d, _) => d | none => 0)
        let full := passiveGain v w0 psiY nPos nHdg
        full.map fun row => (if i.pos.isSome then row.take 2 else []) ++ (if i.hdg.isSome then row.drop 2 else [])
      else
        let pht := mulM m p (transposeM 15 h)
        mulM m pht (invM m (addM (mulM m h pht) (diagM r)))
    (Est.ofList (List.zipWith (· + ·) x.toList (k.map fun row => dot row y)), joseph k h r p)

/-! ## Initial values (07 R214) -/

/-- Covariance at initialisation: references, velocity, bias, the stationary wave model. -/
def initCov (v : Vmod) (w0 : V3) (rPos rHdg : Rat) (sv : V3) : List (List Rat) :=
  let sq := fun (q : Rat) => q * q
  let wave := fun (q w : Rat) => sq q / (4 * v.waveZeta * w)
  let w1 := fun (q w : Rat) => wave q w / (w * w)
  diagM [rPos, rPos, rHdg, sq sv.x, sq sv.y, sq sv.z,
    sq v.initSigmaBias.x, sq v.initSigmaBias.y, sq v.initSigmaBias.z,
    w1 v.qWave.x w0.x, w1 v.qWave.y w0.y, w1 v.qWave.z w0.z, wave v.qWave.x w0.x, wave v.qWave.y w0.y, wave v.qWave.z w0.z]

/-- The initial state from a position, heading (radians) and GNSS velocity, with zero initial acceleration. -/
def initEst (v : Vmod) (pos : V2) (psi : Rat) (vel : Option V2) (tau : V3) : Est :=
  let nu : V3 := match vel with
    | some w => let bdy := toBody (degQ psi) w; ⟨bdy.x, bdy.y, 0⟩
    | none => V3.zero
  ⟨⟨pos.x, pos.y, psi⟩, nu, rotNE psi (V3.sub (damping v nu) tau), V3.zero, V3.zero⟩

/-! ## The update -/

/-- What the observer slice reads (07 R208 to R212). -/
structure ObsCtx where
  vmod : Vmod
  refs : RefOutput
  provisional : Option V2
  thrust : V3
  active : Bool
  motion : Nat
  timeNs : Nat
  frame : Nat
  /-- Origin of the active lane as the last complete copy carries it: latitude, longitude, generation, pending. -/
  copyOrigin : Option (Rat × Rat × Nat × Option OriginMove)
  deriving DecidableEq, Repr

/-- Diagonal of a covariance. -/
def covDiag (p : List (List Rat)) : List Rat := p.mapIdx fun i r => nth 0 r i

/-- The check of 07 R215 after an update. -/
def checkOk (x : Est) (p : List (List Rat)) : Bool :=
  (covDiag p).all (fun d => decide (0 < d)) && decide (absQ x.nu.x ≤ 10) && decide (absQ x.nu.y ≤ 10)
    && decide (absQ x.nu.z ≤ 2 / 10)

/-- Apply an origin move to everything the observer holds (07 R204, R205). -/
def ObserverState.move (o : ObserverState) (m : OriginMove) (gen timeNs : Nat) : ObserverState :=
  let sh := fun (x : Est) => { x with eta := ⟨x.eta.x - m.shift.x, x.eta.y - m.shift.y, x.eta.z⟩ }
  { o with est := sh o.est, pred := sh o.pred, history := o.history.map fun h => { h with est := sh h.est },
           lat0 := m.lat, lon0 := m.lon, originGen := gen, pending := none, lastShift := ⟨-m.shift.x, -m.shift.y⟩,
           moveS := timeNs / 1000000000, moveNs := timeNs % 1000000000 }

/-- A lane that follows takes origin, origin_gen and pending move of a state copy (07 R204, R227). A copy of the generation
before the lane's own has been overtaken by the move it carries. -/
def ObserverState.takeOrigin (o copy : ObserverState) (timeNs : Nat) : ObserverState :=
  if o.status = 0 ∨ !copy.originSet then o
  else if o.originGen = copy.originGen then { o with floating := copy.floating, lat0 := copy.lat0, lon0 := copy.lon0, pending := copy.pending }
  else if o.originGen = (copy.originGen + 1) % 65536 then o
  else
    let q : V2 := if o.floating ∨ copy.floating then ⟨0, 0⟩ else toLocal copy.lat0 copy.lon0 o.lat0 o.lon0
    { o.move ⟨⟨-q.x, -q.y⟩, copy.lat0, copy.lon0⟩ copy.originGen timeNs with floating := copy.floating, pending := copy.pending }

/-- Wave-frequency motion stored for the spectrum (07 R221): blocks of ten cycles (DEDUCED: log entry 72). -/
def ObserverState.storeWave (o : ObserverState) (w : V3) : ObserverState :=
  let sum := V3.add o.blockSum w
  if o.blockCount + 1 = 10 then
    { o with blockSum := V3.zero, blockCount := 0, series := (V3.scale (1 / 10) sum :: o.series).take 1024 }
  else { o with blockSum := sum, blockCount := o.blockCount + 1 }

/-- Reported standard deviations (07 R220, R224). -/
def ObserverState.report (v : Vmod) (o : ObserverState) (p : List (List Rat)) : ObserverState :=
  let s := (covDiag p).map sqrtQ
  let g := nth 0 s
  let tp : Rat := (o.drPosT : Rat) * cycleS
  let th : Rat := (o.drHdgT : Rat) * cycleS
  let grow := fun (on : Bool) (c s0 k t : Rat) => if on then maxQ c (s0 + k * t) else c
  let pose : V3 := ⟨grow o.drPos (g 0) o.sigma0.x v.drRatePos tp, grow o.drPos (g 1) o.sigma0.y v.drRatePos tp,
    grow o.drHdg (g 2) o.sigma0.z v.drRateHdg th⟩
  let tot := fun (i : Nat) (base : Rat) =>
    let cvar := nth 0 (nth [] p i) i + 2 * nth 0 (nth [] p i) (12 + i) + nth 0 (nth [] p (12 + i)) (12 + i)
    maxQ (sqrtQ cvar) base
  { o with sigmas := s, sigmaPose := pose,
           sigmaTotal := ⟨tot 0 pose.x, tot 1 pose.y, tot 2 pose.z⟩ }

/-- Initialisation in a cycle whose references give a position and a heading (07 R203, R214) (DEDUCED: log entry 72). -/
def ObserverState.init (c : ObsCtx) (o : ObserverState) (pos : V2) (rPos hdg rHdg : Rat) : ObserverState :=
  let psi := radQ hdg
  let prov := c.provisional.getD ⟨0, 0⟩
  let geo := toGeo prov.x prov.y pos
  let placed : V2 × ObserverState :=
    match (if c.active then none else c.copyOrigin) with
    | some (la, lo, gen, pend) =>
      (toLocal la lo geo.x geo.y, { o with originSet := true, floating := false, lat0 := la, lon0 := lo, originGen := gen,
                                           pending := pend })
    | none =>
      if o.originSet then ((if c.refs.geoHeld then toLocal o.lat0 o.lon0 geo.x geo.y else pos), o)
      else if c.refs.geoHeld then
        (⟨0, 0⟩, { o with originSet := true, floating := false, lat0 := geo.x, lon0 := geo.y })
      else (pos, { o with originSet := true, floating := true })
  let o := placed.2
  let w0 : V3 := ⟨c.vmod.waveInit, c.vmod.waveInit, c.vmod.waveInit⟩
  let sv : V3 := match c.refs.velocity with
    | some _ => ⟨1 / 10, 1 / 10, c.vmod.initSigmaVel.z⟩
    | none => c.vmod.initSigmaVel
  -- the wind of 07 R210 at the initial pose and velocity; a ramp in progress goes on
  let comp := windForce c.vmod c.refs.wind (initEst c.vmod placed.1 psi c.refs.velocity V3.zero)
  let o := if o.status = 0 then { o with wind := if c.refs.windHeld then comp else V3.zero, windOn := c.refs.windHeld, windLeft := 0 }
    else o.windStep c.vmod c.refs.windHeld comp
  let tau := V3.add c.thrust o.wind
  let x := initEst c.vmod placed.1 psi c.refs.velocity tau
  let p := initCov c.vmod w0 rPos (radQ (radQ rHdg)) sv
  let o := { o with status := 1, est := x, omega0 := w0, series := [], blockSum := V3.zero, blockCount := 0,
                    drPos := false, drHdg := false, drPosT := 0, drHdgT := 0, limitPos := false, limitHdg := false,
                    nPos := 0, nHdg := 0, age := 0, wasDrPos := false, wasDrHdg := false }
  let o := o.report c.vmod p
  { o with cov := propagateCov c.vmod w0 x p, pred := x.step c.vmod w0 tau none }

/-- Publication of an estimate with its epoch, and the history of 06 R182 (07 R212). -/
def ObserverState.publish (c : ObsCtx) (o : ObserverState) : ObserverState :=
  { o with epochS := c.timeNs / 1000000000, epochNs := c.timeNs % 1000000000, epochFrame := c.frame, age := 0,
           history := (⟨c.timeNs, o.est⟩ :: o.history).take 250 }

/-- The observer slice of slot 1 (07 R212 to R226). -/
def ObserverState.update (c : ObsCtx) (o : ObserverState) : ObserverState × List AlarmOp :=
  let v := c.vmod
  -- step 1: origin move due at motion index 1, or in the next completed slice (07 R205)
  let moved := o.pending.isSome && decide (c.motion ≠ 0) && decide (o.status = 1)
  let o := match o.pending with
    | some m => if moved then o.move m ((o.originGen + 1) % 65536) c.timeNs else o
    | none => o
  let held := o.thrust
  let o := { o with resetNow := false, thrust := c.thrust }
  let moveOps := AlarmOp.ifOn moved ⟨.ob, 30⟩ 0 0
  if o.status = 0 then
    match c.refs.pos, c.refs.hdg with
    | some (p, rp), some (h, rh) =>
      let o' := (o.init c p rp h rh).publish c
      (o', moveOps ++ [.clear ⟨.ob, 1⟩ 0, AlarmOp.whileOn o'.floating ⟨.ob, 31⟩ 0 0])
    | _, _ => (o, moveOps ++ [.hold ⟨.ob, 1⟩ 0 0])
  else
    -- R213: propagate over the whole elapsed time; the prediction covers one motion cycle of it
    let (x0, p0) := (List.range (o.age - 1)).foldl (fun (q : Est × List (List Rat)) _ =>
      (q.1.step v o.omega0 (V3.add held o.wind) none, propagateCov v o.omega0 q.1 q.2)) (o.pred, o.cov)
    -- R223: dead reckoning
    let drPos := !c.refs.posHeld
    let drHdg := !c.refs.hdgHeld
    let o := { o with
      sigma0 := ⟨if drPos && !o.drPos then o.sigmaPose.x else o.sigma0.x,
                 if drPos && !o.drPos then o.sigmaPose.y else o.sigma0.y,
                 if drHdg && !o.drHdg then o.sigmaPose.z else o.sigma0.z⟩,
      wasDrPos := o.drPos, wasDrHdg := o.drHdg, drPos := drPos, drHdg := drHdg,
      drPosT := if drPos then (if o.drPos then o.drPosT + 1 else 0) else 0,
      drHdgT := if drHdg then (if o.drHdg then o.drHdgT + 1 else 0) else 0,
      limitPos := o.limitPos && drPos, limitHdg := o.limitHdg && drHdg }
    let nPos := min 5 (o.nPos + 1)
    let nHdg := min 5 (o.nHdg + 1)
    let inn : Innov :=
      { pos := if drPos then none else c.refs.pos,
        hdg := if drHdg then none else c.refs.hdg.map fun (y, r) => (radQ y, radQ (radQ r)) }
    -- R226: reset after dead reckoning, observer_type 0
    let jumpPos := v.observerType = 0 && o.wasDrPos && !drPos && (match inn.pos with
      | some (y, r) => decide (v.resetK * v.resetK * r < y.x * y.x + y.y * y.y) | none => false)
    let jumpHdg := v.observerType = 0 && o.wasDrHdg && !drHdg && (match inn.hdg with
      | some (y, r) => decide (v.resetK * v.resetK * r < y * y) | none => false)
    let (jx, jr) := inn.pos.getD (⟨0, 0⟩, 1)
    let (hx, hr) := inn.hdg.getD (0, 1)
    let setDiag := fun (p : List (List Rat)) (i : Nat) (r : Rat) =>
      p.mapIdx fun a row => row.mapIdx fun b e => if a = i ∧ b = i then r else if a = i ∨ b = i then 0 else e
    let x1 : Est := { x0 with eta := ⟨x0.eta.x + (if jumpPos then jx.x else 0), x0.eta.y + (if jumpPos then jx.y else 0),
                                      x0.eta.z + (if jumpHdg then hx else 0)⟩ }
    let p1 := if jumpPos then setDiag (setDiag p0 0 jr) 1 jr else p0
    let p1 := if jumpHdg then setDiag p1 2 hr else p1
    let inn' : Innov := { pos := if jumpPos then none else inn.pos, hdg := if jumpHdg then none else inn.hdg }
    let (x2, p2) := correct v o.omega0 nPos nHdg inn' x1 p1
    -- R215: re-initialisation of an offered quantity
    let rePos := c.refs.offerPos
    let reHdg := c.refs.offerHdg
    let x3 : Est := match rePos with
      | some (q, _) => { x2 with eta := ⟨q.x, q.y, x2.eta.z⟩, xi1 := ⟨0, 0, x2.xi1.z⟩, xi2 := ⟨0, 0, x2.xi2.z⟩ }
      | none => x2
    let p3 := match rePos with | some (_, r) => setDiag (setDiag p2 0 r) 1 r | none => p2
    let x3 : Est := match reHdg with
      | some (q, _) => { x3 with eta := ⟨x3.eta.x, x3.eta.y, radQ q⟩, xi1 := ⟨x3.xi1.x, x3.xi1.y, 0⟩,
                                 xi2 := ⟨x3.xi2.x, x3.xi2.y, 0⟩ }
      | none => x3
    let p3 := match reHdg with | some (_, r) => setDiag p3 2 (radQ (radQ r)) | none => p3
    let ok := checkOk x3 p3
    let comp := windForce v c.refs.wind x3
    let ops := moveOps ++
      [AlarmOp.whileOn drPos ⟨.ob, 10⟩ 0 0, AlarmOp.whileOn drHdg ⟨.ob, 12⟩ 0 0]
      ++ (if o.floating then [] else [.clear ⟨.ob, 31⟩ 0])
      ++ (if drPos then [] else [.clear ⟨.ob, 11⟩ 0]) ++ (if drHdg then [] else [.clear ⟨.ob, 13⟩ 0])
      ++ AlarmOp.ifOn (jumpPos || jumpHdg) ⟨.ob, 21⟩ 0 0 ++ AlarmOp.ifOn (rePos.isSome || reHdg.isSome) ⟨.ob, 20⟩ 0 0
    if ok then
      let o := { o with est := x3, nPos := if inn.pos.isSome then 0 else nPos, nHdg := if inn.hdg.isSome then 0 else nHdg,
                        resetNow := jumpPos || jumpHdg || rePos.isSome || reHdg.isSome }
      let o := o.windStep v c.refs.windHeld comp
      let ew : V3 := x3.xi2
      let meas : V3 := ⟨ew.x + (match inn.pos with | some (y, _) => y.x | none => 0),
        ew.y + (match inn.pos with | some (y, _) => y.y | none => 0),
        ew.z + (match inn.hdg with | some (y, _) => y | none => 0)⟩
      let o := (o.report v p3).storeWave meas
      let tau := V3.add c.thrust o.wind
      let psi := if v.observerType = 0 && reHdg.isNone then inn.hdg.map fun (y, _) => x0.eta.z + y else none
      let o := o.publish c
      let o := { o with cov := propagateCov v o.omega0 x3 p3, pred := x3.step v o.omega0 tau psi }
      let o := if o.resetNow then
          { o with lastReset := ⟨if jumpPos || jumpHdg then 21 else 20, b2n (jumpPos || rePos.isSome) + 2 * b2n (jumpHdg || reHdg.isSome),
              V3.sub x3.eta x0.eta, c.timeNs / 1000000000, c.timeNs % 1000000000⟩ } else o
      -- R204: the active lane compares the distance at motion index 0
      let far := c.active && decide (c.motion = 0) && !o.floating && o.originSet && o.pending.isNone
        && decide (v.originRadius * v.originRadius ≤ x3.eta.x * x3.eta.x + x3.eta.y * x3.eta.y)
      let sh : V2 := ⟨((x3.eta.x + 1 / 2).floor : Rat), ((x3.eta.y + 1 / 2).floor : Rat)⟩
      let g := toGeo o.lat0 o.lon0 sh
      let back := toLocal g.x g.y o.lat0 o.lon0
      ({ o with pending := if far then some ⟨⟨-back.x, -back.y⟩, g.x, g.y⟩ else o.pending }, ops)
    else
      -- R215: not plausible: re-initialise where the references allow, else status 0
      match c.refs.pos, c.refs.hdg with
      | some (p, rp), some (h, rh) =>
        let ap : V2 := ⟨x0.eta.x + p.x, x0.eta.y + p.y⟩
        let o' := ((o.init { c with provisional := some ⟨o.lat0, o.lon0⟩ } ap rp (degQ x0.eta.z + h) rh).publish c)
        ({ o' with resetNow := true, lastReset := ⟨50, 3, V3.sub o'.est.eta x0.eta, c.timeNs / 1000000000, c.timeNs % 1000000000⟩ },
          ops ++ [.raise ⟨.ob, 20⟩ 0 0, .raise ⟨.ob, 50⟩ 0 0])
      | _, _ =>
        ({ o with status := 0 }, ops ++ [.raise ⟨.ob, 50⟩ 0 0, .hold ⟨.ob, 1⟩ 0 0])

/-! ## Wave peak adaptation (07 R221, R222) -/

/-- Power of bin j of a windowed series of 1 024 samples. -/
def binPower (xs : List Rat) (j : Nat) : Rat :=
  let n : Rat := 1024
  let mean := sumQ xs / n
  let ws := xs.mapIdx fun k x => (x - mean) * (1 / 2) * (1 - cosQ (360 * (k : Rat) / n))
  let re := sumQ (ws.mapIdx fun k x => x * cosQ (360 * (j * k % 1024 : Nat) / n))
  let im := sumQ (ws.mapIdx fun k x => x * sinQ (360 * (j * k % 1024 : Nat) / n))
  re * re + im * im

/-- Frequency of bin j in rad/s. -/
def binFreq (j : Rat) : Rat := 2 * Config.pi * j / (2048 / 10)

/-- Bins of the band. -/
def bandBins (v : Vmod) : List Nat :=
  (List.range 512).filter fun j => decide (v.waveLo ≤ binFreq (j : Rat)) && decide (binFreq (j : Rat) ≤ v.waveHi)

/-- Refined peak of a series: its frequency, and whether it lies in the lowest or highest bin of the band. -/
def wavePeak (v : Vmod) (xs : List Rat) : Option (Rat × Bool × Rat) :=
  let bins := bandBins v
  let pw := bins.map fun j => (j, binPower xs j)
  let best := pw.foldl (fun (b : Option (Nat × Rat)) q =>
    match b with
    | none => some q
    | some b => if b.2 < q.2 then some q else some b) none
  match best with
  | none => none
  | some (j, p) =>
    let pm := binPower xs (j - 1)
    let pp := binPower xs (j + 1)
    let den := pm - 2 * p + pp
    let dj := if den = 0 then 0 else (pm - pp) / (2 * den)
    -- mean square in the band: 2 sum |X|^2 / (N sum w^2), sum of the squared Hann window 3 N / 8
    let ms := 2 * sumQ (pw.map (·.2)) / (1024 * 1024 * 3 / 8)
    some (binFreq ((j : Rat) + dj), (bins.head? == some j) || (bins.getLast? == some j), sqrtQ ms)

/-- The wave spectrum slice of slot 8, motion index 0 (07 R221, R222) (DEDUCED: log entry 72). -/
def ObserverState.adaptWaves (v : Vmod) (o : ObserverState) : ObserverState × List AlarmOp :=
  if v.waveAdapt = 0 ∨ o.series.length < 1024 then (o, [])
  else
    let one := fun (sel : V3 → Rat) (minAmp : Rat) (held : Bool) (edge inside : Nat) =>
      match wavePeak v (o.series.map sel) with
      | none => (sel o.omega0, edge, inside)
      | some (wp, atEdge, rms) =>
        let e := if atEdge then edge + 1 else 0
        let n := if atEdge then 0 else inside + 1
        if held ∨ rms < minAmp then (sel o.omega0, e, n)
        else (clampQ v.waveLo v.waveHi (sel o.omega0 + clampQ (-v.waveRate) v.waveRate (wp - sel o.omega0)), e, n)
    let a := one (·.x) v.waveMinAmp o.drPos (nth 0 o.edge 0) (nth 0 o.inside 0)
    let b := one (·.y) v.waveMinAmp o.drPos (nth 0 o.edge 1) (nth 0 o.inside 1)
    let c := one (·.z) v.waveMinAmpHdg o.drHdg (nth 0 o.edge 2) (nth 0 o.inside 2)
    let edges := [a.2.1, b.2.1, c.2.1]
    let insides := [a.2.2, b.2.2, c.2.2]
    ({ o with omega0 := ⟨a.1, b.1, c.1⟩, edge := edges, inside := insides },
      (if edges.any (fun e => decide (10 ≤ e)) then [.hold ⟨.ob, 40⟩ 0 0] else [])
      ++ (if insides.all (fun n => decide (10 ≤ n)) then [.clear ⟨.ob, 40⟩ 0] else []))

end Sys2Proof.Machine
end

