-- ==== Sys2Proof/Machine/Refs.lean ====
section
/-!
DEFINITION. References (06): intake of sentences and binary frames, the tests in their order, weighting and the states of
every reference, as functions of the references of a lane.
-/

namespace Sys2Proof.Machine

/-! ## Text of sentences (06 R178) -/

/-- Value of a hexadecimal digit. -/
def hexDigit (b : Byte) : Option Nat :=
  let n := b.toNat
  if 0x30 ≤ n ∧ n ≤ 0x39 then some (n - 0x30)
  else if 0x41 ≤ n ∧ n ≤ 0x46 then some (n - 0x37)
  else if 0x61 ≤ n ∧ n ≤ 0x66 then some (n - 0x57) else none

/-- Fields of a text between commas. -/
def splitAtByte (sep : Byte) : Bytes → List Bytes
  | [] => [[]]
  | b :: bs =>
    match splitAtByte sep bs with
    | [] => if b = sep then [[], []] else [[b]]
    | f :: fs => if b = sep then [] :: f :: fs else (b :: f) :: fs

/-- An unsigned decimal number with an optional fraction. -/
def decimal (bs : Bytes) : Option Rat :=
  let step := fun (acc : Option (Rat × Option Rat)) (b : Byte) =>
    match acc with
    | none => none
    | some (v, sc) =>
      if b.toNat = 0x2E then (if sc.isNone then some (v, some 1) else none)
      else if 0x30 ≤ b.toNat ∧ b.toNat ≤ 0x39 then
        let d : Rat := (b.toNat - 0x30 : Nat)
        match sc with
        | none => some (v * 10 + d, none)
        | some k => some (v + d * (k / 10), some (k / 10))
      else none
  match bs with
  | [] => none
  | _ => (bs.foldl step (some (0, none))).map (·.1)

/-- A decimal number with an optional sign. -/
def decimalS (bs : Bytes) : Option Rat :=
  match bs with
  | b :: rest => if b.toNat = 0x2D then (decimal rest).map (- ·) else decimal bs
  | [] => none

/-- Checksum of a sentence: exclusive or of the characters between the dollar sign and the star. -/
def sentenceSum (bs : Bytes) : Nat := (bs.foldl (· ^^^ ·) 0#8).toNat

/-- A sentence split: talker, formatter, fields. -/
structure Sentence where
  talker : Bytes
  formatter : Bytes
  fields : List Bytes
  deriving DecidableEq, Repr

/-- Address and fields of the characters between the dollar sign and the star; a proprietary sentence has no formatter. -/
def splitAddress (rest : Bytes) : Sentence :=
  match splitAtByte 0x2C rest with
  | addr :: fs => if addr.length = 5 ∧ addr.head? ≠ some 0x50#8 then ⟨addr.take 2, addr.drop 2, fs⟩ else ⟨addr, [], fs⟩
  | [] => ⟨[], [], []⟩

/-- A whole sentence with a right checksum and at most 82 characters (06 R178); none where it is refused. -/
def parseSentence (bs : Bytes) : Option Sentence :=
  let body := bs.takeWhile (· != 0x2A#8)
  let tail := bs.drop body.length
  match body, tail with
  | d :: rest, _ :: h1 :: h2 :: end_ =>
    if d.toNat = 0x24 ∧ bs.length ≤ 82 ∧ end_ = [0x0D#8, 0x0A#8] then
      match hexDigit h1, hexDigit h2 with
      | some x, some y =>
        if 16 * x + y = sentenceSum rest then some (splitAddress rest) else none
      | _, _ => none
    else none
  | _, _ => none

/-- Degrees from a field ddmm.mm or dddmm.mm and its hemisphere. -/
def latLon (v hemi : Bytes) (negative : Byte) : Option Rat :=
  match decimal v with
  | none => none
  | some x =>
    let d : Rat := ((x / 100).floor : Rat)
    let deg := d + (x - 100 * d) / 60
    match hemi with
    | [h] => some (if h = negative then -deg else deg)
    | _ => none

/-- Milliseconds of the day from a field hhmmss.ss. -/
def utcMs (v : Bytes) : Option Nat :=
  (decimal v).map fun (x : Rat) =>
    let h : Nat := (x / 10000).floor.toNat
    let m : Nat := ((x - 10000 * (h : Rat)) / 100).floor.toNat
    let s : Rat := x - 10000 * (h : Rat) - 100 * (m : Rat)
    3600000 * h + 60000 * m + (1000 * s).floor.toNat

/-- Field n of a sentence. -/
def Sentence.field (s : Sentence) (n : Nat) : Bytes := nth [] s.fields n

/-- The listed sentences of 06 R178. -/
def listedFormatter (f : Bytes) : Bool :=
  ["GGA", "GNS", "GST", "HDT", "THS", "MWV"].any fun x => decide (ascii x = f)

/-- What a listed sentence gives: value, range test passed (06 R187), time of day; none where a needed field is empty. -/
def sentenceValue (r : RefRec) (s : Sentence) : Option (RefValue × Bool × Option Nat) :=
  let f := s.field
  let text := fun (x : String) => decide (ascii x = s.formatter)
  if text "GGA" && r.format == 0x01 then
    match utcMs (f 0), latLon (f 1) (f 2) 0x53, latLon (f 3) (f 4) 0x57, decimal (f 5), decimal (f 6), decimal (f 7) with
    | some t, some la, some lo, some q, some n, some h =>
      some (.geo la lo 0, decide (q = 1 ∨ q = 2 ∨ q = 4 ∨ q = 5) && decide (4 ≤ n) && decide (h ≤ r.rangeA), some t)
    | _, _, _, _, _, _ => none
  else if text "GNS" && r.format == 0x02 then
    match utcMs (f 0), latLon (f 1) (f 2) 0x53, latLon (f 3) (f 4) 0x57, f 5, decimal (f 6), decimal (f 7) with
    | some t, some la, some lo, m :: _, some n, some h =>
      some (.geo la lo 0, [0x41, 0x44, 0x46, 0x52].contains m.toNat && decide (4 ≤ n) && decide (h ≤ r.rangeA), some t)
    | _, _, _, _, _, _ => none
  else if text "HDT" && r.format == 0x03 then
    (decimal (f 0)).map fun h => (.heading h 0, decide (0 ≤ h) && decide (h < 360), none)
  else if text "THS" && r.format == 0x04 then
    match decimal (f 0), f 1 with
    | some h, m :: _ => some (.heading h 0, decide (0 ≤ h) && decide (h < 360) && m.toNat == 0x41, none)
    | _, _ => none
  else if text "MWV" && r.format == 0x05 then
    match decimal (f 0), f 1, decimal (f 2), f 3, f 4 with
    | some a, ref :: _, some v, u :: _, st :: _ =>
      let sp := if u.toNat = 0x4E then v * 1852 / 3600 else if u.toNat = 0x4B then v / (36 / 10) else v
      some (.wind a sp, ref.toNat == 0x52 && st.toNat == 0x41 && [0x4E, 0x4B, 0x4D].contains u.toNat
        && decide (0 ≤ sp) && decide (sp ≤ r.rangeB), none)
    | _, _, _, _, _ => none
  else none

/-- Whether a REFS entry takes a sentence (06 R173, R178) (DEDUCED: log entry 70). -/
def takesSentence (r : RefRec) (source : Nat) (s : Sentence) : Bool :=
  r.source == source && (decide (r.talker = ascii "--") || decide (r.talker = s.talker))
    && ((decide (s.formatter = ascii "GGA") && r.format == 0x01) || (decide (s.formatter = ascii "GNS") && r.format == 0x02)
      || (decide (s.formatter = ascii "HDT") && r.format == 0x03) || (decide (s.formatter = ascii "THS") && r.format == 0x04)
      || (decide (s.formatter = ascii "MWV") && r.format == 0x05))

/-- A double of 64 bits. -/
def f64Value (w : Nat) : Option Rat :=
  let e : Nat := (w / 2 ^ 52) % 2048
  let m : Nat := w % 2 ^ 52
  if e = 2047 then none
  else
    let mag : Rat := if e = 0 then (m : Rat) / ((2 ^ 1074 : Nat) : Rat)
      else if e < 1075 then ((m + 2 ^ 52 : Nat) : Rat) / ((2 ^ (1075 - e) : Nat) : Rat)
      else (((m + 2 ^ 52) * 2 ^ (e - 1075) : Nat) : Rat)
    some (if w.testBit 63 then -mag else mag)

/-- Payload length of a binary frame type (06 R179). -/
def binaryLength (t : Nat) : Option Nat :=
  if t = 0x10 then some 20 else if t = 0x11 then some 16 else if t = 0x12 then some 12 else if t = 0x13 then some 12
  else none

/-- A whole reference binary frame (06 R179): sync, length for its type, CRC. -/
def binaryOk (bs : Bytes) : Bool :=
  decide (bs.take 2 = [0xAE#8, 0x51#8]) && (match binaryLength (fieldN bs 2 1) with
    | some l => fieldN bs 3 1 == l && decide (bs.length = 16 + l) && crcOk bs
    | none => false)

/-- Value and range test of a binary frame for a REFS entry (06 R179, R187). -/
def binaryValue (r : RefRec) (bs : Bytes) : Option (RefValue × Bool × Bool × Option Nat) :=
  let st : Nat := fieldN bs 6 1
  let valid := st.testBit 0
  let deg := st.testBit 1
  let t := fieldN bs 8 4
  let tm := if t = 0xFFFFFFFF then none else some t
  let f := fun o => fieldF bs o
  if fieldN bs 2 1 = 0x10 then
    match f64Value (fieldN bs 12 8), f64Value (fieldN bs 20 8) with
    | some la, some lo =>
      some (.geo la lo (f 28), valid && decide (-90 ≤ la ∧ la ≤ 90) && decide (-180 ≤ lo ∧ lo < 180)
        && decide (f 28 ≤ r.rangeB), deg, tm)
    | _, _ => none
  else if fieldN bs 2 1 = 0x11 then
    some (.relative ⟨f 12, f 16, f 20⟩ (f 24), valid && fieldN bs 7 1 == r.subtype
      && decide (0 ≤ r.rangeA ∧ f 12 * f 12 + f 16 * f 16 ≤ r.rangeA * r.rangeA) && decide (f 24 ≤ r.rangeB), deg, tm)
  else if fieldN bs 2 1 = 0x12 then
    some (.wire (f 12) (f 16) (f 20), valid && decide (absQ (f 12) ≤ r.rangeA) && decide (absQ (f 16) ≤ r.rangeA)
      && (decide (f 20 = 0) || (decide (r.depth ≤ f 20) && decide (f 20 ≤ r.rangeB))), deg, tm)
  else
    some (.motion (f 12) (f 16) (f 20), valid && decide (absQ (f 12) ≤ r.rangeA) && decide (absQ (f 16) ≤ r.rangeA)
      && decide (absQ (f 20) ≤ r.rangeB), deg, tm)

/-- Whether a REFS entry takes a binary frame: source, type as its format, target as its subtype for type 0x11. -/
def takesBinary (r : RefRec) (source : Nat) (bs : Bytes) : Bool :=
  r.source == source && r.format == fieldN bs 2 1 && (r.format != 0x11 || r.subtype == fieldN bs 7 1)

/-- Measurement time (06 R181): arrival less latency, or the message's time where it may be used. -/
def measurementTime (r : RefRec) (arrival leap : Nat) (good : Bool) (msg : Option Nat) : Nat × Bool × Bool :=
  let base := arrival - 1000000 * r.latency
  if !r.flags.testBit 1 then (base, false, false)
  else match msg with
    | none => (base, false, false)
    | some ms =>
      if !good then (base, false, true)
      else
        let day := 86400000
        let utcNow : Nat := arrival / 1000000 - 1000 * leap
        let d0 : Nat := utcNow / day
        let cands := [d0 - 1, d0, d0 + 1].map fun d => d * day + ms
        let near : Nat := cands.foldl (fun (b c : Nat) => if (Int.natAbs ((c : Int) - utcNow)) < (Int.natAbs ((b : Int) - utcNow)) then c else b)
          (d0 * day + ms)
        let t : Nat := (near + 1000 * leap) * 1000000
        if arrival ≤ t + 1000000 * r.maxAge ∧ t ≤ arrival then (t, true, false) else (base, false, true)

/-- A new measurement waits for the slot-0 tick; an older one of the cycle is superseded (06 R180). -/
def RefState.take (s : RefState) (m : Measurement) : RefState :=
  { s with waiting := some m, superseded := if s.waiting.isSome then s.superseded + 1 else s.superseded,
           gotCycle := s.gotCycle + 1 }

/-- A sentence or frame refused at intake (06 R186). -/
def RefState.refuse (s : RefState) : RefState :=
  { s with refused := s.refused + 1, gotCycle := s.gotCycle + 1, refusedCycle := s.refusedCycle + 1 }

/-! ## Evaluation at a time (06 R182) -/

/-- Linear interpolation between two states, heading by the shorter way being left to the unwrapped estimate. -/
def lerpEst (k : Rat) (a b : Est) : Est :=
  Est.ofList (List.zipWith (fun x y => x + k * (y - x)) a.toList b.toList)

/-- The estimate at a time: between history entries, then toward the prediction. -/
def histAt (h : List HistEntry) (pred : Est) (t : Nat) : Option HistEntry :=
  match h with
  | [] => none
  | e :: rest =>
    if e.time ≤ t then
      let k : Rat := minQ 1 (((t - e.time : Nat) : Rat) / 20000000)
      some { e with est := lerpEst k e.est pred, time := t }
    else
      let rec go (newer : HistEntry) : List HistEntry → HistEntry
        | [] => newer
        | o :: os =>
          if o.time ≤ t then
            let k : Rat := if newer.time = o.time then 0 else ((t - o.time : Nat) : Rat) / ((newer.time - o.time : Nat) : Rat)
            { o with est := lerpEst k o.est newer.est, time := t }
          else go o os
      some (go e rest)

/-- Total motion of the reference point at a history entry: η + η_w (07 R206), heading in degrees (DEDUCED: log entry 68). -/
def HistEntry.total (e : HistEntry) : V3 :=
  ⟨e.est.eta.x + e.est.xi2.x, e.est.eta.y + e.est.xi2.y, degQ (e.est.eta.z + e.est.xi2.z)⟩

/-! ## From measurement to the vessel point (06 R183 to R185) -/

/-- Rotation by roll, pitch and yaw in degrees: rot_z(yaw) rot_y(pitch) rot_x(roll) (DEDUCED: log entry 68). -/
def rot3 (roll pitch yaw : Rat) (a : V3) : V3 :=
  let y1 := cosQ roll * a.y - sinQ roll * a.z
  let z1 := sinQ roll * a.y + cosQ roll * a.z
  let x2 := cosQ pitch * a.x + sinQ pitch * z1
  let z2 := -sinQ pitch * a.x + cosQ pitch * z1
  ⟨cosQ yaw * x2 - sinQ yaw * y1, sinQ yaw * x2 + cosQ yaw * y1, z2⟩

/-- Offset of a relative measurement in sensor axes (06 R184) (DEDUCED: log entry 68). -/
def sensorOffset (r : RefRec) : RefValue → V3
  | .relative o _ => o
  | .wire ay ax len =>
    let t : V3 := ⟨tanQ ay, tanQ ax, 1⟩
    let n := sqrtQ (t.x * t.x + t.y * t.y + t.z * t.z)
    if len = 0 then V3.scale r.depth t else V3.scale (len / n) t
  | _ => V3.zero

/-- What the tests of a cycle read besides the references themselves. -/
structure RefsCtx where
  lane : Lane
  recs : List RefRec
  /-- Slot-0 tick, ns. -/
  tick : Nat
  observer : ObserverState
  observerOn : Bool
  /-- Lever arms of internal position references (06 R175): position of the first enabled antenna of lanes A and B. -/
  leverA : V3
  leverB : V3
  deriving DecidableEq, Repr

/-- Combined roll, pitch and heading at a time, interpolated between motion cycles (06 R182); the newest from its own cycle on. -/
def attitudeAt (t : Nat) : List AttEntry → V3
  | [] => V3.zero
  | e :: rest =>
    if e.time ≤ t then ⟨e.roll, e.pitch, e.hdg⟩
    else
      match rest with
      | [] => ⟨e.roll, e.pitch, e.hdg⟩
      | o :: _ =>
        if o.time ≤ t then
          let k : Rat := if e.time = o.time then 0 else ((t - o.time : Nat) : Rat) / ((e.time - o.time : Nat) : Rat)
          ⟨o.roll + k * (e.roll - o.roll), o.pitch + k * (e.pitch - o.pitch), wrap360 (o.hdg + k * wrap180 (e.hdg - o.hdg))⟩
        else attitudeAt t rest

/-- Attitude and heading used at a measurement's time: roll, pitch, heading in degrees; the observer's heading once it is
initialised (06 R183). -/
def RefsCtx.attitude (c : RefsCtx) (atts : List AttEntry) (t : Nat) : V3 :=
  let a := attitudeAt t atts
  match (if c.observerOn then histAt c.observer.history c.observer.pred t else none) with
  | some e => ⟨a.x, a.y, wrap360 (degQ e.est.eta.z)⟩
  | none => a

/-- Frame in which geographic positions are expressed: the observer's origin, or the provisional one (06 R199). -/
def frameOrigin (c : RefsCtx) (prov : Option V2) : Option V2 :=
  if c.observerOn then (if c.observer.floating then none else some ⟨c.observer.lat0, c.observer.lon0⟩)
  else prov

/-- Horizontal part of c × (lever_arm + mount × m) (06 R184) (DEDUCED: log entry 68). -/
def relativeVector (r : RefRec) (att : V3) (v : RefValue) : V2 :=
  let m := rot3 r.mount.x r.mount.y r.mount.z (sensorOffset r v)
  let d := rot3 att.x att.y att.z (V3.add r.leverArm m)
  ⟨d.x, d.y⟩

/-- Value of a measurement in its kind's frame; none where it has none (06 R183 to R185, R199). -/
def measuredValue (c : RefsCtx) (atts : List AttEntry) (prov : Option V2) (s : RefState) (r : RefRec) (m : Measurement) :
    Option V3 :=
  let att := c.attitude atts m.time
  match m.value with
  | .geo la lo _ =>
    let lever := if r.source = 0x40 then c.leverA else if r.source = 0x41 then c.leverB else r.leverArm
    let d := rot3 att.x att.y att.z lever
    (frameOrigin c prov).map fun g =>
      let p := toLocal g.x g.y la lo
      ⟨p.x - d.x, p.y - d.y, 0⟩
  | .relative _ _ | .wire _ _ _ =>
    if s.anchored then
      let d := relativeVector r att m.value
      some ⟨s.anchor.x - d.x, s.anchor.y - d.y, 0⟩
    else none
  | .motion ro pi he => some ⟨ro - r.mount.x, pi - r.mount.y, he⟩
  | .heading h _ => some ⟨wrap360 (h + r.mount.z), 0, 0⟩
  | .wind a sp =>
    -- relative to true wind: air velocity over the ground is air relative to the hull plus the hull's velocity
    let e := if c.observerOn then histAt c.observer.history c.observer.pred m.time else none
    let dir := wrap360 (a + r.mount.z + att.z)
    let relFrom : V2 := ⟨sp * cosQ dir, sp * sinQ dir⟩
    let vel : V2 := match e with
      | some e => toNorthEast (degQ e.est.eta.z) ⟨e.est.nu.x, e.est.nu.y⟩
      | none => ⟨0, 0⟩
    let tf : V2 := ⟨relFrom.x - vel.x, relFrom.y - vel.y⟩
    some ⟨hypotQ tf.x tf.y, wrap360 (atan2Q tf.y tf.x), 0⟩

/-- The quantities a measurement carries, compared by the freeze test (06 R188). -/
def rawTriple : RefValue → V3
  | .geo la lo _ => ⟨la, lo, 0⟩
  | .relative o _ => o
  | .wire a b l => ⟨a, b, l⟩
  | .motion a b c => ⟨a, b, c⟩
  | .heading h _ => ⟨h, 0, 0⟩
  | .wind a b => ⟨a, b, 0⟩

/-- σ the source gives with a measurement (06 R193). -/
def sourceSigma : RefValue → Rat
  | .geo _ _ s => s
  | .relative _ s => s
  | .heading _ s => s
  | _ => 0

/-- Size of the record unit u in the kind's interface unit (06 R197). -/
def unitOf (kind : Nat) : Rat := if kind = 1 then 1 / 1000 else 1 / 100

/-! ## Tests 4 to 6 on a new measurement (06 R188 to R190) -/

/-- Freeze test (DEDUCED: log entry 69). -/
def freezeFails (c : RefsCtx) (r : RefRec) (s : RefState) (m : Measurement) : Bool :=
  let span := 1000000 * r.freezeTime
  let raw := rawTriple m.value
  let win := s.history.filter fun h => decide (m.time ≤ h.1 + span)
  let full := s.history.any fun h => decide (h.1 + span ≤ m.time)
  let same := win.all fun h => decide (h.2 = raw)
  let moved :=
    if r.kind ≤ 2 ∧ c.observerOn then
      match histAt c.observer.history c.observer.pred m.time, histAt c.observer.history c.observer.pred (m.time - span) with
      | some a, some b =>
        let d := V3.sub a.total b.total
        let ch := if r.kind = 1 then hypotQ d.x d.y else absQ (wrap180 d.z)
        decide (2 * (r.freezeRes : Rat) * unitOf r.kind < ch)
      | _, _ => false
    else true
  full && !win.isEmpty && same && moved

/-- Standard deviation of innovations over a window with the mean removed (06 R189): the larger component. -/
def innovationSigma (xs : List V2) : Rat :=
  let n := xs.length
  if n < 2 then 0
  else
    let sd := fun (sel : V2 → Rat) =>
      let ys := xs.map sel
      let mean := sumQ ys / (n : Rat)
      sumQ (ys.map fun y => (y - mean) * (y - mean)) / ((n - 1 : Nat) : Rat)
    sqrtQ (maxQ (sd (·.x)) (sd (·.y)))

/-- Weighted mean of the accepted references of a kind but one (06 R189, R192), from a value of each. -/
def othersMean (val : RefRec → RefState → V3) (recs : List RefRec) (refs : List RefState) (kind skip : Nat) : Option V3 :=
  let xs := recs.filterMap fun r =>
    match refs[r.refId]? with
    | some s => if r.kind = kind ∧ r.refId ≠ skip ∧ s.mode = .accepted ∧ s.has ∧ 0 < s.sigma
        then some (val r s, 1 / (s.sigma * s.sigma)) else none
    | none => none
  let w := sumQ (xs.map (·.2))
  match xs with
  | [] => none
  | (v0, _) :: _ =>
    let comp := fun (sel : V3 → Rat) => sumQ (xs.map fun p => p.2 * sel p.1) / w
    if kind = 2 then some ⟨wrap360 (v0.x + sumQ (xs.map fun p => p.2 * wrap180 (p.1.x - v0.x)) / w), 0, 0⟩
    else if kind = 4 then
      let n := sumQ (xs.map fun p => p.2 * (p.1.x * cosQ p.1.y)) / w
      let e := sumQ (xs.map fun p => p.2 * (p.1.x * sinQ p.1.y)) / w
      some ⟨hypotQ n e, wrap360 (atan2Q e n), 0⟩
    else some ⟨comp (·.x), comp (·.y), comp (·.z)⟩

/-- Innovation of a measurement (06 R189). -/
def innovationOf (c : RefsCtx) (refs : List RefState) (r : RefRec) (t : Nat) (v : V3) : Option V2 :=
  if r.kind ≤ 2 then
    if c.observerOn then
      (histAt c.observer.history c.observer.pred t).map fun e =>
        if r.kind = 1 then ⟨v.x - e.total.x, v.y - e.total.y⟩ else ⟨wrap180 (v.x - e.total.z), 0⟩
    else none
  else
    (othersMean (fun _ s => s.value) c.recs refs r.kind r.refId).map fun o =>
      if r.kind = 3 then ⟨v.x - o.x, v.y - o.y⟩
      else ⟨v.x * cosQ v.y - o.x * cosQ o.y, v.x * sinQ v.y - o.x * sinQ o.y⟩

/-- σ_i of a reference (06 R193). -/
def weightSigma (r : RefRec) (s : RefState) : Rat :=
  let src := if r.flags.testBit 2 ∨ r.format = 0x20 then (if s.degraded then 2 * s.srcSigma else s.srcSigma) else 0
  maxQ ((r.sigmaMin : Rat) * unitOf r.kind) (maxQ src s.varSigma)

/-- The magnitude of an innovation exceeds the gate of the prediction test (06 R190): innovation² > k² (σ² + σ_est²). -/
def beyondGate (r : RefRec) (innovation : V2) (sigma est : Rat) : Bool :=
  let k : Rat := (r.predK : Rat) / 100
  decide (k * k * (sigma * sigma + est * est) < innovation.x * innovation.x + innovation.y * innovation.y)

/-- Reason of a new measurement by the tests of order 2 to 6, 0 where all pass, with the state's bookkeeping. -/
def RefState.measure (c : RefsCtx) (atts : List AttEntry) (prov : Option V2) (refs : List RefState) (r : RefRec) (s : RefState)
    (m : Measurement) : RefState × Nat :=
  let ageNs := c.tick - m.time
  let s := { s with measTime := m.time, ageMs := satTo 16 (ageNs / 1000000), degraded := m.degraded, msgTime := m.msgTime, predOnly := false }
  if 1000000 * r.maxAge < ageNs then ({ s with passed4 := false }, 0x02)
  else
    let s := { s with lostFrames := 0, isNew := true }
    if !m.rangeOk then ({ s with passed4 := false }, 0x03)
    else
      let v := measuredValue c atts prov s r m
      let s := { s with has := v.isSome, value := v.getD V3.zero, srcSigma := sourceSigma m.value }
      if s.mode = .absent then ({ s with passed4 := true }, 0)
      else
        let frozen := freezeFails c r s m
        let hist := ((m.time, rawTriple m.value) :: s.history).filter fun h => decide (m.time ≤ h.1 + 2000000 * r.freezeTime)
        let inn := v.bind fun v => innovationOf c refs r m.time v
        let span := 1000000000 * r.varWindow
        let inns := match inn with
          | some i => ((m.time, i) :: s.innovations).filter fun h => decide (m.time ≤ h.1 + 2 * span)
          | none => s.innovations
        let spanFull := inns.any fun h => decide (h.1 + span ≤ m.time)
        let vs := innovationSigma ((inns.filter fun h => decide (m.time ≤ h.1 + span)).map (·.2))
        let s := { s with history := hist, innovations := inns, innovation := inn.getD ⟨0, 0⟩, varSigma := vs }
        let s := { s with sigma := weightSigma r s, passed4 := !frozen }
        let est := if r.kind = 1 then maxQ c.observer.sigmaTotal.x c.observer.sigmaTotal.y else degQ c.observer.sigmaTotal.z
        let far := r.kind ≤ 2 && c.observerOn && inn.isSome && beyondGate r s.innovation s.sigma est
        let s := { s with predRun := if far then s.predRun + 1 else 0 }
        if frozen then (s, 0x04)
        else if spanFull && decide ((r.varLimit : Rat) * unitOf r.kind < vs) then (s, 0x05)
        else if r.predPersist ≤ s.predRun ∧ 0 < s.predRun then ({ s with predOnly := true }, 0x06)
        else (s, 0)

/-! ## Tests 7 and 8, once per cycle (06 R191, R192) -/

/-- Median of rationals. -/
def median (xs : List Rat) : Rat :=
  let ys := xs.mergeSort (fun a b => decide (a ≤ b))
  let n := ys.length
  if n = 0 then 0 else if n % 2 = 1 then nth 0 ys (n / 2) else (nth 0 ys (n / 2 - 1) + nth 0 ys (n / 2)) / 2

/-- Value of a candidate moved to the slot-0 tick by the observer's predicted motion (06 R186). -/
def atTick (c : RefsCtx) (r : RefRec) (s : RefState) : V3 :=
  if r.kind ≤ 2 ∧ c.observerOn then
    match histAt c.observer.history c.observer.pred c.tick, histAt c.observer.history c.observer.pred s.measTime with
    | some a, some b =>
      let d := V3.sub a.total b.total
      if r.kind = 1 then ⟨s.value.x + d.x, s.value.y + d.y, 0⟩ else ⟨wrap360 (s.value.x + d.z), 0, 0⟩
    | _, _ => s.value
  else s.value

/-- Whether a reference is a candidate (06 R186): tested, newest measurement passed 1 to 4 and within max_age. -/
def isCandidate (c : RefsCtx) (r : RefRec) (s : RefState) : Bool :=
  (s.mode == .qualifying || s.mode == .accepted || s.mode == .rejected) && s.passed4 && s.has
    && decide (c.tick ≤ s.measTime + 1000000 * r.maxAge)

/-- Distance of a value from a median (06 R191). -/
def medianDistance (kind : Nat) (v m : V3) : Rat :=
  if kind = 1 ∨ kind = 4 then hypotQ (v.x - m.x) (v.y - m.y)
  else if kind = 2 then absQ (wrap180 (v.x - m.x)) else maxQ (absQ (v.x - m.x)) (absQ (v.y - m.y))

/-- Whether that distance exceeds a limit, without its root. -/
def medianBeyond (kind : Nat) (limit : Rat) (v m : V3) : Bool :=
  if kind = 1 ∨ kind = 4 then decide (limit * limit < (v.x - m.x) * (v.x - m.x) + (v.y - m.y) * (v.y - m.y))
  else decide (limit < medianDistance kind v m)

/-- Vector a median is formed over: wind by its north and east components. -/
def medianVector (kind : Nat) (v : V3) : V3 :=
  if kind = 4 then ⟨v.x * cosQ v.y, v.x * sinQ v.y, 0⟩ else v

/-- The cycle's median test of one kind (06 R191): distances, runs, and whether more than half exceed (DEDUCED: log entry 69). -/
def medianTest (c : RefsCtx) (kind : Nat) (refs : List RefState) : List RefState × Bool :=
  let cands := c.recs.filterMap fun r =>
    match refs[r.refId]? with
    | some s => if r.kind = kind ∧ isCandidate c r s then some (r, medianVector kind (atTick c r s)) else none
    | none => none
  let base : Rat := match (if c.observerOn then histAt c.observer.history c.observer.pred c.tick else none) with
    | some e => e.total.z
    | none => match cands with | (_, v) :: _ => v.x | [] => 0
  let mid : V3 :=
    if kind = 2 then ⟨wrap360 (base + median (cands.map fun p => wrap180 (p.2.x - base))), 0, 0⟩
    else ⟨median (cands.map (·.2.x)), median (cands.map (·.2.y)), 0⟩
  let enough := decide (3 ≤ cands.length)
  let dist := fun (v : V3) => medianDistance kind v mid
  let beyond := cands.filter fun p => medianBeyond kind ((p.1.medianLimit : Rat) * unitOf kind) p.2 mid
  let tooMany := enough && decide (cands.length < 2 * beyond.length)
  let upd := refs.mapIdx fun i s =>
    match cands.find? (fun p => p.1.refId == i) with
    | some (r, v) =>
      let d := dist v
      let out := enough && !tooMany && medianBeyond kind ((r.medianLimit : Rat) * unitOf kind) v mid
      { s with candidate := true, medianDist := d, medianRun := if out then s.medianRun + 1 else 0 }
    | none => if c.recs.any (fun r => r.refId == i && r.kind == kind) then
        { s with candidate := false, medianDist := 0, medianRun := 0 } else s
  (upd, tooMany)

/-- Difference of a value from the mean of the others (06 R192): north and east of position and wind, heading, roll and pitch. -/
def driftDiff (kind : Nat) (v o : V3) : V2 :=
  if kind = 2 then ⟨wrap180 (v.x - o.x), 0⟩
  else if kind = 4 then ⟨v.x * cosQ v.y - o.x * cosQ o.y, v.x * sinQ v.y - o.x * sinQ o.y⟩
  else ⟨v.x - o.x, v.y - o.y⟩

/-- Square of the magnitude of a filtered difference: of motion, the larger of roll and pitch as in its median distance. -/
def driftSquare (kind : Nat) (d : V2) : Rat :=
  if kind = 3 then maxQ (d.x * d.x) (d.y * d.y) else d.x * d.x + d.y * d.y

/-- The number shown of a filtered difference: signed for heading, else its magnitude (DEDUCED: log entry 68). -/
def driftShown (kind : Nat) (d : V2) : Rat :=
  if kind = 2 then d.x else if kind = 3 then maxQ (absQ d.x) (absQ d.y) else hypotQ d.x d.y

/-- The drift filters of one kind and the reference that fails, if any (06 R192) (DEDUCED: log entry 68). -/
def driftTest (c : RefsCtx) (kind : Nat) (refs : List RefState) : List RefState × Option Nat × Bool :=
  let accepted := c.recs.filter fun r => r.kind == kind && (match refs[r.refId]? with | some s => s.mode == .accepted | none => false)
  let n := accepted.length
  let upd := refs.mapIdx fun i s =>
    match c.recs.find? (fun r => r.refId == i && r.kind == kind) with
    | some r =>
      if s.candidate && decide (2 ≤ n) then
        match othersMean (atTick c) c.recs refs kind i with
        | some o =>
          let e := driftDiff kind (atTick c r s) o
          let k : Rat := (2 / 100) / (r.driftTc : Rat)
          let d : V2 := ⟨s.drift.x + k * (e.x - s.drift.x), s.drift.y + k * (e.y - s.drift.y)⟩
          let lim : Rat := (r.driftLimit : Rat) * unitOf kind
          { s with drift := d, driftAbove := decide (lim * lim < driftSquare kind d) }
        | none => s
      else s
    | none => s
  let above := accepted.filter fun r => match upd[r.refId]? with | some s => s.driftAbove | none => false
  let worst := above.foldl (fun (b : Option (Nat × Rat)) r =>
    match upd[r.refId]? with
    | some s => (match b with
      | none => some (r.refId, driftSquare kind s.drift)
      | some b => if b.2 < driftSquare kind s.drift then some (r.refId, driftSquare kind s.drift) else some b)
    | none => b) none
  if 3 ≤ n then (upd, worst.map (·.1), false) else (upd, none, decide (n = 2) && !above.isEmpty)

/-! ## State changes (06 R195) -/

/-- A reference enters ACCEPTED: drift reset, a relative reference anchored (06 R184, R192). -/
def RefState.accept (c : RefsCtx) (atts : List AttEntry) (r : RefRec) (m : Option Measurement) (s : RefState) : RefState × Bool :=
  let s := { s with mode := .accepted, everAccepted := true, drift := ⟨0, 0⟩, driftAbove := false }
  if (r.format = 0x11 ∨ r.format = 0x12) ∧ (!s.anchored ∨ s.reanchor) then
    match m with
    | some m =>
      let att := c.attitude atts m.time
      let d := relativeVector r att m.value
      let pt : V2 := match (if c.observerOn then histAt c.observer.history c.observer.pred m.time else none) with
        | some e => ⟨e.total.x, e.total.y⟩
        | none => ⟨-d.x, -d.y⟩
      ({ s with anchored := true, reanchor := false, anchor := ⟨pt.x + d.x, pt.y + d.y⟩, has := true,
                value := ⟨pt.x, pt.y, 0⟩ }, true)
    | none => (s, false)
  else (s, false)

/-- The change of state of one reference in a cycle (06 R195): `fail` is the first failed test, 0 none
(DEDUCED: log entry 69). -/
def RefState.judge (c : RefsCtx) (atts : List AttEntry) (kindAccepted : Bool) (r : RefRec) (m : Option Measurement) (fail : Nat)
    (s : RefState) : RefState × List AlarmOp :=
  let s := if s.isNew ∨ fail ≠ 0 then { s with reason := fail } else s
  match s.mode with
  | .disabled => (s, [])
  | .absent =>
    if s.isNew ∧ fail = 0 then
      ({ s with mode := .qualifying, reason := 0x09, passRun := 0, qualCycles := 0, history := [], innovations := [],
                predRun := 0, medianRun := 0 }, [.clear ⟨.rf, 1⟩ r.refId])
    else (s, [])
  | .qualifying =>
    if 3 ≤ fail then ({ s with mode := .rejected }, [.raise ⟨.rf, 2⟩ r.refId fail])
    else if fail = 2 then ({ s with passRun := 0, qualCycles := 0, reason := 0x02 }, [])
    else
      let s := { s with passRun := if s.isNew then s.passRun + 1 else s.passRun, qualCycles := s.qualCycles + 1,
                        reason := if s.isNew then 0x09 else s.reason }
      let firstQual := s.isNew && (!s.everAccepted || !kindAccepted) && decide (3 ≤ s.passRun)
      let otherwise_ := decide (50 * r.returnTime ≤ s.qualCycles) && s.isNew
      if firstQual || otherwise_ then
        let first := !s.everAccepted
        let (s', anch) := s.accept c atts r m
        ({ s' with reason := if s'.selected then 0 else 0x0C },
          [.clear ⟨.rf, 2⟩ r.refId] ++ AlarmOp.ifOn (anch && !first) ⟨.rf, 60⟩ r.refId 0)
      else (s, [])
  | .accepted =>
    if 3 ≤ fail then ({ s with mode := .rejected }, [.raise ⟨.rf, 2⟩ r.refId fail])
    else if s.reanchor ∧ s.isNew ∧ fail = 0 then
      let (s', anch) := { s with anchored := false }.accept c atts r m
      ({ s' with drift := s.drift, reason := if s.selected then 0 else 0x0C }, AlarmOp.ifOn anch ⟨.rf, 60⟩ r.refId 0)
    else ({ s with reason := if s.isNew ∨ s.reason = 0 ∨ s.reason = 0x0C then (if s.selected then 0 else 0x0C) else s.reason }, [])
  | .rejected =>
    if s.isNew ∧ fail = 0 then ({ s with mode := .qualifying, passRun := 0, qualCycles := 0, reason := 0x09 }, [])
    else (s, [])

/-! ## Weighting (06 R193) and the slice (06 R186) -/

/-- References of a kind that carry weight: record, state, weight. -/
def weighted (recs : List RefRec) (refs : List RefState) (kind : Nat) : List (RefRec × RefState × Rat) :=
  recs.filterMap fun r =>
    match refs[r.refId]? with
    | some s => if r.kind = kind ∧ s.mode = .accepted ∧ s.selected ∧ 0 < s.sigma then some (r, s, 1 / (s.sigma * s.sigma)) else none
    | none => none

/-- Weighted mean of a component. -/
def wmean (xs : List (RefRec × RefState × Rat)) (sel : RefState → Rat) : Rat :=
  sumQ (xs.map fun p => p.2.2 * sel p.2.1) / sumQ (xs.map (·.2.2))

/-- A geographic position reference: a fix, a binary geographic position, a GNSS solution. -/
def RefRec.geographic (r : RefRec) : Bool := r.kind == 1 && r.format != 0x11 && r.format != 0x12

/-- What the stage passes to the observer (06 R193, R196). -/
def refsOutput (c : RefsCtx) (st : RefsState) : RefOutput :=
  let refs := st.refs
  let posAll := weighted c.recs refs 1
  let hdgAll := weighted c.recs refs 2
  let fresh := fun (p : RefRec × RefState × Rat) => p.2.1.isNew && p.2.1.passed4 && p.2.1.has
  let pos := posAll.filter fresh
  let hdg := hdgAll.filter fresh
  let mot := weighted c.recs refs 3
  let wnd := weighted c.recs refs 4
  let var := fun (xs : List (RefRec × RefState × Rat)) => 1 / sumQ (xs.map (·.2.2))
  let posOut : Option (V2 × Rat) := if pos.isEmpty then none
    else if c.observerOn then some (⟨wmean pos (·.innovation.x), wmean pos (·.innovation.y)⟩, var pos)
    else some (⟨wmean pos (·.value.x), wmean pos (·.value.y)⟩, var pos)
  let hdgOut : Option (Rat × Rat) := match hdg with
    | [] => none
    | (_, s0, _) :: _ =>
      if c.observerOn then some (wmean hdg (·.innovation.x), var hdg)
      else some (wrap360 (s0.value.x + wmean hdg (fun s => wrap180 (s.value.x - s0.value.x))), var hdg)
  let cand := fun (kind : Nat) => c.recs.filterMap fun r =>
    match refs[r.refId]? with
    | some s => if r.kind = kind ∧ s.candidate ∧ s.predOnly ∧ 0 < s.sigma then some (r, s, 1 / (s.sigma * s.sigma)) else none
    | none => none
  let near := fun (kind : Nat) (xs : List (RefRec × RefState × Rat)) =>
    xs.filter fun p => xs.any fun q => p.1.refId != q.1.refId
      && !medianBeyond kind ((p.1.medianLimit : Rat) * unitOf kind) (medianVector kind p.2.1.value) (medianVector kind q.2.1.value)
  let offer := fun (kind : Nat) (offered accepted : Bool) =>
    let xs := cand kind
    if !offered then [] else if 2 ≤ (near kind xs).length then near kind xs else if accepted then xs else []
  let op := offer 1 st.offeredPos st.acceptPos
  let oh := offer 2 st.offeredHdg st.acceptHdg
  { pos := posOut, hdg := hdgOut, posHeld := !posAll.isEmpty, hdgHeld := !hdgAll.isEmpty,
    wind := if wnd.isEmpty then st.out.wind
      else ⟨wmean wnd (fun s => s.value.x * cosQ s.value.y), wmean wnd (fun s => s.value.x * sinQ s.value.y)⟩,
    windHeld := !wnd.isEmpty,
    motion := if mot.isEmpty then V3.zero else ⟨wmean mot (·.value.x), wmean mot (·.value.y), wmean mot (·.value.z)⟩,
    motionHeld := !mot.isEmpty,
    offerPos := if op.isEmpty then none else some (⟨wmean op (·.value.x), wmean op (·.value.y)⟩, var op),
    offerHdg := match oh with
      | [] => none
      | (_, s0, _) :: _ => some (wrap360 (s0.value.x + wmean oh (fun s => wrap180 (s.value.x - s0.value.x))), var oh),
    velocity := st.out.velocity, geoHeld := pos.any fun p => p.1.geographic }

/-- Shares of the weighted references, 0.01 % (06 R193). -/
def withShares (c : RefsCtx) (refs : List RefState) : List RefState :=
  [1, 2, 3, 4].foldl (fun rs kind =>
    let xs := weighted c.recs rs kind
    let tot := sumQ (xs.map (·.2.2))
    rs.mapIdx fun i s =>
      match c.recs.find? (fun r => r.refId == i && r.kind == kind) with
      | none => s
      | some _ => match xs.find? (fun p => p.1.refId == i) with
        | some p => { s with share := (10000 * p.2.2 / tot).floor.toNat }
        | none => { s with share := 0 }) refs

/-- Move every local-frame quantity the stage holds by a shift (07 R205). -/
def RefsState.shift (st : RefsState) (recs : List RefRec) (sh : V2) (gen : Nat) : RefsState :=
  { st with originGen := gen, refs := st.refs.mapIdx fun i s =>
      if recs.any (fun r => r.refId == i && r.kind == 1) then
        { s with value := ⟨s.value.x + sh.x, s.value.y + sh.y, s.value.z⟩, anchor := ⟨s.anchor.x + sh.x, s.anchor.y + sh.y⟩ }
      else s }

/-- The stage's values enter the observer's frame when it is initialised, by the difference of the two origins (06 R199), and
follow each move of its origin (07 R205). Should the observer lose its initialisation, its origin serves in place of the
provisional one. -/
def RefsState.enterFrame (c : RefsCtx) (st : RefsState) : RefsState :=
  let o := c.observer
  if c.observerOn then
    if !st.inFrame then
      let sh : V2 := match st.provisional with
        | some p => if o.floating then ⟨0, 0⟩ else toLocal o.lat0 o.lon0 p.x p.y
        | none => ⟨0, 0⟩
      { st.shift c.recs sh o.originGen with inFrame := true }
    else if st.originGen ≠ o.originGen then st.shift c.recs o.lastShift o.originGen
    else st
  else if st.inFrame then
    { st with inFrame := false, provisional := if o.originSet && !o.floating then some ⟨o.lat0, o.lon0⟩ else none }
  else st

/-- The slot-0 tick takes what has arrived before it (06 R181, R186). -/
def RefsState.latch (st : RefsState) : RefsState :=
  { st with refs := st.refs.map fun s =>
      { s with due := s.waiting, waiting := none, allRefused := decide (0 < s.gotCycle ∧ s.refusedCycle = s.gotCycle),
               gotCycle := 0, refusedCycle := 0 } }

/-- The counts of a mission cycle start again (06 R199). -/
def RefsState.mission (st : RefsState) : RefsState :=
  { st with refs := st.refs.map fun s => { s with superseded := 0, refused := 0 } }

/-- The reference slice of slot 0 (06 R186 to R196). -/
def RefsState.slice (c : RefsCtx) (st : RefsState) : RefsState × List AlarmOp :=
  let st := st.enterFrame c
  -- provisional origin: the first geographic measurement that passes intake (06 R199)
  let firstGeo := c.recs.findSome? fun r =>
    match st.refs[r.refId]? with
    | some s => (match s.due with
      | some m => (match m.value with | .geo la lo _ => some (⟨la, lo⟩ : V2) | _ => none)
      | none => none)
    | none => none
  let prov := match st.provisional with | some p => some p | none => if c.observerOn then none else firstGeo
  let atts := st.attitudes
  -- tests 1 to 6
  let meas := c.recs.map fun r =>
    let s := nth default st.refs r.refId
    let s := { s with isNew := false, predOnly := s.predOnly && s.predRun != 0, due := none, noFrame := r.geographic && (frameOrigin c prov).isNone }
    if s.mode = .disabled then (r, s, (none : Option Measurement), 0)
    else match (nth default st.refs r.refId).due with
      | some m => if s.noFrame then (r, { s with has := false, value := V3.zero }, none, 0)
        else (let (s', f) := s.measure c atts prov st.refs r m; (r, s', some m, f))
      | none => (r, s, none, 0)
  let refs1 := meas.foldl (fun (rs : List RefState) q => rs.set q.1.refId q.2.1) st.refs
  -- tests 7 and 8
  let med := [1, 2, 3, 4].foldl (fun (p : List RefState × List (Nat × Bool)) k =>
    let (rs, many) := medianTest c k p.1
    (rs, p.2 ++ [(k, many)])) (refs1, [])
  let dri := [1, 2, 3, 4].foldl (fun (p : List RefState × List Nat × List (Nat × Bool)) k =>
    let (rs, w, two) := driftTest c k p.1
    (rs, p.2.1 ++ w.toList, p.2.2 ++ [(k, two)])) (med.1, [], [])
  let refs2 := dri.1
  -- state changes
  let judged := meas.map fun q =>
    let r := q.1
    let s := nth default refs2 r.refId
    let f := q.2.2.2
    let fail := if f ≠ 0 then f
      else if r.medianPersist ≤ s.medianRun ∧ 0 < s.medianRun then 0x07
      else if dri.2.1.contains r.refId then 0x08 else 0
    let kindAccepted := c.recs.any fun x => x.kind == r.kind && (nth default refs2 x.refId).mode == .accepted
    let (s', ops) := ({ s with reason := s.kept } : RefState).judge c atts kindAccepted r q.2.2.1 fail
    let shown := if s'.allRefused then 0x01 else if q.2.2.1.isNone && (s'.noFrame || r.format == 0x20) then 0x0B else s'.reason
    (r, { s' with sigma := weightSigma r s', kept := s'.reason, reason := if s'.mode = RefMode.disabled then s'.kept else shown }, ops)
  let refs3 := judged.foldl (fun (rs : List RefState) q => rs.set q.1.refId q.2.1) refs2
  let vel := meas.findSome? fun q => match q.2.2.1 with
    | some m => if q.1.format = 0x20 ∧ q.1.kind = 1 ∧ (nth default refs3 q.1.refId).mode = .accepted then m.velocity else none
    | none => none
  let refs4 := withShares c refs3
  let allPred := fun (kind : Nat) =>
    let cs := c.recs.filter fun r => r.kind == kind && (nth default refs4 r.refId).candidate
    !cs.isEmpty && cs.all (fun r => (nth default refs4 r.refId).predOnly)
      && !c.recs.any (fun r => r.kind == kind && (nth default refs4 r.refId).mode == .accepted)
  let st' := { st with
    refs := refs4, provisional := prov,
    predOnlyPos := if allPred 1 then st.predOnlyPos + 1 else 0, predOnlyHdg := if allPred 2 then st.predOnlyHdg + 1 else 0,
    offeredPos := st.offeredPos && allPred 1, offeredHdg := st.offeredHdg && allPred 2,
    acceptPos := st.acceptPos && allPred 1, acceptHdg := st.acceptHdg && allPred 2,
    out := { st.out with velocity := vel } }
  let newOut := refsOutput c st'
  let used := (weighted c.recs refs4 1).length
  let usedH := (weighted c.recs refs4 2).length
  let timed := meas.filterMap fun q => q.2.2.1.map fun m => AlarmOp.whileOn m.timeBad ⟨.rf, 11⟩ q.1.refId 0
  let ops := judged.flatMap (·.2.2)
    ++ timed
    ++ med.2.map (fun p => AlarmOp.whileOn p.2 ⟨.rf, 20⟩ p.1 0)
    ++ dri.2.2.map (fun p => AlarmOp.whileOn p.2 ⟨.rf, 31⟩ p.1 0)
    ++ [AlarmOp.whileOn (!newOut.motionHeld) ⟨.rf, 21⟩ 0 0, AlarmOp.whileOn (decide (used = 0)) ⟨.rf, 40⟩ 0 0,
        AlarmOp.whileOn (decide (usedH = 0)) ⟨.rf, 41⟩ 0 0,
        AlarmOp.whileOn (decide (used = 1) || decide (usedH = 1)) ⟨.rf, 42⟩ 0 0]
    ++ (if allPred 1 then [] else [.clear ⟨.rf, 50⟩ 1]) ++ (if allPred 2 then [] else [.clear ⟨.rf, 50⟩ 2])
  let held := match st.attitudes with | e :: _ => e.hdg | [] => 0
  let hdg := if c.observerOn then held else match newOut.hdg with | some (h, _) => h | none => held
  ({ st' with out := newOut, attitudes := (⟨c.tick, newOut.motion.x, newOut.motion.y, hdg⟩ :: st.attitudes).take 250 }, ops)

/-- The observer has been re-initialised from what was offered; another offer needs another 250 motion cycles (06 R196). -/
def RefsState.offersTaken (st : RefsState) : RefsState :=
  let p := st.out.offerPos.isSome
  let h := st.out.offerHdg.isSome
  { st with offeredPos := st.offeredPos && !p, acceptPos := st.acceptPos && !p, predOnlyPos := if p then 0 else st.predOnlyPos,
            offeredHdg := st.offeredHdg && !h, acceptHdg := st.acceptHdg && !h, predOnlyHdg := if h then 0 else st.predOnlyHdg,
            out := { st.out with offerPos := none, offerHdg := none } }

/-- Geographic references fix a floating origin (07 R203): the first whose measurement passes tests 1 to 3
(DEDUCED: log entry 67). -/
def floatingFix (c : RefsCtx) (st : RefsState) : Option (RefRec × Measurement) :=
  if c.observerOn ∧ c.observer.floating then
    c.recs.findSome? fun r =>
      match st.refs[r.refId]? with
      | some s => (match s.due with
        | some m => (match m.value with
          | .geo _ _ _ => if m.rangeOk ∧ c.tick ≤ m.time + 1000000 * r.maxAge then some (r, m) else none
          | _ => none)
        | none => none)
      | none => none
  else none

/-- The origin placed so that a measurement equals the estimate at its time (07 R203) (DEDUCED: log entry 67). -/
def ObserverState.fixOrigin (c : RefsCtx) (atts : List AttEntry) (r : RefRec) (m : Measurement) (o : ObserverState) : ObserverState :=
  match m.value, histAt o.history o.pred m.time with
  | .geo la lo _, some e =>
    let att := c.attitude atts m.time
    let lever := if r.source = 0x40 then c.leverA else if r.source = 0x41 then c.leverB else r.leverArm
    let d := rot3 att.x att.y att.z lever
    let org := toGeo la lo ⟨-(e.total.x + d.x), -(e.total.y + d.y)⟩
    { o with floating := false, lat0 := org.x, lon0 := org.y }
  | _, _ => o

/-- Frames since tests 1 and 2 last passed, counted by the frame tick (06 R195). -/
def RefsState.age (st : RefsState) : RefsState :=
  { st with refs := st.refs.map fun s => { s with lostFrames := s.lostFrames + 1 } }

/-- No measurement passes tests 1 and 2 for lost_time (06 R195). -/
def RefState.lose (s : RefState) : RefState :=
  { s with mode := .absent, reason := 0x0A, kept := 0x0A, passRun := 0, qualCycles := 0, anchored := false, has := false, isNew := false,
           passed4 := false, predOnly := false, share := 0, history := [], innovations := [] }

/-- Whether a reference is due to be lost. -/
def RefState.lostDue (r : RefRec) (s : RefState) : Bool :=
  (s.mode == .qualifying || s.mode == .accepted || s.mode == .rejected) && decide (r.lostTime ≤ s.lostFrames)

end Sys2Proof.Machine
end

