-- ==== Sys2Proof/Machine/Control.lean ====
section
/-!
DEFINITION. Vessel control (08): modes and fallbacks, the reference model, the controllers, track and target geometry,
gangway conditions and the consequence verdict, as functions of the control state of a lane.
-/

namespace Sys2Proof.Machine

/-! ## Inputs -/

/-- What the mode logic reads (08 R232), in interface units: heading in degrees, yaw rate in degrees per second. -/
structure CtrlCtx where
  mode : ModeRec
  gains : List GainBank
  mass : Vmod
  frame : Nat
  /-- Observer: status, pose, velocity, bias, wind force, flags. -/
  obsStatus : Nat
  pose : V3
  vel : V3
  bias : V3
  wind : V3
  limitPos : Bool
  limitHdg : Bool
  floating : Bool
  reset : Bool
  originGen : Nat
  shift : V2
  origin : V2
  sigma : V3
  timeNs : Nat
  roll : Rat
  pitch : Rat
  heave : Rat
  /-- Saturation flags of the last valid allocation (09 R266). -/
  saturated : B3
  /-- Position references accepted and selected. -/
  posRefs : Nat
  vc20 : Bool
  curtain : Bool
  /-- The deflection of source 1 (14 R416). -/
  analogStick : V3
  /-- This module is not in command of a DP-3 pair: the partner's mode, setpoint and bank (08 R234; 02 R74). -/
  follow : Option (Nat × V3 × Nat)
  notInCommand : Bool
  deriving DecidableEq, Repr

/-- The bank in use. -/
def CtrlCtx.gain (c : CtrlCtx) (n : Nat) : GainBank := nth default c.gains n

/-- The MODE entry of a mode. -/
def modeEntry (m : ModeRec) (k : Nat) : Option ModeEntry := m.modes.find? fun e => e.mode == k

/-- Parameter of a mode entry (08 R261). -/
def modeParam (m : ModeRec) (k p : Nat) : Rat :=
  match modeEntry m k with | some e => nth 0 e.param p | none => 0

/-- Controlled point of a mode in the body frame (08 R236, R261). -/
def controlledPoint (m : ModeRec) (k : Nat) : V2 :=
  if k = 3 then ⟨modeParam m 3 0, modeParam m 3 1⟩
  else if k = 4 then ⟨modeParam m 4 2, modeParam m 4 3⟩
  else if k = 7 then ⟨modeParam m 7 0, 0⟩
  else if k = 8 then ⟨modeParam m 8 0, modeParam m 8 1⟩
  else ⟨0, 0⟩

/-- Estimated position of the controlled point. -/
def CtrlCtx.point (c : CtrlCtx) (k : Nat) : V2 :=
  let o := toNorthEast c.pose.z (controlledPoint c.mode k)
  ⟨c.pose.x + o.x, c.pose.y + o.y⟩

/-- Axes a mode controls by controller (08 R243). -/
def controllerAxes (k : Nat) : B3 :=
  if k = 2 then ⟨false, false, true⟩ else if 3 ≤ k ∧ k ≤ 8 then ⟨true, true, true⟩ else ⟨false, false, false⟩

def B3.or (a b : B3) : B3 := ⟨a.x || b.x, a.y || b.y, a.z || b.z⟩
def B3.map3 (b : B3) (t f : V3) : V3 := ⟨if b.x then t.x else f.x, if b.y then t.y else f.y, if b.z then t.z else f.z⟩

/-! ## Mode requests (08 R244) -/

/-- Whether a vector is at most r long, without its root. -/
def within (x y r : Rat) : Bool := decide (0 ≤ r) && decide (x * x + y * y ≤ r * r)

/-- Gangway entry conditions (08 R255), from the state in force: the pedestal where the desired pose places it, against where
the estimate does (DEDUCED: log entry 74). -/
def gangwayEntry (c : CtrlCtx) (s : ControlState) : Bool :=
  let p3 := controlledPoint c.mode 3
  let p8 := controlledPoint c.mode 8
  let d := toNorthEast s.xd.z ⟨p8.x - p3.x, p8.y - p3.y⟩
  let q := c.point 8
  within (s.xd.x + d.x - q.x) (s.xd.y + d.y - q.y) (modeParam c.mode 8 4) &&
    decide (absQ (wrap180 (s.xd.z - c.pose.z)) ≤ modeParam c.mode 8 6)
    && decide (c.sigma.x ≤ modeParam c.mode 8 3) && decide (c.sigma.y ≤ modeParam c.mode 8 3)
    && decide (c.mode.gwMinRefs ≤ c.posRefs) && !c.vc20 && c.curtain

/-- Reason that refuses a mode request, 0 none (08 R244). -/
def modeRefusal (c : CtrlCtx) (s : ControlState) (k : Nat) : Nat :=
  if 9 ≤ k then 0x0A
  else if k = s.mode then (if c.notInCommand then 0x08 else 0)
  else if (match modeEntry c.mode k with | some e => e.enabled == 0 | none => true) then 0x01
  else if 2 ≤ k ∧ c.obsStatus = 0 then 0x02
  else if (3 ≤ k ∧ (c.limitPos ∨ c.limitHdg)) ∨ (k = 2 ∧ c.limitHdg) then 0x03
  else if (k = 8 ∧ s.mode ≠ 3) ∨ (s.mode = 8 ∧ (k = 0 ∨ (4 ≤ k ∧ k ≤ 7))) then 0x04
  else if k = 5 ∧ s.committed.isEmpty then 0x05
  else if k = 6 ∧ (!s.tracker.valid ∨ c.mode.targetLostTime ≤ s.tracker.lostFrames) then 0x06
  else if k = 8 ∧ !gangwayEntry c s then 0x07
  else if c.notInCommand then 0x08
  else if (k = 5 ∨ k = 6) ∧ c.floating then 0x09
  else 0

/-! ## Track (08 R251, R252) -/

/-- A waypoint in the local frame (08 R251). -/
def Waypoint.local (origin : V2) (w : Waypoint) : TrackPoint :=
  { pos := toLocal origin.x origin.y w.lat w.lon, speed := w.speed, heading := w.heading }

/-- The track in force from the committed one, with the approach leg from a point. -/
def makeTrack (from_ : V2) (pts : List TrackPoint) : List TrackPoint :=
  let appr := match pts with | _ :: p1 :: _ => p1.speed | p0 :: _ => p0.speed | [] => 0
  ⟨from_, 0, none⟩ :: (match pts with | p0 :: rest => { p0 with speed := appr } :: rest | [] => [])

/-- Progress carried over leg ends (08 R252): leg, progress, whether the last leg has ended. -/
def carryLegs (track : List TrackPoint) : Nat → Nat → Rat → Nat × Rat × Bool
  | 0, leg, sd => (leg, sd, false)
  | n + 1, leg, sd =>
    match track[leg]?, track[leg + 1]? with
    | some a, some b =>
      let len := hypotQ (b.pos.x - a.pos.x) (b.pos.y - a.pos.y)
      if len ≤ sd then
        if leg + 2 < track.length then carryLegs track n (leg + 1) (sd - len) else (leg, len, true)
      else (leg, sd, false)
    | _, _ => (leg, sd, true)

/-- Direction of a leg: unit vector, bearing, length. -/
def legDir (track : List TrackPoint) (leg : Nat) : V2 × Rat × Rat :=
  let a := (nth default track leg).pos
  let b := (nth default track (leg + 1)).pos
  let d : V2 := ⟨b.x - a.x, b.y - a.y⟩
  let len := hypotQ d.x d.y
  if len = 0 then (⟨1, 0⟩, 0, 0) else (⟨d.x / len, d.y / len⟩, wrap360 (atan2Q d.y d.x), len)

/-- One motion cycle of the track (08 R252). -/
def ControlState.trackStep (c : CtrlCtx) (g : GainBank) (s : ControlState) : ControlState × V3 × V3 :=
  let (dir, _, _) := legDir s.track s.leg
  let a := (nth default s.track s.leg).pos
  let p := c.point 5
  let along := dir.x * (p.x - a.x) + dir.y * (p.y - a.y)
  let want := (nth default s.track (s.leg + 1)).speed
  let acc := clampQ (-g.refAccelMax.x) g.refAccelMax.x ((want - s.speed) / (2 / 100))
  let speed := s.speed + acc * (2 / 100)
  let sd0 := if along + modeParam c.mode 5 1 < s.sd then s.sd else s.sd + speed * (2 / 100)
  let (leg, sd, done) := carryLegs s.track s.track.length s.leg sd0
  let (dir, brg, _) := legDir s.track leg
  let a := (nth default s.track leg).pos
  let xte := dir.x * (p.y - a.y) - dir.y * (p.x - a.x)
  let pt : V2 := ⟨a.x + sd * dir.x, a.y + sd * dir.y⟩
  let hdg := match (nth default s.track (leg + 1)).heading with
    | some h => wrap360 h
    | none => wrap360 (brg + modeParam c.mode 5 0)
  ({ s with leg := leg, sd := sd, speed := speed, xte := xte, trackDone := s.trackDone || done,
            xteRun := if c.mode.trackXteMax < absQ xte then s.xteRun + 1 else 0, target := ⟨pt.x, pt.y, hdg⟩ },
    ⟨speed * dir.x, speed * dir.y, 0⟩, ⟨acc * dir.x, acc * dir.y, 0⟩)

/-! ## Target (08 R253) -/

/-- A new measurement of the target (08 R253). -/
def Tracker.measure (t : Tracker) (lostMs : Nat) (pos : V2) (timeNs : Nat) : Tracker :=
  let recent := (timeNs :: t.times).take 3
  let near := recent.all fun x => decide (timeNs ≤ x + 1000000 * lostMs)
  let t' : Tracker :=
    if t.count = 0 ∨ timeNs ≤ t.lastNs then { t with pos := pos, vel := ⟨0, 0⟩ }
    else
      let dt : Rat := ((timeNs - t.lastNs : Nat) : Rat) / 1000000000
      let pp : V2 := ⟨t.pos.x + t.vel.x * dt, t.pos.y + t.vel.y * dt⟩
      let r : V2 := ⟨pos.x - pp.x, pos.y - pp.y⟩
      { t with pos := ⟨pp.x + (3 / 10) * r.x, pp.y + (3 / 10) * r.y⟩,
               vel := ⟨t.vel.x + (5 / 100) / dt * r.x, t.vel.y + (5 / 100) / dt * r.y⟩ }
  let slow := decide (t'.vel.x * t'.vel.x + t'.vel.y * t'.vel.y < 1 / 100)
  { t' with count := t.count + 1, lastNs := timeNs, lostFrames := 0, times := recent,
            valid := (t.valid && decide (t.lostFrames < lostMs)) || (decide (3 ≤ recent.length) && near),
            course := if slow then t.course else wrap360 (atan2Q t'.vel.y t'.vel.x) }

/-- Target pose and velocity of mode 6 at t_k (08 R253). -/
def ControlState.targetStep (c : CtrlCtx) (s : ControlState) : ControlState × V3 :=
  let t := s.tracker
  let dt : Rat := ((c.timeNs - t.lastNs : Nat) : Rat) / 1000000000
  let p : V2 := ⟨t.pos.x + t.vel.x * dt, t.pos.y + t.vel.y * dt⟩
  let off : V2 := if modeParam c.mode 6 2 = 1 then toNorthEast t.course s.offset else s.offset
  let q := c.point 6
  let hm := modeParam c.mode 6 0
  let ho := modeParam c.mode 6 1
  let hdg := if hm = 0 then ho else if hm = 1 then atan2Q (p.y - q.y) (p.x - q.x) + ho else t.course + ho
  ({ s with target := ⟨p.x + off.x, p.y + off.y, wrap360 hdg⟩ }, ⟨t.vel.x, t.vel.y, 0⟩)

/-- Speed of the target counted in motion cycles (08 R253). -/
def Tracker.fastStep (t : Tracker) (vmax : Rat) : Tracker :=
  { t with fastRun := if within t.vel.x t.vel.y vmax then 0 else t.fastRun + 1 }

/-! ## Reference model (08 R235) -/

/-- A horizontal vector limited in magnitude. -/
def limit2 (m : Rat) (v : V2) : V2 :=
  let h := hypotQ v.x v.y
  if m < h then ⟨v.x * m / h, v.y * m / h⟩ else v

/-- One motion cycle of the reference model. -/
def refModel (g : GainBank) (target xd vd : V3) : V3 × V3 × V3 :=
  let w := g.refOmega
  let e : V3 := ⟨target.x - xd.x, target.y - xd.y, wrap180 (target.z - xd.z)⟩
  let ah := limit2 g.refAccelMax.x ⟨w.x * w.x * e.x - 2 * w.x * vd.x, w.x * w.x * e.y - 2 * w.x * vd.y⟩
  let az := clampQ (-g.refAccelMax.y) g.refAccelMax.y (w.z * w.z * e.z - 2 * w.z * vd.z)
  let vh := limit2 g.refSpeedMax.x ⟨vd.x + ah.x * (2 / 100), vd.y + ah.y * (2 / 100)⟩
  let vz := clampQ (-g.refSpeedMax.y) g.refSpeedMax.y (vd.z + az * (2 / 100))
  (⟨xd.x + vh.x * (2 / 100), xd.y + vh.y * (2 / 100), wrap360 (xd.z + vz * (2 / 100))⟩, ⟨vh.x, vh.y, vz⟩, ⟨ah.x, ah.y, az⟩)

/-- Knee shaping (08 R236). -/
def knee (k rho e : Rat) : Rat :=
  if absQ e ≤ k then e else (if e < 0 then -1 else 1) * (k + rho * (absQ e - k))

/-! ## Mode entry (08 R239, R242 to R255) -/

/-- Entry into a mode: reference model, target, integrator flags, bank, bias hold (DEDUCED: log entry 73). -/
def ControlState.enter (c : CtrlCtx) (s : ControlState) (k : Nat) : ControlState :=
  let p := c.point k
  let vne := toNorthEast c.pose.z ⟨c.vel.x, c.vel.y⟩
  let ax := controllerAxes k
  let here : V3 := ⟨p.x, p.y, wrap360 c.pose.z⟩
  let bank := match modeEntry c.mode k with
    | some e => if e.gainBank = 0xFF then s.bank else e.gainBank
    | none => s.bank
  let xd := ax.map3 here s.xd
  let vd := ax.map3 ⟨vne.x, vne.y, c.vel.z⟩ s.vd
  let ad := ax.map3 V3.zero s.ad
  let hold := if (k = 1 ∨ k = 2) ∧ s.mode ≠ 0 then ax.map3 V3.zero s.prev
    else if 3 ≤ k ∨ k = 0 then V3.zero else s.hold
  let target : V3 :=
    if k = 8 then ⟨p.x, p.y, s.target.z⟩
    else if k = 2 ∧ 3 ≤ s.mode then ⟨s.target.x, s.target.y, s.target.z⟩
    else if 2 ≤ k then here else s.target
  let from_ := p
  { s with
    mode := k, bank := bank, xd := xd, vd := vd, ad := ad, target := target, initI := ax, hold := hold, releaseLeft := 0,
    fpCentre := if k = 4 then p else s.fpCentre, fpRadius := if k = 4 then modeParam c.mode 4 0 else s.fpRadius,
    fpOutside := false, fpInsideRun := 0,
    track := if k = 5 then makeTrack from_ s.committed else s.track, leg := 0, sd := 0, speed := 0, xteRun := 0,
    trackDone := false, offset := if k = 6 then ⟨modeParam c.mode 6 3, modeParam c.mode 6 4⟩ else s.offset,
    tracker := { s.tracker with fastRun := 0 }, wvForce := if k = 7 then ⟨0, 0⟩ else s.wvForce,
    gwClear := [50, 50, 50], gwDo := false }

/-- A fallback (08 R245): mode, cause and setpoint after it (DEDUCED: log entry 75). -/
def ControlState.fallback (c : CtrlCtx) (s : ControlState) (k cause : Nat) : ControlState :=
  let keep := s.target
  let pose := s.xd
  let last : V3 := match s.track.getLast? with | some p => ⟨p.pos.x, p.pos.y, keep.z⟩ | none => keep
  let s' := s.enter c k
  let s' := { s' with fallbackCause := cause }
  if cause = 1 then { s' with target := ⟨s'.target.x, s'.target.y, keep.z⟩ }
  else if cause = 4 ∨ cause = 5 ∨ cause = 6 then { s' with target := pose }
  else if cause = 7 then { s' with target := last }
  else s'

/-- The first fallback that applies (08 R245): mode, cause, code (DEDUCED: log entry 75). -/
def fallbackDue (c : CtrlCtx) (s : ControlState) : Option (Nat × Nat × Nat) :=
  let up := 2 ≤ s.mode ∧ s.mode ≤ 8
  if c.obsStatus = 0 ∧ up then some (1, 3, 11)
  else if c.limitHdg ∧ up then some (1, 2, 11)
  else if c.limitPos ∧ 3 ≤ s.mode ∧ s.mode ≤ 8 then some (2, 1, 11)
  else if s.mode = 5 ∧ 500 ≤ s.xteRun then some (3, 4, 33)
  else if s.mode = 6 ∧ c.mode.targetLostTime ≤ s.tracker.lostFrames then some (3, 5, 34)
  else if s.mode = 6 ∧ 50 ≤ s.tracker.fastRun then some (3, 6, 34)
  else if s.mode = 5 ∧ s.trackDone then some (3, 7, 32)
  else none

/-! ## Commands taken in slot 2 (08 R233, R242, R249, R250) -/

/-- A setpoint command (08 R249): absolute translated by one generation, or relative to the heading setpoint. -/
def ControlState.setpoint (c : CtrlCtx) (s : ControlState) (kind gen : Nat) (x y h : Option Rat) : ControlState :=
  let old := decide (gen ≠ c.originGen)
  let sx := if old then c.shift.x else 0
  let sy := if old then c.shift.y else 0
  let tgt : V3 :=
    if kind = 0 then
      ⟨match x with | some v => v + sx | none => s.target.x, match y with | some v => v + sy | none => s.target.y,
       match h with | some v => wrap360 v | none => s.target.z⟩
    else
      let d := toNorthEast s.target.z ⟨x.getD 0, y.getD 0⟩
      ⟨s.target.x + d.x, s.target.y + d.y, wrap360 (s.target.z + h.getD 0)⟩
  let posOk := decide (s.mode = 3 ∨ s.mode = 7 ∨ s.mode = 8)
  let hdgOk := decide (s.mode = 2 ∨ s.mode = 3 ∨ s.mode = 4 ∨ s.mode = 8)
  { s with target := ⟨if posOk then tgt.x else s.target.x, if posOk then tgt.y else s.target.y,
                      if hdgOk then tgt.z else s.target.z⟩ }

/-- A command's effect in slot 2 (DEDUCED: log entry 73). -/
def ControlState.take (c : CtrlCtx) (s : ControlState) : CtrlCmd → ControlState × List AlarmOp
  | .mode k =>
    let r := modeRefusal c s k
    if r ≠ 0 then ({ s with requested := k, refuseReason := r }, [.raise ⟨.vc, 12⟩ 0 r])
    else if k = s.mode then ({ s with requested := k }, [])
    else ({ s.enter c k with requested := k, fallbackCause := 0 }, [.clear ⟨.vc, 11⟩ 0, .clear ⟨.vc, 32⟩ 0, .clear ⟨.vc, 33⟩ 0, .clear ⟨.vc, 34⟩ 0,
            .clear ⟨.vc, 12⟩ 0])
  | .setpoint kind gen x y h => (s.setpoint c kind gen x y h, [])
  | .bank n => ({ s with bank := n, initI := controllerAxes s.mode }, [])
  | .footprint cn ce r =>
    if s.mode = 4 then ({ s with fpCentre := ⟨cn.getD s.fpCentre.x, ce.getD s.fpCentre.y⟩, fpRadius := r }, []) else (s, [])
  | .biasRelease => ({ s with holdFrom := s.hold, releaseLeft := 50 * c.mode.biasReleaseTime }, [])
  | .commit n =>
    let ws := ((s.edit.take n).filterMap id).map (Waypoint.local c.origin)
    let s := { s with committed := ws }
    if s.mode = 5 then
      ({ s with track := makeTrack ⟨s.xd.x, s.xd.y⟩ ws, leg := 0, sd := 0, xteRun := 0, trackDone := false }, [])
    else (s, [])
  | .offset x y => ({ s with offset := ⟨x, y⟩ }, [])

/-- The newest published command of each object, mode requests before the others (08 R232, R233, R242)
(DEDUCED: log entry 73). -/
def newestCmds (frame : Nat) (cmds : List (Nat × CtrlCmd)) : List CtrlCmd :=
  let due := (cmds.filter fun p => decide (p.1 ≤ frame)).map (·.2)
  let keep := due.zipIdx.filter fun p => !(due.drop (p.2 + 1)).any fun q => q.object == p.1.object
  let xs := keep.map (·.1)
  xs.filter (fun x => x.object == 0x2201) ++ xs.filter (fun x => x.object != 0x2201)

/-! ## The demand (08 R236 to R238, R246 to R248) -/

/-- The deflection in force after the deadband (08 R246). -/
def deadband (db : Nat) (x : Rat) : Rat :=
  let d : Rat := (db : Rat) / 100
  if absQ x < d then 0 else if d = 1 then x else (if x < 0 then -1 else 1) * (absQ x - d) / (1 - d)

/-- The joystick deflection: a valid message, or the analog inputs (08 R246). -/
def ControlState.deflection (c : CtrlCtx) (s : ControlState) : V3 :=
  let raw := if c.mode.joystickSource = 0 then
      (match s.stickAge with
        | some a => if a < c.mode.joystickTimeout then s.stick else V3.zero
        | none => V3.zero)
    else c.analogStick
  V3.map (deadband c.mode.joystickDeadband) raw

/-- Whether no valid deflection is held (VC-010). -/
def ControlState.noStick (c : CtrlCtx) (s : ControlState) : Bool :=
  decide (c.mode.joystickSource = 0) && decide (s.mode = 1 ∨ s.mode = 2) &&
    (match s.stickAge with | some a => decide (c.mode.joystickTimeout ≤ a) | none => true)

/-- Mass times an acceleration in the body frame (08 R237): yaw in rad/s². -/
def massTimes (v : Vmod) (a : V3) : V3 :=
  ⟨v.m11 * a.x, v.m22 * a.y + v.m23 * a.z, v.m23 * a.y + v.m33 * a.z⟩

/-- The demand of a cycle, the integrators after it, and what it was made of (08 R237, R238). -/
def ControlState.demand (c : CtrlCtx) (s : ControlState) (v a : V3) : ControlState :=
  let g := c.gain s.bank
  let p := c.point s.mode
  let eb := toBody c.pose.z ⟨s.xd.x - p.x, s.xd.y - p.y⟩
  let e : V3 := ⟨eb.x, eb.y, wrap180 (s.xd.z - c.pose.z)⟩
  let vb := toBody c.pose.z ⟨v.x, v.y⟩
  let ev : V3 := ⟨vb.x - c.vel.x, vb.y - c.vel.y, v.z - c.vel.z⟩
  let bb := toBody c.pose.z ⟨c.bias.x, c.bias.y⟩
  let bbias : V3 := ⟨bb.x, bb.y, c.bias.z⟩
  let ab := toBody c.pose.z ⟨a.x, a.y⟩
  let tp := V3.mulc g.kp ⟨knee g.eKnee.x g.kneeRatio.x e.x, knee g.eKnee.y g.kneeRatio.y e.y, knee g.eKnee.z g.kneeRatio.z e.z⟩
  let td := V3.mulc g.kd ev
  -- footprint (08 R250)
  let d := hypotQ (p.x - s.fpCentre.x) (p.y - s.fpCentre.y)
  let rin := modeParam c.mode 4 1 * s.fpRadius
  let inner := decide (s.mode = 4) && decide (d ≤ rin)
  let kb : Rat := if s.mode = 4 then minQ 1 ((d - rin) / (s.fpRadius - rin)) else 1
  let bff : V3 := ⟨kb * g.biasFf.x, kb * g.biasFf.y, g.biasFf.z⟩
  let tf := V3.add (V3.sub (V3.scale (-1) (V3.mulc g.windFf c.wind)) (V3.mulc bff bbias))
    (V3.scale g.accelFf (massTimes c.mass ⟨ab.x, ab.y, radQ a.z⟩))
  let ax := controllerAxes s.mode
  let i0 := V3.zip (fun m x => clampQ (-m) m x) g.integMax (V3.sub s.prev (V3.add tp (V3.add td tf)))
  let integ := s.initI.map3 i0 s.integ
  let ctl := V3.add tp (V3.add td (V3.add integ tf))
  let ctl := if inner then ⟨0, 0, ctl.z⟩ else ctl
  -- joystick and bias hold
  let def_ := s.deflection c
  let windOn := match modeEntry c.mode s.mode with | some m => m.flags.testBit 0 | none => false
  let tj := V3.add (V3.add (V3.mulc def_ c.mode.joystickScale) s.hold)
    (if windOn then V3.scale (-1) (V3.mulc g.windFf c.wind) else V3.zero)
  let tc := if s.mode = 0 then V3.zero else ax.map3 ctl tj
  let clampd := V3.zip (fun m x => clampQ (-m) m x) g.demandMax tc
  let out := if s.mode = 0 then V3.zero
    else ⟨clampQ (s.prev.x - g.demandRate.x) (s.prev.x + g.demandRate.x) clampd.x,
          clampQ (s.prev.y - g.demandRate.y) (s.prev.y + g.demandRate.y) clampd.y,
          clampQ (s.prev.z - g.demandRate.z) (s.prev.z + g.demandRate.z) clampd.z⟩
  let lim : B3 := if s.mode = 0 then ⟨false, false, false⟩
    else ⟨decide (out.x ≠ tc.x), decide (out.y ≠ tc.y), decide (out.z ≠ tc.z)⟩
  let beyond : B3 := ⟨decide (g.eKnee.x < absQ e.x), decide (g.eKnee.y < absQ e.y), decide (g.eKnee.z < absQ e.z)⟩
  let not_ : B3 := ⟨!ax.x || inner || c.reset, !ax.y || inner || c.reset, !ax.z || c.reset⟩
  let frozen := ((beyond.or lim).or c.saturated).or not_
  let next := V3.zip (fun m x => clampQ (-m) m x) g.integMax (V3.add integ (V3.scale (2 / 100) (V3.mulc g.ki e)))
  { s with integ := frozen.map3 integ next, initI := ⟨false, false, false⟩, prev := out, frozen := frozen, err := e,
           parts := ⟨tp, td, integ, tf, tc, lim⟩, demandSum := V3.add s.demandSum out, demandCount := s.demandCount + 1 }

/-! ## Geometry of the modes (08 R247, R250, R252 to R254) -/

/-- Weather direction of mode 7 (08 R254) (DEDUCED: log entry 73). -/
def ControlState.weather (c : CtrlCtx) (s : ControlState) : ControlState :=
  let w := toNorthEast c.pose.z ⟨c.wind.x, c.wind.y⟩
  let f : V2 := ⟨c.bias.x + w.x, c.bias.y + w.y⟩
  let k := (2 / 100) / maxQ (modeParam c.mode 7 1) (2 / 100)
  let ff : V2 := ⟨s.wvForce.x + k * (f.x - s.wvForce.x), s.wvForce.y + k * (f.y - s.wvForce.y)⟩
  let dir := wrap360 (atan2Q (-ff.y) (-ff.x))
  let lo := modeParam c.mode 7 3
  let move := decide (lo ≤ 0 ∨ lo * lo ≤ ff.x * ff.x + ff.y * ff.y) && decide (modeParam c.mode 7 2 < absQ (wrap180 (dir - s.target.z)))
  { s with wvForce := ff, target := ⟨s.target.x, s.target.y, if move then dir else s.target.z⟩ }

/-- Step 5 of 08 R232: setpoint geometry and reference model; answers v_d and a_d of the cycle. -/
def ControlState.geometry (c : CtrlCtx) (s : ControlState) : ControlState × V3 × V3 :=
  let g := c.gain s.bank
  let model := fun (s : ControlState) =>
    let (x, v, a) := refModel g s.target s.xd s.vd
    ({ s with xd := x, vd := v, ad := a }, v, a)
  let yaw := fun (s : ControlState) (pos vne a : V3) =>
    let (x, v, ay) := refModel g s.target s.xd s.vd
    let s := { s with xd := ⟨pos.x, pos.y, x.z⟩, vd := ⟨vne.x, vne.y, v.z⟩, ad := ⟨a.x, a.y, ay.z⟩ }
    (s, s.vd, s.ad)
  if s.mode = 2 then
    let z := (s.deflection c).z
    model { s with target := ⟨s.target.x, s.target.y, wrap360 (s.target.z + z * g.refSpeedMax.y * (2 / 100))⟩ }
  else if s.mode = 4 then
    let p := c.point 4
    let d := hypotQ (p.x - s.fpCentre.x) (p.y - s.fpCentre.y)
    let rin := modeParam c.mode 4 1 * s.fpRadius
    let q : V3 := if d ≤ rin then ⟨p.x, p.y, 0⟩
      else ⟨s.fpCentre.x + rin * (p.x - s.fpCentre.x) / d, s.fpCentre.y + rin * (p.y - s.fpCentre.y) / d, 0⟩
    let run := if d < s.fpRadius then s.fpInsideRun + 1 else 0
    let s := { s with target := ⟨q.x, q.y, s.target.z⟩, fpInsideRun := run,
                      fpOutside := decide (s.fpRadius ≤ d) || (s.fpOutside && decide (run < 50)) }
    yaw s q V3.zero V3.zero
  else if s.mode = 5 then
    let (s, v, a) := s.trackStep c g
    yaw s s.target v a
  else if s.mode = 6 then
    let (s, v) := s.targetStep c
    yaw { s with tracker := s.tracker.fastStep c.mode.targetSpeedMax } s.target v V3.zero
  else if s.mode = 7 then model (s.weather c)
  else if s.mode = 3 ∨ s.mode = 8 then model s
  else (s, V3.zero, V3.zero)

/-- Gangway conditions (08 R256) (DEDUCED: log entry 74). -/
def ControlState.gangway (c : CtrlCtx) (s : ControlState) : ControlState × List AlarmOp :=
  let z := c.heave - modeParam c.mode 8 0 * sinQ c.pitch + modeParam c.mode 8 1 * sinQ c.roll
  if s.mode ≠ 8 then ({ s with gwDo := false, zPed := z }, [.clear ⟨.vc, 40⟩ 0, .clear ⟨.vc, 41⟩ 0, .clear ⟨.vc, 42⟩ 0])
  else
    let p := c.point 8
    let pe := hypotQ (s.xd.x - p.x) (s.xd.y - p.y)
    let he := absQ (wrap180 (s.xd.z - c.pose.z))
    let out := fun (r : Rat) => !within (s.xd.x - p.x) (s.xd.y - p.y) r
    let warn := out (modeParam c.mode 8 4) || decide (modeParam c.mode 8 6 < he)
    let alarm := out (modeParam c.mode 8 5)
    let lost := decide (modeParam c.mode 8 3 < c.sigma.x) || decide (modeParam c.mode 8 3 < c.sigma.y)
      || decide (c.posRefs < c.mode.gwMinRefs) || c.vc20
    let run := fun (i : Nat) (on : Bool) => if on then 0 else min 50 (nth 50 s.gwClear i + 1)
    let runs := [run 0 warn, run 1 alarm, run 2 lost]
    let on := fun (i : Nat) => decide (nth 50 runs i < 50)
    ({ s with gwClear := runs, gwDo := on 0 || on 1, zPed := z, gwPosErr := pe, gwHdgErr := he },
      [AlarmOp.whileOn (on 0) ⟨.vc, 40⟩ 0 0, AlarmOp.whileOn (on 1) ⟨.vc, 41⟩ 0 0, AlarmOp.whileOn (on 2) ⟨.vc, 42⟩ 0 0])

/-- Translate everything held in the local frame (08 R240). -/
def ControlState.shiftBy (s : ControlState) (sh : V2) (gen : Nat) : ControlState :=
  let m3 := fun (v : V3) => (⟨v.x + sh.x, v.y + sh.y, v.z⟩ : V3)
  let m2 := fun (v : V2) => (⟨v.x + sh.x, v.y + sh.y⟩ : V2)
  { s with xd := m3 s.xd, target := m3 s.target, fpCentre := m2 s.fpCentre,
           track := s.track.map (fun p => { p with pos := m2 p.pos }), committed := s.committed.map (fun p => { p with pos := m2 p.pos }),
           tracker := { s.tracker with pos := m2 s.tracker.pos },
           originGen := gen }

/-- The mode logic and controller slice of slot 2 (08 R232). -/
def ControlState.slice (c : CtrlCtx) (s : ControlState) : ControlState × List AlarmOp :=
  let s := if s.originGen ≠ c.originGen then s.shiftBy c.shift c.originGen else s
  let due := newestCmds c.frame s.cmds
  let s := { s with cmds := s.cmds.filter fun p => !decide (p.1 ≤ c.frame) }
  -- follow the partner (08 R234)
  let s := match c.follow with
    | some (m, sp, b) =>
      let s := if m ≠ s.mode then s.enter c m else s
      { s with target := sp, bank := b, initI := if b ≠ s.bank then controllerAxes s.mode else s.initI, following := true }
    | none => { s with following := false }
  let fb := fallbackDue c s
  let (s, ops1) := match fb with
    | some (k, cause, code) => (s.fallback c k cause, [AlarmOp.raise ⟨.vc, code⟩ 0 cause])
    | none => (s, [])
  let (s, ops2) := due.foldl (fun (p : ControlState × List AlarmOp) x =>
    let (s', o) := p.1.take c x
    (s', p.2 ++ o)) (s, [])
  -- bias release (08 R248)
  let full : Rat := ((50 * c.mode.biasReleaseTime : Nat) : Rat)
  let s := if s.releaseLeft = 0 then s
    else { s with releaseLeft := s.releaseLeft - 1,
                  hold := V3.scale (((s.releaseLeft - 1 : Nat) : Rat) / full) s.holdFrom }
  let (s, v, a) := s.geometry c
  let s := s.demand c v a
  let (s, ops3) := s.gangway c
  (s, ops1 ++ ops2 ++ ops3 ++
    [AlarmOp.whileOn (s.noStick c) ⟨.vc, 10⟩ 0 0, AlarmOp.whileOn (decide (s.hold ≠ V3.zero)) ⟨.vc, 50⟩ 0 0,
     AlarmOp.whileOn (decide (s.mode = 4) && s.fpOutside) ⟨.vc, 31⟩ 0 0])

/-- Frame ages: joystick and target (08 R246, R253). -/
def ControlState.age (s : ControlState) : ControlState :=
  { s with stickAge := s.stickAge.map (· + 1), tracker := { s.tracker with lostFrames := s.tracker.lostFrames + 1 } }

/-- Start of a mission cycle: the mean demand of the last one (08 R257). -/
def ControlState.missionStart (s : ControlState) : ControlState :=
  { s with demandMean := if s.demandCount = 0 then V3.zero else V3.scale (1 / (s.demandCount : Rat)) s.demandSum,
           demandSum := V3.zero, demandCount := 0,
           groups := s.groups.map fun g => { g with posed := false, judged := false } }

/-! ## Consequence analysis (08 R257, R258) -/

/-- Whether a solve fails a group: any axis departs from the demand by more than its tolerance, or a residual. -/
def groupFails (tol demand achieved : V3) (residual : Bool) : Bool :=
  residual || decide (tol.x < absQ (achieved.x - demand.x)) || decide (tol.y < absQ (achieved.y - demand.y))
    || decide (tol.z < absQ (achieved.z - demand.z))

/-- Result of a group after a judged solve. -/
def GroupResult.judge (g : GroupResult) (fails : Bool) (short : V3) : GroupResult :=
  { g with status := if fails then 2 else 1, failRun := if fails then g.failRun + 1 else 0,
           passRun := if fails then 0 else g.passRun + 1, staleRun := 0, shortfall := short, judged := true }

/-- The verdict at motion index 49 (08 R258). -/
def ControlState.verdictStep (fgrp : Option (List FailGroup)) (persist : Nat) (s : ControlState) :
    ControlState × List AlarmOp :=
  match fgrp with
  | none => ({ s with verdict := 3, groups := s.groups.map fun g => { g with status := 0 } }, [.clear ⟨.vc, 20⟩ 0])
  | some fs =>
    if s.mode = 0 ∨ s.mode = 1 then
      ({ s with verdict := 2, groups := s.groups.mapIdx fun i g =>
          if fs.any (fun f => f.group == i) then { g with status := 4, failRun := 0, passRun := 0, staleRun := 0 }
          else { g with status := 0 } }, [.clear ⟨.vc, 20⟩ 0, .clear ⟨.vc, 21⟩ 0])
    else
      let gs := s.groups.mapIdx fun i g =>
        if fs.any (fun f => f.group == i) then
          (if g.judged then g else { g with status := 3, staleRun := g.staleRun + 1 })
        else { g with status := 0 }
      let mine := fs.map fun f => nth default gs f.group
      let bad := mine.any fun g => decide (persist ≤ g.failRun)
      let good := mine.all fun g => decide (persist ≤ g.passRun)
      let on := bad || (decide (s.verdict = 1) && !good)
      let stale := mine.any fun g => decide (3 ≤ g.staleRun)
      ({ s with verdict := if on then 1 else 0, groups := gs },
        [AlarmOp.whileOn on ⟨.vc, 20⟩ 0 0, AlarmOp.whileOn stale ⟨.vc, 21⟩ 0 0])

end Sys2Proof.Machine
end

