-- ==== Sys2Proof/Machine/Gnss.lean ====
section
/-!
DEFINITION. The GNSS receiver of a lane as functions of its own state (05): slots, search hits, messages, corrections,
the consistency checks, the solution modes and the heading.
-/

namespace Sys2Proof.Machine

/-- System of a signal code: 0 GPS, 1 Galileo, 2 BeiDou, 3 GLONASS, 4 SBAS (05 R138). -/
def signalSystem (signal : Nat) : Nat := signal / 16

/-- Whether a signal lies in the low band (05 R138). -/
def signalLow (signal : Nat) : Bool := signal == 0x02 || signal == 0x12 || signal == 0x22

/-- The signal codes of 05 R138. -/
def signalKnown (signal : Nat) : Bool :=
  [0x01, 0x02, 0x11, 0x12, 0x21, 0x22, 0x31, 0x41].contains signal

/-- Whether the GNSS record enables a signal's system and band (05 R144, R169). -/
def signalEnabled (g : GnssRec) (signal : Nat) : Bool :=
  g.systems.testBit (signalSystem signal) && g.bands.testBit (b2n (signalLow signal))

/-- The antenna numbers of a lane (05 preamble). -/
def antennaNo (l : Lane) (k : Nat) : Nat := 2 * l.code + k

/-- The record entry of an antenna. -/
def antennaRec (g : GnssRec) (n : Nat) : Option AntennaRec :=
  g.antennas.find? fun a => a.antenna == n && a.enabled == 1

/-- Antenna k of the lane's receiver. -/
def GnssState.ant (g : GnssState) (k : Nat) : AntennaState := if k = 0 then g.ant0 else g.ant1

/-- The receiver with antenna k replaced. -/
def GnssState.setAnt (g : GnssState) (k : Nat) (a : AntennaState) : GnssState :=
  if k = 0 then { g with ant0 := a } else { g with ant1 := a }

/-- Index within the lane of its first enabled antenna (05 R157). -/
def firstAntenna (g : GnssRec) (l : Lane) : Option Nat :=
  if (antennaRec g (antennaNo l 0)).isSome then some 0
  else if (antennaRec g (antennaNo l 1)).isSome then some 1 else none

/-! ## Slots (05 R142 to R151) -/

/-- A slot after one dump (05 R143): pull-in until code and carrier lock, locked until the transmit time is known. -/
def GnssSlot.dump (s : GnssSlot) (o : DumpObs) : GnssSlot :=
  if s.state = 0 then s
  else
    let st := if o.codeLock && o.carrierLock then (if o.timeKnown then 3 else 2) else 1
    { s with
      state := st, pseudorange := if st = 3 then o.pseudorange else 0, carrier := o.carrier, doppler := o.doppler,
      cn0 := o.cn0, lockMs := if o.carrierLock && !o.slip then s.lockMs + 1 else 0,
      elevation := o.elevation, azimuth := o.azimuth,
      flags := b2n o.halfCycle + 2 * b2n (o.slip || s.flags.testBit 1) }

/-- All slots of an antenna after one dump (05 R142). -/
def AntennaState.dump (a : AntennaState) (obs : List DumpObs) : AntennaState :=
  { a with slots := a.slots.mapIdx fun i s =>
      match obs.find? (fun o => o.slot == i) with
      | some o => s.dump o
      | none => s }

/-- Score of a signal (05 R150): weight times elevation plus clamped C/N0, 2 more for a tracked one. -/
def signalScore (g : GnssRec) (signal : Nat) (elevation : Int) (cn0 : Nat) (tracked : Bool) : Rat :=
  (nth 0 g.weights (signalSystem signal) : Rat) * ((elevation : Rat) + clampQ 0 35 ((cn0 : Rat) / 100 - 20))
    + (if tracked then 2 else 0)

/-- C/N0 a score is taken from: predicted 40 dB-Hz for a signal not yet measured (05 R150). -/
def scoreCn0 (cn0 : Nat) : Nat := if cn0 = 0 then 4000 else cn0

/-- Score of a tracked slot. -/
def GnssSlot.score (g : GnssRec) (s : GnssSlot) : Rat := signalScore g s.signal s.elevation (scoreCn0 s.cn0) true

/-- A signal qualifies on an antenna (05 R150): system and band enabled, above the mask, not marked unhealthy. -/
def qualifies (g : GnssRec) (healthy : Bool) (signal : Nat) (elevation : Int) : Bool :=
  signalKnown signal && signalEnabled g signal && decide ((g.elevationMask : Int) ≤ elevation) && healthy

/-- A signal left out, with its score. -/
def LeftOut.of (g : GnssRec) (signal svid cn0 : Nat) (elevation : Int) (waiting : Bool) : LeftOut :=
  ⟨signal, svid, elevation, cn0, signalScore g signal elevation (scoreCn0 cn0) false, waiting⟩

/-- Index of the tracked slot with the lowest score, the first of equals. -/
def lowestSlot (g : GnssRec) (slots : List GnssSlot) : Option (Nat × Rat) :=
  (slots.zipIdx.foldl (fun (best : Option (Nat × Rat)) p =>
    if p.1.state = 0 then best
    else match best with
      | none => some (p.2, p.1.score g)
      | some b => if p.1.score g < b.2 then some (p.2, p.1.score g) else best) none)

/-- A slot as a search hit fills it: state 1, pull-in (05 R143). -/
def GnssSlot.fresh (signal svid cn0 : Nat) (elevation : Int) (glo : Int) : GnssSlot :=
  { GnssSlot.idle with state := 1, signal := signal, svid := svid, cn0 := cn0, elevation := elevation,
                       gloChannel := glo }

/-- The antenna tracks a signal. -/
def AntennaState.tracks (a : AntennaState) (signal svid : Nat) : Bool :=
  a.slots.any fun s => decide (s.state ≠ 0) && s.signal == signal && s.svid == svid

/-- A verified search hit of a qualifying signal given to a tracking slot, with the comparison of the 121st signal (05 R145,
R150, R151). A signal left out is searched again only when its score would exceed the lowest tracked one; where its
re-admission wait ended with its slot, the wait starts afresh (05 R168) (DEDUCED: log entry 63). -/
def AntennaState.hit (g : GnssRec) (a : AntennaState) (signal svid cn0 : Nat) (elevation glo : Int) : AntennaState :=
  let same := fun (x : LeftOut) => x.signal == signal && x.svid == svid
  let before := a.leftOut.find? same
  let waited := match before with | some b => b.waiting | none => false
  let fresh := GnssSlot.fresh signal svid cn0 elevation glo
  let new : GnssSlot := if waited then { fresh with wait := 50 * g.readmitTime } else fresh
  let left := a.leftOut.filter fun x => !same x
  match a.slots.findIdx? (fun s => s.state == 0) with
  | some i => { a with slots := a.slots.set i new, leftOut := left }
  | none =>
    match lowestSlot g a.slots with
    | none => a
    | some (i, low) =>
      let me := LeftOut.of g signal svid cn0 elevation waited
      if (match before with | some b => decide (b.score ≤ low) | none => false) then a
      else if low < me.score then
        let old := a.slots.getD i GnssSlot.idle
        { a with slots := a.slots.set i new,
                 leftOut := left ++ [LeftOut.of g old.signal old.svid old.cn0 old.elevation (decide (0 < old.wait))],
                 decisions := a.decisions + 1 }
      else { a with leftOut := left ++ [me], decisions := a.decisions + 1 }

/-- Whether a slot is to be released (05 R144), apart from displacement. -/
def GnssSlot.releasable (g : GnssRec) (s : GnssSlot) : Bool :=
  decide (100 ≤ s.lowRun) || decide (s.elevation < (g.elevationMask : Int) - 2) || !signalEnabled g s.signal

/-- C/N0 below cn0_drop counted once per motion cycle (05 R144); the C/N0 history of the last 50 epochs. -/
def GnssSlot.cycle (g : GnssRec) (s : GnssSlot) : GnssSlot :=
  if s.state = 0 then s
  else { s with lowRun := if s.cn0 < 100 * g.cn0Drop then s.lowRun + 1 else 0,
                cn0Hist := (s.cn0 :: s.cn0Hist).take 51 }

/-- Bias current counted once per motion cycle (05 R141): above bias_max, below 5 mA. -/
def AntennaState.biasCycle (a : AntennaState) (r : AntennaRec) (ma : Nat) : AntennaState :=
  { a with overRun := if a.biasOn && decide (r.biasMax < ma) then a.overRun + 1 else 0,
           underRun := if a.biasOn && decide (ma < 5) then a.underRun + 1 else 0,
           offRun := if a.biasShort && !a.biasOn then a.offRun + 1 else 0,
           biasOpen := a.biasOpen && decide (ma < 5),
           biasShort := a.biasShort && !(a.biasOn && decide (ma ≤ r.biasMax)) }

/-- A short switches the bias off, an open leaves it on (05 R141). -/
def AntennaState.biasFault (a : AntennaState) : AntennaState :=
  if 10 ≤ a.overRun then { a with biasOn := false, biasShort := true, overRun := 0, offRun := 0 }
  else if 10 ≤ a.underRun then { a with biasOpen := true }
  else a

/-! ## Messages and corrections (05 R152 to R154, R158, R159) -/

/-- Status of a demodulated message (05 R152): for LNAV by its words, else by its check and corrected symbols. -/
def navStatus (kind : Nat) (headOk checkOk : Bool) (corrected wordMask : Nat) : Nat :=
  if kind = 1 then (if !headOk then 1 else if wordMask % 1024 = 1023 then 0 else 3)
  else if !checkOk then 1 else if corrected = 0 then 0 else 2

/-- Bits in a message of a kind (05 R152). -/
def navBits (kind : Nat) : Nat := nth 0 [300, 300, 300, 240, 244, 600, 264, 288, 85, 250] kind

/-- A record added to the ring of 256, newest first (05 R153). -/
def GnssState.addNav (g : GnssState) (r : NavRecord) : GnssState :=
  { g with navRing := ({ r with seq := g.navSeq } :: g.navRing).take 256, navSeq := (g.navSeq + 1) % 2 ^ 32,
           navStats := (r.signal, r.svid, 0, r.status == 1) :: g.navStats }

/-- More than 10 % of a signal's messages of the last 60 s failed (GN-050). -/
def GnssState.navPoor (g : GnssState) (signal svid : Nat) : Bool :=
  let mine := g.navStats.filter fun x => x.1 == signal && x.2.1 == svid
  let bad := (mine.filter fun x => x.2.2.2).length
  decide (mine.length < 10 * bad)

/-- Ephemeris acceptance (05 R154): within 500 m of the prediction, or a second identical copy (DEDUCED: log entry 66). -/
def GnssState.offerEph (g : GnssState) (e : Ephemeris) (near : Bool) : GnssState × Bool :=
  let same := fun (x : Ephemeris) => x.system == e.system && x.svid == e.svid
  let ok := near || g.ephPending.any fun x => same x && decide (x.data = e.data)
  if ok then
    ({ g with ephs := e :: g.ephs.filter (fun x => !same x),
              ephPending := g.ephPending.filter fun x => !same x }, true)
  else ({ g with ephPending := e :: g.ephPending.filter fun x => !same x }, false)

/-- Effect of an SBAS message type (05 R158): type 0 stops use for 60 s, type 1 is remembered for 120 s. -/
def GnssState.sbasMessage (g : GnssState) (prn mt : Nat) : GnssState :=
  if mt = 0 then
    { g with sbasHold := (prn, 60000) :: g.sbasHold.filter (fun x => x.1 != prn),
             sbasPrn := if g.sbasPrn = prn then 0 else g.sbasPrn }
  else if mt = 1 then { g with sbasType1 := (prn, 120000) :: g.sbasType1.filter (fun x => x.1 != prn) }
  else g

/-- One bit of the CRC-24Q division (generator 0x1864CFB). -/
def crc24Bit (c : BitVec 24) : BitVec 24 := if c.getLsbD 23 then (c <<< 1) ^^^ 0x864CFB#24 else c <<< 1

/-- CRC-24Q of a byte string, initial value 0 (05 R152, R159) (PRESUMED: log entry 6). -/
def crc24q (bs : Bytes) : Nat :=
  (bs.foldl (fun (c : BitVec 24) (b : Byte) =>
    let c := c ^^^ (b.setWidth 24 <<< 16)
    crc24Bit (crc24Bit (crc24Bit (crc24Bit (crc24Bit (crc24Bit (crc24Bit (crc24Bit c)))))))) 0#24).toNat

/-- Whether a byte string is a whole RTCM version 3 frame: preamble 0xD3, 10-bit length, CRC-24Q. -/
def rtcmOk (bs : Bytes) : Bool :=
  let n := ((bs.getD 1 0).toNat % 4) * 256 + (bs.getD 2 0).toNat
  (bs.getD 0 0 == 0xD3#8) && decide (bs.length = n + 6)
    && (crc24q (bs.take (n + 3)) == leNat ((bs.drop (n + 3)).reverse))

/-- Message type and reference station of an RTCM frame: the first two 12-bit fields. -/
def rtcmType (bs : Bytes) : Nat := (bs.getD 3 0).toNat * 16 + (bs.getD 4 0).toNat / 16
def rtcmStation (bs : Bytes) : Nat := ((bs.getD 4 0).toNat % 16) * 256 + (bs.getD 5 0).toNat

/-- MSM types used (05 R159). -/
def rtcmObservation (t : Nat) : Bool :=
  [1074, 1075, 1077, 1084, 1085, 1087, 1094, 1095, 1097, 1124, 1125, 1127].contains t

/-- A received frame used, counted or discarded (05 R159). -/
def GnssState.rtcm (g : GnssState) (bs : Bytes) : GnssState :=
  if !rtcmOk bs then { g with rtcmDiscarded := g.rtcmDiscarded + 1 }
  else
    let t := rtcmType bs
    if t = 1005 ∨ t = 1006 then
      { g with rtcmUsed := g.rtcmUsed + 1, stationAge := some 0, baseId := rtcmStation bs }
    else if rtcmObservation t then { g with rtcmUsed := g.rtcmUsed + 1, obsAge := some 0 }
    else if t = 1230 then { g with rtcmUsed := g.rtcmUsed + 1 }
    else if t = 1007 ∨ t = 1008 ∨ t = 1033 then g
    else { g with rtcmIgnored := g.rtcmIgnored + 1 }

/-! ## Ages, once per frame -/

/-- Ages of held data advanced by one frame. -/
def GnssState.age (g : GnssState) : GnssState :=
  let older := fun (x : Nat × Nat) => if x.2 ≤ 1 then none else some (x.1, x.2 - 1)
  { g with
    navStats := (g.navStats.map fun x => (x.1, x.2.1, x.2.2.1 + 1, x.2.2.2)).filter fun x => decide (x.2.2.1 < 60000),
    sbasHold := g.sbasHold.filterMap older, sbasType1 := g.sbasType1.filterMap older,
    obsAge := g.obsAge.map (· + 1), stationAge := g.stationAge.map (· + 1) }

/-! ## Checks (05 R165 to R168) -/

/-- What the checks need of the rest of the lane. -/
structure GnssCtx where
  lane : Lane
  cfg : GnssRec
  /-- Observer initialised and in dead reckoning for at most 10 s (05 R168). -/
  obsOk : Bool
  deriving DecidableEq, Repr

/-- Whether an accepted ephemeris of a satellite is held, and whether it marks the satellite unhealthy. -/
def GnssState.eph (g : GnssState) (signal svid : Nat) : Option Ephemeris :=
  g.ephs.find? fun e => e.system == signalSystem signal && e.svid == svid

/-- Reason of a signal before the checks (05 R165, first seven rows). -/
def baseReason (c : GnssCtx) (g : GnssState) (bandOk : Bool) (s : GnssSlot) : Nat :=
  if !signalEnabled c.cfg s.signal || !bandOk then 0x15
  else if s.state < 3 ∨ s.lockMs < 1000 then 0x14
  else if s.cn0 < 100 * c.cfg.cn0Min then 0x13
  else if s.elevation < (c.cfg.elevationMask : Int) then 0x10
  else match g.eph s.signal s.svid with
    | none => 0x11
    | some e => if !e.healthy then 0x12 else 0

/-- Rise in C/N0 within the last second above a level, 0.01 dB. -/
def GnssSlot.rise (s : GnssSlot) (floor : Nat) : Nat :=
  (s.cn0Hist.filter fun h => decide (floor ≤ h)).foldl (fun m h => max m (s.cn0 - h)) 0

/-- Signals of one band on one antenna that rise by more than 3 dB within 1 s (05 R166). -/
def risers (slots : List GnssSlot) (low : Bool) : Nat :=
  (slots.filter fun s => decide (2 ≤ s.state) && (signalLow s.signal == low) && decide (300 < s.rise 0)).length

/-- Power anomaly of a band of an antenna (05 R166): noise above median by more than noise_jump, and risers. -/
def powerAnomaly (g : GnssRec) (slots : List GnssSlot) (low : Bool) (noise : Nat) : Bool :=
  decide (2 * g.noiseJump < noise) && decide (3 ≤ risers slots low)

/-- Names of a signal observation. -/
def findObs (inp : GnssIn) (ant slot : Nat) : Option SignalObs :=
  inp.signals.find? fun o => o.antenna == ant && o.slot == slot

/-- Signals the residual test takes out (05 R166): at most three, while two redundant signals remain after each; whether
the global test still fails with no signal singled out (DEDUCED: log entry 64). -/
def residualExclusions (k : Nat) : Nat → Nat → List ResidualRound → List (Nat × Nat) × Bool
  | _, _, [] => ([], false)
  | 0, _, r :: _ => ([], r.fails)
  | n + 1, redundant, r :: rs =>
    if !r.fails then ([], false)
    else if r.largest ≤ k ∨ redundant < 3 then ([], true)
    else
      let (xs, bad) := residualExclusions k n (redundant - 1) rs
      ((r.antenna, r.slot) :: xs, bad)

/-- Check codes of one signal, in the order of 05 R165 after the base reasons. -/
structure CheckSets where
  power : Bool
  clock : Bool
  cross : Bool
  aoa : Bool
  jump : Bool
  doppler : Bool
  lane : Bool
  residual : Bool
  deriving DecidableEq, Repr

/-- Reason from the checks (05 R165): power, clock, cross-antenna, angle of arrival, C/N0, Doppler, cross-lane,
residual. -/
def CheckSets.reason (c : CheckSets) : Nat :=
  if c.power then 0x07 else if c.clock then 0x04 else if c.cross then 0x02 else if c.aoa then 0x09
  else if c.jump then 0x06 else if c.doppler then 0x05 else if c.lane then 0x03 else if c.residual then 0x01 else 0

/-- Cross-antenna and Doppler persistence, in consecutive epochs (05 R166) (DEDUCED: log entry 64). -/
def GnssSlot.persist (c : GnssCtx) (both : Bool) (o : Option SignalObs) (s : GnssSlot) : GnssSlot :=
  match o with
  | none => { s with crossRun := 0, dopRun := 0 }
  | some o =>
    { s with crossRun := if both && decide ((c.cfg.crossAntLimit : Int) < o.crossAnt.natAbs) then s.crossRun + 1 else 0,
             dopRun := if c.obsOk && decide (c.cfg.dopplerLimit < o.dopplerDev.natAbs) then s.dopRun + 1 else 0 }

/-- Whether a signal's residual exceeds the same signal's in the other lane by more than cross_lane_sig, both of the
previous epoch (05 R166). -/
def crossLaneBad (c : GnssCtx) (g : GnssState) (s : GnssSlot) : Bool :=
  let find := fun (rs : List (Nat × Nat × Int)) => rs.find? fun r => r.1 == s.signal && r.2.1 == s.svid
  match g.peer with
  | some p =>
    if g.peerAge = 0 then
      match find g.residuals, find p.residuals with
      | some o, some r => decide ((c.cfg.crossLaneSig : Int) < (o.2.2.natAbs : Int) - r.2.2.natAbs)
      | _, _ => false
    else false
  | none => false

/-- Reason and wait of a slot after the checks (05 R165, R166): a wait counts consecutive epochs in which every check has
passed (DEDUCED: log entry 64). -/
def GnssSlot.judge (c : GnssCtx) (s : GnssSlot) (base chk : Nat) : GnssSlot :=
  if s.state = 0 then s
  else
    let full := 50 * c.cfg.readmitTime
    if base ≠ 0 then { s with reason := base, wait := if 0 < s.wait then full else 0 }
    else if chk ≠ 0 then { s with reason := chk, wait := full }
    else if 0 < s.wait then { s with reason := if s.wait = 1 then 0 else 0x08, wait := s.wait - 1 }
    else { s with reason := 0 }

/-- A signal used as a range: reason 0 in state 3, SBAS never (05 R138, R165). -/
def GnssSlot.usable (s : GnssSlot) : Bool := decide (s.state = 3) && decide (s.reason = 0) && decide (signalSystem s.signal < 4)

/-- Number of usable signals of a system on an antenna. -/
def usable (slots : List GnssSlot) (sys : Nat) : Nat := (slots.filter fun s => s.usable && (signalSystem s.signal == sys)).length

/-- The only signal of its system carries reason 0x16 and contributes nothing (05 R163). -/
def onlyOfSystem (slots : List GnssSlot) : List GnssSlot :=
  slots.map fun s => if s.usable && decide (usable slots (signalSystem s.signal) = 1) then { s with reason := 0x16 } else s

/-- Unknowns of a solution: four, and one per system beyond the reference (05 R157, R163). -/
def unknowns (slots : List GnssSlot) : Nat :=
  4 + ((([0, 1, 2, 3].map (usable slots)).filter (fun k => decide (2 ≤ k))).length - 1)

/-- Signals usable on an antenna. -/
def usableAll (slots : List GnssSlot) : Nat := (slots.filter GnssSlot.usable).length

/-- Window of an inter-system offset after an epoch (05 R164). -/
def OffsetWindow.step (w : OffsetWindow) (limit persist : Nat) (est bro : Rat) (two : Bool) : OffsetWindow :=
  let n := 50 * persist
  let diffs := ((est - bro, two) :: w.diffs).take n
  let full := decide (diffs.length = n)
  let mean := if n = 0 then 0 else sumQ (diffs.map (·.1)) / (n : Rat)
  let beyond := full && decide ((limit : Rat) < absQ mean)
  let inside := if beyond then 0 else w.insideRun + 1
  let raise := beyond && diffs.all (·.2)
  { diffs := diffs, estimate := est, broadcast := bro, insideRun := inside,
    raised := raise || (w.raised && decide (inside < n)) }

/-- Observations and station position held and not older than rtk_age_max, in frames (05 R157, R159). -/
def GnssState.rtkFresh (c : GnssCtx) (g : GnssState) : Bool :=
  match g.obsAge, g.stationAge with
  | some o, some p => decide (o ≤ 1000 * c.cfg.rtkAgeMax) && decide (p ≤ 1000 * c.cfg.rtkAgeMax)
  | _, _ => false

/-- Held corrections older than rtk_age_max (GN-011). -/
def GnssState.rtkOld (c : GnssCtx) (g : GnssState) : Bool :=
  [g.obsAge, g.stationAge].any fun a => match a with | some n => decide (1000 * c.cfg.rtkAgeMax < n) | none => false

/-- The SBAS satellite in use (05 R158): the one set, or the tracked one with the highest C/N0 that sent type 1. -/
def GnssState.chooseSbas (c : GnssCtx) (g : GnssState) (slots : List GnssSlot) : Nat :=
  let ok := fun prn => g.sbasType1.any (fun x => x.1 == prn) && !g.sbasHold.any (fun x => x.1 == prn)
  let tracked := slots.filter fun s => s.signal == 0x41 && decide (2 ≤ s.state) && ok s.svid
  if c.cfg.sbasPrn ≠ 0 then (if g.sbasHold.any (fun x => x.1 == c.cfg.sbasPrn) then 0 else c.cfg.sbasPrn)
  else if tracked.any (fun s => s.svid == g.sbasPrn) then g.sbasPrn
  else (tracked.foldl (fun (b : Nat × Nat) s => if b.2 < s.cn0 then (s.svid, s.cn0) else b) (0, 0)).1

/-- Conditions of the modes 1 to 4 at an epoch (05 R157). A fixed solution whose common signals fall below five by the
checks of the epoch falls to float in it (05 R168). -/
def modeConditions (c : GnssCtx) (g : GnssState) (slots : List GnssSlot) (inp : GnssIn) : List Bool :=
  let common := (inp.rtkSlots.filter fun i => match slots[i]? with | some s => s.usable | none => false).length
  let alone := decide (unknowns slots ≤ usableAll slots)
  let l1 := (slots.filter fun s => s.usable && s.signal == 0x01).length
  let sbas := c.cfg.solutionModes.testBit 0 && decide (g.sbasPrn ≠ 0) && inp.sbasAll && decide (4 ≤ l1)
  let rtk := c.cfg.solutionModes.testBit 1 && g.rtkFresh c
  let flt := rtk && (decide (5 ≤ common) || (decide (g.pvt.mode = 4) && decide (5 ≤ inp.rtkSlots.length)))
  [alone, sbas, flt, rtk && decide (5 ≤ common) && inp.rtkFixed && decide (c.cfg.ratioMin ≤ inp.rtkRatio)]

/-- The mode of an epoch (05 R157): the best whose conditions hold; a rise waits for ten epochs (DEDUCED: log entry 64). -/
def chooseMode (now : Nat) (conds : List Bool) (runs : List Nat) : Nat :=
  (([4, 3, 2, 1] : List Nat).find? fun m =>
    conds.getD (m - 1) false && (decide (m ≤ now ∧ now ≤ 4) || decide (10 ≤ runs.getD (m - 1) 0))).getD 0

/-- Configured length and direction of a lane's baseline (05 R161). -/
def baseline (g : GnssRec) (l : Lane) : Option (Rat × Rat) :=
  match antennaRec g (antennaNo l 0), antennaRec g (antennaNo l 1) with
  | some p, some q =>
    let d := V3.sub q.position p.position
    some (sqrtQ (d.x * d.x + d.y * d.y + d.z * d.z), atan2Q d.y d.x)
  | _, _ => none

/-- Signals of the heading solution that are usable on both antennas (05 R161, R165). -/
def headingSignals (slots0 slots1 : List GnssSlot) (inp : GnssIn) : List (Nat × Nat) :=
  let on := fun (slots : List GnssSlot) (n : Nat × Nat) => slots.any fun s => s.usable && s.signal == n.1 && s.svid == n.2
  inp.hdgSignals.filter fun n => on slots0 n && on slots1 n

/-- Heading of an epoch (05 R161), from a number of signals in common (DESIGN CHOICE: log entry 65). -/
def solveHeading (c : GnssCtx) (g : GnssState) (inp : GnssIn) (common : Nat) (withheld : Bool) : GnssHeading :=
  match baseline c.cfg c.lane with
  | none => { g.heading with epochS := g.epochS, epochNs := g.epochNs, status := 0, signals := 0 }
  | some (len, dir) =>
    let err := inp.hdgLength - len
    let fixed := decide (5 ≤ common) && decide (c.cfg.ratioMin ≤ inp.hdgRatio) && decide (absQ err ≤ 2 / 100 + len / 1000)
    { epochS := g.epochS, epochNs := g.epochNs,
      status := if withheld || !inp.hdgSolved then 0 else if fixed then 2 else 1,
      signals := common, heading := wrap360 (inp.hdgDirection - dir), pitch := inp.hdgPitch,
      sigmaHeading := inp.hdgSigma, sigmaPitch := inp.pitchSigma, lengthError := (err * 1000).floor }

/-- The epoch is latched at the tick of slot 19 (05 R155). -/
def AntennaState.latch (a : AntennaState) : AntennaState :=
  { a with latched := a.slots, latchedOut := a.leftOut.length, slots := a.slots.map fun s => { s with flags := s.flags % 2 } }

/-- What an epoch leaves in a slot that still tracks its signal. -/
def GnssSlot.carry (live judged : GnssSlot) : GnssSlot :=
  if live.state ≠ 0 ∧ live.signal = judged.signal ∧ live.svid = judged.svid then
    { live with reason := judged.reason, wait := judged.wait, lowRun := judged.lowRun, cn0Hist := judged.cn0Hist,
                crossRun := judged.crossRun, dopRun := judged.dopRun }
  else live

/-- The epoch's measurements are published and its counts kept in the slots (05 R155, R156). -/
def AntennaState.publish (a : AntennaState) (judged shown : List GnssSlot) : AntennaState :=
  { a with slots := a.slots.mapIdx fun i s => match judged[i]? with | some j => s.carry j | none => s
           meas := shown, measOut := a.latchedOut }

/-- The slot-0 slice of the receiver (05 R155 to R168): checks in the order of 05 R166, then mode and heading
(DESIGN CHOICE: log entry 65). -/
def GnssState.epoch (c : GnssCtx) (inp : GnssIn) (g : GnssState) : GnssState × List AlarmOp :=
  let on := fun k => (antennaRec c.cfg (antennaNo c.lane k)).isSome
  let both := on 0 && on 1
  let first := (firstAntenna c.cfg c.lane).getD 0
  let noise := fun (k : Nat) (low : Bool) =>
    if k = 0 then (if low then inp.noiseLow0 else inp.noiseHigh0) else (if low then inp.noiseLow1 else inp.noiseHigh1)
  let pow := fun k low => on k && powerAnomaly c.cfg (g.ant k).latched low (noise k low)
  let quiet := fun k low => on k && decide (2 * c.cfg.noiseJump < noise k low) && !powerAnomaly c.cfg (g.ant k).latched low (noise k low)
  -- clock check (05 R168: not before 3 000 passing epochs)
  let clockOn := decide (3000 ≤ g.fitRun)
  let driftRun := if clockOn && decide (c.cfg.clockDriftLimit < inp.clockDriftDev.natAbs) then g.driftRun + 1 else 0
  let clockBad := clockOn && (decide (c.cfg.clockStepLimit < inp.clockStep.natAbs) || decide (50 ≤ driftRun))
  let subset := decide (5 ≤ inp.clockSubset.length)
  -- per-signal persistence
  let p := fun (k : Nat) => (g.ant k).latched.mapIdx fun i s => s.persist c both (findObs inp k i)
  let p0 := p 0
  let p1 := p 1
  let crossNames := ((p0 ++ p1).filter fun s => decide (5 ≤ s.crossRun)).map fun s => (s.signal, s.svid)
  let aoa := both && decide (4 ≤ inp.aoaCluster.length)
  let sets := fun (resid : List (Nat × Nat)) (k i : Nat) (s : GnssSlot) =>
    CheckSets.mk (pow k (signalLow s.signal)) (clockBad && (!subset || !inp.clockSubset.contains (k, i)))
      (crossNames.contains (s.signal, s.svid)) (aoa && k == first && inp.aoaCluster.contains i)
      (decide (100 * c.cfg.cn0High < s.cn0) || decide (100 * c.cfg.cn0Jump < s.rise (100 * c.cfg.cn0Min)))
      (decide (5 ≤ s.dopRun)) (crossLaneBad c g s) (resid.contains (k, i))
  let judge := fun (reason : Nat → Nat → GnssSlot → Nat) (k : Nat) (slots : List GnssSlot) => slots.mapIdx fun i s =>
    s.judge c (baseReason c g (if signalLow s.signal then (g.ant k).lowOk else (g.ant k).highOk) s) (reason k i s)
  -- signals used before the check of the angle of arrival, and before the residual test
  let pf := if first = 0 then p0 else p1
  let usedAoa := usableAll (onlyOfSystem (judge (fun k i s =>
    ({ sets [] k i s with aoa := false, jump := false, doppler := false, lane := false } : CheckSets).reason) first pf))
  let pre := onlyOfSystem (judge (fun k i s => (sets [] k i s).reason) first pf)
  let (resid, stillBad) := residualExclusions c.cfg.residualK 3 (usableAll pre - unknowns pre) inp.rounds
  let b0 := onlyOfSystem (judge (fun k i s => (sets resid k i s).reason) 0 p0)
  let b1 := onlyOfSystem (judge (fun k i s => (sets resid k i s).reason) 1 p1)
  let bf := if first = 0 then b0 else b1
  let suspect := [0x01, 0x02, 0x03, 0x04, 0x05, 0x06, 0x07, 0x09]
  let excluded := ((b0 ++ b1).filter fun s => decide (s.state ≠ 0) && suspect.contains s.reason).length
  -- withholding (05 R166, R167)
  let withholdNow := (clockBad && !subset) || (aoa && decide (usedAoa < 2 * inp.aoaCluster.length))
  let clearRun := if withholdNow then 0 else g.clearRun + 1
  let withheld := withholdNow || (g.withheld && decide (clearRun < 50 * c.cfg.readmitTime))
  -- mode (05 R157)
  let sbasPrn := g.chooseSbas c bf
  let conds := if (firstAntenna c.cfg c.lane).isSome then modeConditions c { g with sbasPrn := sbasPrn } bf inp else [false, false, false, false]
  let runs := conds.mapIdx fun i ok => if ok then nth 0 g.modeRuns i + 1 else 0
  let mode := if withheld then 5 else chooseMode g.pvt.mode conds runs
  let sols := [1, 2, 3, 4].contains mode
  let rtk := decide (mode = 3 ∨ mode = 4)
  let k3 : Rat := if stillBad then 3 else 1
  let inPos := fun (s : GnssSlot) => sols && s.usable && (decide (mode ≠ 2) || s.signal == 0x01)
  let usedNow := bf.filter inPos
  let sats := (usedNow.map fun s => (signalSystem s.signal, s.svid)).dedup
  -- offsets (05 R163, R164)
  let offs := [1, 2, 3].map fun y =>
    (nth default g.offsets (y - 1)).step c.cfg.offsetLimit c.cfg.offsetPersist (nth 0 inp.offEstimate (y - 1))
      (nth 0 inp.offBroadcast (y - 1)) (decide (2 ≤ usable bf y))
  let passing := !clockBad && !withheld && sols && decide (excluded = 0)
  let fitRun := if decide (3000 ≤ g.fitRun) then g.fitRun else if passing then g.fitRun + 1 else 0
  let corr := if rtk then (match g.obsAge with | some x => min (x / 100) 0xFFFE | none => 0xFFFF) else 0xFFFF
  let pvt : Pvt :=
    { epochS := g.epochS, epochNs := g.epochNs, mode := mode,
      flags := b2n stillBad + 2 * b2n (decide (fitRun < 3000)) + 4 * b2n (decide (0 < excluded)) + 8 * b2n (offs.any (·.raised)),
      latitude := inp.latitude, longitude := inp.longitude, height := inp.height, velocity := inp.velocity,
      sigmaH := k3 * inp.sigmaH, sigmaV := k3 * inp.sigmaV, clockBias := inp.clockBias, clockDrift := inp.clockDrift,
      hdop := inp.hdop, signalsUsed := usedNow.length, satellitesUsed := sats.length, corrAge := corr,
      baseId := if rtk then g.baseId else 0, frameNumber := g.epochFrame, excluded := excluded }
  let hnames := headingSignals b0 b1 inp
  let hdg := solveHeading c g inp hnames.length withheld
  let shown := fun (k : Nat) (slots : List GnssSlot) => slots.mapIdx fun i s =>
    { s with flags := s.flags % 4 + 4 * b2n (k == first && inPos s) +
        8 * b2n (decide (hdg.status ≠ 0) && s.usable && hnames.contains (s.signal, s.svid)) +
        16 * b2n (rtk && k == first && s.usable && inp.rtkSlots.contains i) }
  let first? := g.firstFix || sols
  let firstH := g.firstHeading || decide (hdg.status = 2)
  let noSol := if sols then 0 else g.noSolution + 1
  let noHdg := if hdg.status = 2 then 0 else g.noHeading + 1
  let crossRun := if g.peer.isSome && decide (g.peerAge = 0) && decide (c.cfg.crossLaneLimit < inp.crossLane)
    then g.crossRun + 1 else 0
  let resOut := (inp.signals.filter fun o => o.antenna == first).filterMap fun o =>
    (bf[o.slot]?).map fun s => (s.signal, s.svid, o.residual)
  let g' := { g with
    ant0 := { g.ant0.publish b0 (shown 0 b0) with noiseHigh := inp.noiseHigh0, noiseLow := inp.noiseLow0 },
    ant1 := { g.ant1.publish b1 (shown 1 b1) with noiseHigh := inp.noiseHigh1, noiseLow := inp.noiseLow1 },
    driftRun := driftRun, sbasPrn := sbasPrn, pvt := pvt, heading := hdg, modeRuns := runs, firstFix := first?, noSolution := noSol,
    firstHeading := firstH, noHeading := noHdg, offsets := offs, fitRun := fitRun, withheld := withheld, clearRun := clearRun,
    residuals := resOut, crossRun := crossRun, peerAge := g.peerAge + 1 }
  let bands := [(0, false), (0, true), (1, false), (1, true)]
  let some? := (firstAntenna c.cfg c.lane).isSome
  let ops :=
    [AlarmOp.whileOn (offs.any (·.raised)) ⟨.gn, 31⟩ 0 0, AlarmOp.whileOn (bands.any (fun b => pow b.1 b.2) || aoa) ⟨.gn, 40⟩ 0 0,
     AlarmOp.whileOn (bands.any fun b => quiet b.1 b.2) ⟨.gn, 20⟩ 0 0, AlarmOp.whileOn withheld ⟨.gn, 41⟩ 0 0,
     AlarmOp.whileOn (some? && c.cfg.solutionModes.testBit 0 && !(decide (sbasPrn ≠ 0) && inp.sbasAll)) ⟨.gn, 12⟩ 0 0,
     AlarmOp.whileOn (c.cfg.solutionModes.testBit 1 && g.rtkOld c) ⟨.gn, 11⟩ 0 0,
     AlarmOp.whileOn (decide (100 ≤ crossRun)) ⟨.gn, 42⟩ 0 0]
    ++ (if sols then [.clear ⟨.gn, 10⟩ 0] else []) ++ (if hdg.status = 2 then [.clear ⟨.gn, 15⟩ 0] else [])
  (g', ops)

/-- The receiver at the start of a lane: bias as the record sets it (05 R170), the Attic's ephemeris sets that are not older
than eph_max_age by module time (05 R148) (DEDUCED: log entry 66). -/
def GnssState.starting (g : GnssState) (cfg : GnssRec) (l : Lane) (ephs : List Ephemeris) (now : Nat) : GnssState :=
  let bias := fun k => match antennaRec cfg (antennaNo l k) with | some r => r.bias == 1 | none => false
  { g with ant0 := { g.ant0 with biasOn := bias 0 }, ant1 := { g.ant1 with biasOn := bias 1 },
           ephs := ephs.filter fun e => decide (now ≤ e.acceptedAt + 60 * cfg.ephMaxAge) }

/-- Untracked signals re-scored once per mission cycle, those that no longer qualify left off; how long the count has stayed
above 0 (05 R151). -/
def AntennaState.mission (cfg : GnssRec) (healthy : Nat → Nat → Bool) (a : AntennaState) : AntennaState :=
  let left := (a.leftOut.filter fun x => qualifies cfg (healthy x.signal x.svid) x.signal x.elevation).map fun x =>
    LeftOut.of cfg x.signal x.svid x.cn0 x.elevation x.waiting
  { a with leftOut := left, untrackedRun := if left.isEmpty then 0 else a.untrackedRun + 1 }

/-- Both antennas at the start of a mission cycle. -/
def GnssState.mission (cfg : GnssRec) (g : GnssState) : GnssState :=
  let healthy := fun signal svid => match g.eph signal svid with | some e => e.healthy | none => true
  { g with ant0 := g.ant0.mission cfg healthy, ant1 := g.ant1.mission cfg healthy }

end Sys2Proof.Machine
end

