-- ==== Sys2Proof/Machine/Clock.lean ====
section
/-!
DEFINITION. Clock, steps, timestamp units, time sources and pulse generators of a lane (15 R439 to R451), as functions of
their parts of the lane's state.
-/

namespace Sys2Proof.Machine

/-- One nanosecond in units of 2^-40 ns. -/
def nsUnit : Nat := 2 ^ 40

/-- Module time in ns. -/
def ClockState.total (c : ClockState) : Nat := c.s * 1000000000 + c.ns

/-- The time counter set to a time in ns. -/
def ClockState.at (c : ClockState) (t : Nat) : ClockState := { c with s := t / 1000000000 % 2 ^ 48, ns := t % 1000000000 }

/-! ## INCR, steps and slewing (15 R439, R440) -/

/-- Bounds of INCR: 8 ns less and plus 200 ppm. -/
def incrLow : Nat := 8794333803604
def incrHigh : Nat := 8797852240812

/-- INCR in force: a value outside the bounds is clamped and flagged. -/
def ClockState.setIncr (c : ClockState) (v : Nat) : ClockState :=
  { c with incr := max incrLow (min incrHigh v), incrClamped := c.incrClamped || decide (v < incrLow ∨ incrHigh < v) }

/-- A write of INCR_FRAC_HI loads the three registers together. -/
def ClockState.loadIncr (c : ClockState) (value : Nat) : ClockState :=
  let hi := value % 256
  { c.setIncr ((c.incrNs % 16) * nsUnit + hi * 2 ^ 32 + c.incrLo % 2 ^ 32) with incrHi := hi }

/-- 50 ppm of 8 ns. -/
def slewMax : Int := 439804651

/-- What TICK_SLEW takes of a written value. -/
def slewValue (v : Int) : Int := if v < -slewMax then -slewMax else if slewMax < v then slewMax else v

/-- A difference of the counters taken modulo 1 ms in the shorter direction: (-500 000, 500 000] ns. -/
def wrapMs (d : Int) : Int :=
  let ms : Int := 1000000 * (nsUnit : Int)
  let r := d % ms
  if ms < 2 * r then r - ms else r

/-- TICK_OFFSET as it reads, in ns. -/
def ClockState.tickOffsetNs (c : ClockState) : Int := c.tickOffset / (nsUnit : Int)

/-- Time from one frame tick to the next: the tick counter advances by 1 ms at INCR + TICK_SLEW per period, the time
counter at INCR; at TICK_OFFSET 0 the slewing has ended. -/
def ClockState.frameAdvance (c : ClockState) : Nat × Int :=
  let ms := 1000000 * nsUnit
  if c.tickSlew = 0 ∨ c.tickOffset = 0 then (ms, c.tickOffset)
  else
    let adv := ms * c.incr / ((c.incr : Int) + c.tickSlew).toNat
    let off := c.tickOffset + (ms : Int) - (adv : Int)
    if decide (off < 0) == decide (c.tickOffset < 0) then (adv, off) else (((ms : Int) + c.tickOffset).toNat, 0)

/-- The clock at the next frame tick; what is left to slew out through INCR shrinks by at most 50 ns (15 R449). -/
def ClockState.frame (c : ClockState) : ClockState :=
  let a := c.frameAdvance
  let t := c.total * nsUnit + c.frac + a.1
  let left := if c.slewLeft < -50 then c.slewLeft + 50 else if 50 < c.slewLeft then c.slewLeft - 50 else 0
  { c.at (t / nsUnit) with frac := t % nsUnit, tickAt := t, tickOffset := a.2, slewLeft := left }

/-- The armed step in ns. -/
def ClockState.stepTotal (c : ClockState) : Int := c.stepS * 1000000000 + c.stepNs

/-- A time moved by a step. -/
def stepTime (d : Int) (t : Nat) : Nat := ((t : Int) + d).toNat

/-- An armed step is applied: the time counter alone moves, the ticks slew back (15 R440; 01 R17). -/
def ClockState.applyStep (c : ClockState) : ClockState :=
  let d := c.stepTotal
  let off := wrapMs (c.tickOffset - d * (nsUnit : Int))
  { c.at (stepTime d c.total) with
    tickAt := ((c.tickAt : Int) + d * (nsUnit : Int)).toNat, stepPending := false, stepDone := true, tickOffset := off,
    tickSlew := if off = 0 then 0 else if 0 < off then -slewMax else slewMax }

/-- Slewing ends: TICK_SLEW is 0 in the period in which TICK_OFFSET reaches 0. -/
def ClockState.slewDone (c : ClockState) : ClockState := if c.tickOffset = 0 then { c with tickSlew := 0 } else c

/-- A step of d ns is armed (15 R449): seconds and nanoseconds of one sign. -/
def ClockState.armStep (c : ClockState) (d : Int) : ClockState :=
  { c with stepS := d.tdiv 1000000000, stepNs := d.tmod 1000000000, stepPending := true }

/-- A read of TIME_S_LO (15 R441) (DEDUCED: log entry 86). -/
def ClockState.snapshot (c : ClockState) (frame : Nat) : ClockState :=
  { c with readLo := c.s % 2 ^ 32, snapSHi := c.s / 2 ^ 32 % 2 ^ 16, snapNs := c.ns, snapFrame := frame % 2 ^ 64 }

/-! ## Timestamp units (15 R442) -/

/-- An event at a unit: lost where a capture is held. -/
def StampUnit.capture (u : StampUnit) (t : Nat) : StampUnit :=
  if u.valid then { u with overrun := true } else { u with valid := true, s := t / 1000000000, ns := t % 1000000000 }

/-! ## Time sources (15 R445 to R449) -/

/-- Whether a source is qualified. -/
def SourceState.ok (x : SourceState) : TimeSource → Bool
  | .gnss => x.gnssOk
  | .ptp => x.ptpOk
  | .pulse => x.pulseOk
  | .other => x.otherOk
  | _ => false

/-- Sources in the order of the TIME record; the other lane comes last (15 R446). -/
def sourceOrder (codes : List Nat) : List TimeSource :=
  (codes.filterMap fun k => match k with | 1 => some .gnss | 2 => some .ptp | 3 => some .pulse | _ => none) ++ [.other]

/-- Position of a source in the order. -/
def sourceRank (order : List TimeSource) (t : TimeSource) : Nat := (order.findIdx? fun u => u == t).getD order.length

/-- The first qualified source is used; changes raise TM-004 or TM-001 (15 R446). -/
def SourceState.choose (order : List TimeSource) (x : SourceState) : SourceState × List AlarmOp :=
  match order.find? x.ok with
  | some b =>
    if x.source = b then (x, [])
    else
      let used := order.contains x.source
      ({ x with source := b, noneRun := 0 },
       if used && x.ok x.source then [.raise ⟨.tm, 4⟩ 0 b.code]
       else if used then [.raise ⟨.tm, 1⟩ 0 x.source.code]
       else [.clear ⟨.tm, 1⟩ 0])
  | none =>
    if order.contains x.source then ({ x with source := .none }, [.raise ⟨.tm, 1⟩ 0 x.source.code]) else (x, [])

/-- Growth of the error estimate in ns since the last measurement (15 R448). -/
def SourceState.growth (x : SourceState) : Nat :=
  let slow := if x.quality = .locked then decide (86400000 ≤ x.warmFrames) else x.warm
  x.sinceMeas * (if slow then 1500 else 15000) / 3600000

/-- The error estimate in ns (15 R447, R448; 04 R133): none while UNSET; from the calendar while CALENDAR; growing from the
last measurement once no source is in use. -/
def SourceState.error (x : SourceState) (calSinceSet : Nat) : Option Nat :=
  match x.quality with
  | .unset => none
  | .calendar => some (1000000 + 5000 * calSinceSet)
  | .locked => if x.source = .none then x.estimate.map (· + x.growth) else x.estimate
  | _ => x.estimate.map (· + x.growth)

/-- The estimate of a source in use follows the offset still to be slewed (15 R447): `was` left before, `now` left now. -/
def SourceState.eased (x : SourceState) (was now : Int) : SourceState :=
  if x.quality = .locked ∧ x.source ≠ .none then { x with estimate := x.estimate.map fun e => e - (was.natAbs - now.natAbs) } else x

/-- Time quality while a qualified source is in use (15 R447). -/
def SourceState.lock (order : List TimeSource) (stepping : Bool) (x : SourceState) : SourceState × List AlarmOp :=
  if x.ok x.source && order.contains x.source && !stepping && x.quality != .locked then
    ({ x with quality := .locked, lockedFrames := 0 }, [.clear ⟨.tm, 2⟩ 0, .clear ⟨.tm, 3⟩ 0, .clear ⟨.tm, 13⟩ 0, .clear ⟨.tm, 1⟩ 0])
  else (x, [])

/-- An offset of module time (ahead is positive) is slewed out or stepped (15 R449) (DEDUCED: log entry 83). -/
def ClockState.takeOffset (c : ClockState) (off : Int) : ClockState :=
  if off.natAbs ≤ 1000000 then { c with slewLeft := -off } else c.armStep (-off)

/-- Estimate at a measurement: offset still to be slewed, and what the source adds (15 R447). -/
def SourceState.measured (x : SourceState) (off : Int) (slewLeft : Int) (adds : Nat) : SourceState :=
  { x with estimate := some (slewLeft.natAbs + adds), sinceMeas := 0, lastOffset := off }

/-- The condition of one source over a frame (15 R445): its run, and whether it stays qualified. -/
def sourceRun (cond : Bool) (n : Nat) (ok : Bool) : Nat × Bool := if cond then (min 10000 (n + 1), ok) else (0, false)

/-- Runs of the conditions at a frame tick. -/
def SourceState.runs (x : SourceState) (gnss ptp pulse other : Bool) : SourceState :=
  let g := sourceRun gnss x.gnssRun x.gnssOk
  let p := sourceRun ptp x.ptpRun x.ptpOk
  let u := sourceRun pulse x.pulseRun x.pulseOk
  { x with gnssRun := g.1, gnssOk := g.2, ptpRun := p.1, ptpOk := p.2, pulseRun := u.1, pulseOk := u.2,
           otherOk := x.otherOk && other }

/-- Whether a source has met its condition long enough to qualify. -/
def SourceState.ready (x : SourceState) (other : Bool) : TimeSource → Bool
  | .gnss => x.gnssRun == 10000
  | .ptp => x.ptpRun == 10000
  | .pulse => x.pulseRun == 10000
  | .other => other
  | _ => false

/-- A source marked qualified. -/
def SourceState.qualify (x : SourceState) : TimeSource → SourceState
  | .gnss => { x with gnssOk := true }
  | .ptp => { x with ptpOk := true }
  | .pulse => { x with pulseOk := true }
  | .other => { x with otherOk := true }
  | _ => x

/-- Frames in 24 h. -/
def frames24h : Nat := 86400000

/-- Counts of a frame: time since the last measurement, time LOCKED, warm-up (15 R447, R448). -/
def SourceState.count (x : SourceState) (plate : Int) (order : List TimeSource) : SourceState :=
  let near := (plate - x.warmTemp).natAbs ≤ 50
  let inUse := order.contains x.source
  { x with sinceMeas := x.sinceMeas + 1, noneRun := if inUse then 0 else min 2000 (x.noneRun + 1),
           lockedFrames := if x.quality = .locked then x.lockedFrames + 1 else 0,
           warmFrames := if x.quality = .locked ∧ near then min frames24h (x.warmFrames + 1) else 0,
           warmTemp := if x.quality = .locked ∧ near then x.warmTemp else plate }

/-- HOLDOVER after 2 s without a qualified source (15 R447, R448). -/
def SourceState.holdover (order : List TimeSource) (x : SourceState) : SourceState × List AlarmOp :=
  if x.quality = .locked ∧ order.contains x.source = false ∧ 2000 ≤ x.noneRun then
    ({ x with quality := .holdover, warm := decide (frames24h ≤ x.warmFrames) }, [.raise ⟨.tm, 2⟩ 0 0])
  else (x, [])

/-- FREERUN once the estimate passes 10 µs (15 R447). -/
def SourceState.freerun (x : SourceState) : SourceState × List AlarmOp :=
  match x.error 0 with
  | some e => if x.quality = .holdover ∧ 10000 < e then ({ x with quality := .freerun }, [.clear ⟨.tm, 2⟩ 0, .raise ⟨.tm, 3⟩ 0 0]) else (x, [])
  | none => (x, [])

/-! ## Pulse generators (15 R450, R451) -/

/-- Time of grid edge k. -/
def PulseGen.edgeAt (g : PulseGen) (k : Nat) : Nat := g.actStart + k * g.actPeriod

/-- The first grid edge after a time. -/
def PulseGen.firstAfter (g : PulseGen) (t : Nat) : Nat :=
  if t < g.actStart ∨ g.actPeriod = 0 then 0 else (t - g.actStart) / g.actPeriod + 1

/-- The next whole second after a time. -/
def nextSecond (t : Nat) : Nat := (t / 1000000000 + 1) * 1000000000

/-- Settings put in force at a time: grid, first edge, whether a one-shot comes too late. -/
def PulseGen.load (g : PulseGen) (mode start period width now : Nat) : PulseGen × List AlarmOp :=
  let g : PulseGen := { g with actMode := mode, actStart := if mode = 3 then nextSecond now else start,
                               actPeriod := if mode = 3 then 1000000000 else period, actWidth := width, fired := false, nextK := 0 }
  if mode = 0 then ({ g with running := false }, [])
  else if mode = 1 ∧ start < now + 1000 then ({ g with running := false, missed := true }, [.raise ⟨.tm, 21⟩ 0 0])
  else ({ g with running := true, nextK := if mode = 2 then g.firstAfter (now - 1) else 0 }, [])

/-- The arm bit is written (15 R450, R451): while a pulse is high the new settings wait for its end. -/
def PulseGen.arm (g : PulseGen) (now : Nat) : PulseGen × List AlarmOp :=
  let start := g.startS * 1000000000 + g.startNs
  if g.high then
    ({ g with armed := true, newMode := g.mode, newStart := start, newPeriod := g.period, newWidth := g.width }, [])
  else g.load g.mode start g.period g.width now

/-- An edge falls due (15 R450): omitted while the output is high or too soon after the last fall. -/
def PulseGen.edge (g : PulseGen) : PulseGen × List AlarmOp :=
  if !g.running then (g, [])
  else
    let t := g.edgeAt g.nextK
    let close := match g.lastFall with | some f => decide (t < f + g.actWidth) | none => false
    let g : PulseGen := { g with nextK := g.nextK + 1, fired := true, running := g.actMode != 1 }
    if g.high || close then ({ g with omitted := true, skipped := satInc 16 g.skipped }, [.raise ⟨.tm, 21⟩ 0 0])
    else ({ g with high := true, lastFall := some (t + g.actWidth) }, [])

/-- A pulse has run its full width; settings that wait come into force. -/
def PulseGen.fall (g : PulseGen) (now : Nat) : PulseGen × List AlarmOp :=
  if !g.high then (g, [])
  else
    let g : PulseGen := { g with high := false }
    if g.armed then { g with armed := false }.load g.newMode g.newStart g.newPeriod g.newWidth now else (g, [])

/-- A step of module time from `old` to `new` passes a generator (15 R450). -/
def PulseGen.step (g : PulseGen) (old new : Nat) : PulseGen × List AlarmOp :=
  let g : PulseGen := { g with lastFall := g.lastFall.map (stepTime ((new : Int) - (old : Int))) }
  if !g.running then (g, [])
  else match g.actMode with
    | 1 => if old < g.actStart ∧ g.actStart ≤ new then ({ g with running := false, missed := true }, [.raise ⟨.tm, 21⟩ 0 0]) else (g, [])
    | 2 =>
      let k := g.firstAfter new
      ({ g with nextK := k, skipped := min 65535 (g.skipped + (k - g.nextK)) }, AlarmOp.ifOn (decide (g.nextK < k)) ⟨.tm, 21⟩ 0 0)
    | _ => ({ g with actStart := nextSecond new, nextK := 0 }, [])

end Sys2Proof.Machine
end

