-- ==== Sys2Proof/Machine/Alloc.lean ====
section
/-!
DEFINITION. Thrust allocation (09): the actuators and their regions, availability, the problem of slot 3, the allocation
engine, the result check and setpoints of slot 5, consequence solves and the sector choice.
-/

namespace Sys2Proof.Machine

/-! ## Regions and thrust models (09 R267, R268) -/

/-- Vertices in kN, in the mount frame. -/
def Thru.points (t : Thru) : List V2 := (t.vertices.take t.vertexCount).map fun p => ⟨(p.1 : Rat) / 10, (p.2 : Rat) / 10⟩

/-- Largest vertex distance from the origin. -/
def Thru.tMax (t : Thru) : Rat := (t.points.map fun p => hypotQ p.x p.y).foldl maxQ 0

/-- The positive end of a segment. -/
def Thru.full (t : Thru) : Rat := (t.points.map (·.x)).foldl maxQ 0

/-- t_floor and az_hold_thrust with their defaults (09 R289). -/
def Thru.floor (t : Thru) : Rat := if t.tFloor = 0 then (5 / 100) * t.tMax else t.tFloor
def Thru.hold (t : Thru) : Rat := if t.azHoldThrust = 0 then (2 / 100) * t.tMax else t.azHoldThrust

/-- Whether an actuator is a rudder or a flap. -/
def Thru.surface (t : Thru) : Bool := t.kind == 4 || t.kind == 5

/-- x to the power 3/2 (DESIGN CHOICE: log entry 5). -/
def pow32 (x : Rat) : Rat :=
  if x ≤ 0 then 0
  else
    let n := x.num.natAbs.sqrt
    let d := x.den.sqrt
    if n * n = x.num.natAbs ∧ d * d = x.den then x * ((n : Rat) / (d : Rat)) else Config.pow32Open x

/-- Power coefficient c (09 R265). -/
def Thru.coeff (t : Thru) : Rat := t.pMax / pow32 t.tMax

/-- Thrust at an axis value: the quadratic model, or the linear model with the scale κ (09 R268). -/
def Thru.thrustAt (t : Thru) (kappa u : Rat) : Rat :=
  if t.surface then kappa * t.full * u / t.unitMax
  else if 0 ≤ u then t.kPos * u * u else -(t.kNeg * u * u)

/-- Axis value that gives a thrust (09 R272, R285). -/
def Thru.unitFor (t : Thru) (kappa f : Rat) : Rat :=
  if t.surface then (if kappa = 0 then 0 else t.unitMax * f / (kappa * t.full))
  else if 0 ≤ f then sqrtQ (f / t.kPos) else -(sqrtQ (-f / t.kNeg))

/-- Mount angle in degrees. -/
def Thru.mount (t : Thru) : Rat := (t.mountAngle : Rat) / 100

/-- Force in the body frame (09 R265). -/
def Thru.toBodyForce (t : Thru) (f : V2) : V2 := toNorthEast t.mount f

/-- The two columns of B of an actuator (09 R266). -/
def Thru.columns (t : Thru) : V3 × V3 :=
  let c := cosQ t.mount
  let s := sinQ t.mount
  (⟨c, s, t.position.x * s - t.position.y * c⟩, ⟨-s, c, t.position.x * c + t.position.y * s⟩)

/-! ## Forbidden sectors and arcs (09 R274, R525) -/

/-- The sectors of an actuator: start and width in degrees. -/
def Thru.sectorList (t : Thru) : List (Rat × Rat) :=
  [0, 1].filterMap fun k =>
    let s := nth 0xFFFF t.sectors (2 * k)
    let e := nth 0xFFFF t.sectors (2 * k + 1)
    if s = 0xFFFF ∨ e = 0xFFFF then none else some ((s : Rat) / 100, wrap360 (((e : Rat) - (s : Rat)) / 100))

/-- Whether a direction lies in an arc given as start and width. -/
def inArc (a : Rat × Rat) (dir : Rat) : Bool := decide (wrap360 (dir - a.1) ≤ a.2)

/-- Whether a direction lies in a sector [start, end). -/
def inSector (a : Rat × Rat) (dir : Rat) : Bool := decide (wrap360 (dir - a.1) < a.2)

/-- Angular margin of a direction in an arc to the nearer end. -/
def arcMargin (a : Rat × Rat) (dir : Rat) : Rat := let p := wrap360 (dir - a.1); minQ p (a.2 - p)

/-- Angular distance of a direction outside an arc to its nearer end. -/
def arcGap (a : Rat × Rat) (dir : Rat) : Rat :=
  if inArc a dir then 0 else minQ (absQ (wrap180 (dir - a.1))) (absQ (wrap180 (dir - (a.1 + a.2))))

/-- Insert by start direction. -/
def insertArc (a : Rat × Rat) : List (Rat × Rat) → List (Rat × Rat)
  | [] => [a]
  | b :: bs => if a.1 < b.1 then a :: b :: bs else b :: insertArc a bs

/-- Candidate arcs numbered by their start direction (09 R274). -/
def Thru.candidates (t : Thru) : List (Rat × Rat) :=
  let run := fun (a w : Rat) =>
    if w ≤ 0 then [] else if w ≤ 180 then [(wrap360 a, w)] else [(wrap360 a, (180 : Rat)), (wrap360 (a + w - 180), 180)]
  let ss := t.sectorList
  let arcs := match ss with
    | [] => []
    | [s] => run (s.1 + s.2) (360 - s.2)
    | s :: r :: _ => run (s.1 + s.2) (wrap360 (r.1 - (s.1 + s.2))) ++ run (r.1 + r.2) (wrap360 (s.1 - (r.1 + r.2)))
  arcs.foldl (fun acc a => insertArc a acc) []

/-- The candidate that contains a direction with the largest margin. -/
def bestArc (cs : List (Rat × Rat)) (dir : Rat) : Option Nat :=
  (cs.zipIdx.foldl (fun (best : Option (Nat × Rat)) p =>
    if inArc p.1 dir then
      match best with
      | some b => if b.2 < arcMargin p.1 dir then some (p.2, arcMargin p.1 dir) else best
      | none => some (p.2, arcMargin p.1 dir)
    else best) none).map (·.1)

/-- The candidate with an end nearest to a direction. -/
def nearestArc (cs : List (Rat × Rat)) (dir : Rat) : Option Nat :=
  (cs.zipIdx.foldl (fun (best : Option (Nat × Rat)) p =>
    match best with
    | some b => if arcGap p.1 dir < b.2 then some (p.2, arcGap p.1 dir) else best
    | none => some (p.2, arcGap p.1 dir)) none).map (·.1)

/-- Turn direction from a direction to the centre of an arc: the one that crosses no sector, out of a sector by the
arc's nearer end; 0 where both ways cross one (DEDUCED: log entry 76). -/
def turnWay (sectors : List (Rat × Rat)) (arc : Rat × Rat) (dir : Rat) : Int :=
  let centre := arc.1 + arc.2 / 2
  let up := wrap360 (centre - dir)
  let crosses := fun (from_ w : Rat) => sectors.any fun s => decide (wrap360 (s.1 - from_) < w)
  if sectors.any fun s => inSector s dir then
    (if absQ (wrap180 (dir - arc.1)) ≤ absQ (wrap180 (dir - (arc.1 + arc.2))) then 1 else -1)
  else if !crosses dir up then 1
  else if !crosses centre (360 - up) then -1
  else 0

/-! ## Inputs -/

/-- What the allocation slices read. -/
structure AllocCtx where
  thru : List Thru
  aloc : Aloc
  demand : V3
  frame : Nat
  timeS : Nat
  timeNs : Nat
  /-- Per actuator: cause 1 (axes in SAFE), cause 2 (drive). -/
  safe : List Bool
  notReady : List Bool
  /-- Per discrete input: on; per analog input: fraction of full range, none where invalid. -/
  discrete : List Bool
  analog : List (Option Rat)
  /-- Per actuator: valid feedback of the thrust axis and of the angle axis (degrees). -/
  thrustFb : List (Option Rat)
  angleFb : List (Option Rat)
  active : Bool
  /-- Actuators that may take part: all, or those the partner has available in a module not in command (02 R74). -/
  present : Nat
  deriving DecidableEq, Repr

/-- The THRU entry of an actuator. -/
def AllocCtx.rec? (c : AllocCtx) (i : Nat) : Option Thru := c.thru.find? fun t => t.actuator == i

/-- Actuator i. -/
def AllocState.act (s : AllocState) (i : Nat) : Act := nth default s.acts i

/-- Actuator i changed. -/
def AllocState.modAct (s : AllocState) (i : Nat) (f : Act → Act) : AllocState := { s with acts := modNth s.acts i f }

/-- Scale κ of a rudder or flap: measured thrust of the coupled actuator over its largest (09 R268). -/
def kappaOf (c : AllocCtx) (s : AllocState) (t : Thru) : Rat :=
  if t.surface then
    match c.rec? t.coupledTo with
    | some m =>
      let a := s.act m.actuator
      let thrust := if m.kind = 1 then hypotQ a.measured.x a.measured.y else a.measured.x
      if m.tMax = 0 then 0 else clampQ 0 1 (thrust / m.tMax)
    | none => 0
  else 1

/-! ## Measured force (09 R269; 07 R209) -/

/-- The axis value used: feedback; without it the commanded value, and 0 once the actuator has left allocation (07 R209)
(DEDUCED: log entry 76). -/
def axisValue (fb : Option Rat) (cmd : Rat) (gone : Bool) : Rat :=
  match fb with | some v => v | none => if gone then 0 else cmd

/-- Measured force of an actuator from feedback latched at microframe 0 of slot 0. -/
def AllocState.measureAct (c : AllocCtx) (s : AllocState) (t : Thru) : AllocState :=
  let a := s.act t.actuator
  let tf := nth none c.thrustFb t.actuator
  let af := nth none c.angleFb t.actuator
  let gone := decide (a.mode = .unavailable)
  let az := axisValue af a.angle false
  -- an azimuth thruster without valid azimuth feedback delivers nothing once it has left allocation
  let u := if t.kind = 1 ∧ af = none ∧ gone = true then 0 else axisValue tf a.thrust gone
  let f : V2 :=
    if t.surface then ⟨t.thrustAt (kappaOf c s t) (axisValue af a.angle gone), 0⟩
    else if t.kind = 1 then let m := t.thrustAt 1 (maxQ 0 u); ⟨m * cosQ az, m * sinQ az⟩
    else ⟨t.thrustAt 1 u, 0⟩
  s.modAct t.actuator fun a => { a with measured := f, azimuth := wrap360 az }

/-- Measured forces of every configured actuator: the coupled ones after those they depend on. -/
def AllocState.measure (c : AllocCtx) (s : AllocState) : AllocState :=
  let s := (c.thru.filter fun t => !t.surface).foldl (fun s t => s.measureAct c t) s
  (c.thru.filter fun t => t.surface).foldl (fun s t => s.measureAct c t) s

/-- Force and moment the actuators deliver, body frame (07 R209). -/
def AllocState.delivered (c : AllocCtx) (s : AllocState) : V3 :=
  c.thru.foldl (fun acc t =>
    let a := s.act t.actuator
    let (ca, cb) := t.columns
    V3.add acc (V3.add (V3.scale a.measured.x ca) (V3.scale a.measured.y cb))) V3.zero

/-- Magnitude of a measured force. -/
def Act.thrustNow (a : Act) : Rat := hypotQ a.measured.x a.measured.y

/-! ## Availability (09 R270, R271) -/

/-- Whether an actuator is IN or RAMP. -/
def Act.working (a : Act) : Bool := decide (a.mode = .allocated ∨ a.mode = .ramp)

/-- The cause that holds now, 0 none (09 R270, causes 1 to 4). -/
def causeNow (c : AllocCtx) (s : AllocState) (t : Thru) : Nat :=
  let grp := c.aloc.groups.find? fun g => g.group == t.powerGroup
  if nth false c.safe t.actuator then 1
  else if nth false c.notReady t.actuator then 2
  else if (match grp with | some g => g.breakerDi != 0xFF && !nth false c.discrete g.breakerDi | none => false) then 3
  else if t.surface && !(s.act t.coupledTo).working then 4
  else 0

/-- Arc of a kind 1 actuator taken from its measured azimuth (09 R525); the transit out of a sector is one of an actuator IN,
any other waits for it without an arc. -/
def Act.takeArc (t : Thru) (a : Act) : Act × List AlarmOp :=
  let cs := t.candidates
  if t.kind ≠ 1 ∨ cs.isEmpty then (a, [])
  else
    let dir := wrap360 (a.azimuth + t.mount)
    let keep := match a.arc with | some k => (match cs[k]? with | some arc => inArc arc dir | none => false) | none => false
    if keep then (a, [])
    else match bestArc cs dir with
      | some k => ({ a with arc := some k }, [])
      | none =>
        match (if a.mode = .allocated then nearestArc cs dir else none) with
        | some k =>
          ({ a with mode := .ramp, goal := some k, transit := 0, turn := turnWay t.sectorList (nth (0, 0) cs k) dir },
            [.raise ⟨.al, 11⟩ t.actuator 0])
        | none => (a, [])

/-- One availability decision of slot 3 (09 R270), with the transit steps of R275 (DEDUCED: log entry 76). -/
def AllocState.availability (c : AllocCtx) (s : AllocState) (t : Thru) : AllocState × List AlarmOp :=
  let i := t.actuator
  let a := s.act i
  if a.mode = .disabled then (s, [])
  else
    let cause := causeNow c s t
    let (a, ops) :=
      if a.mode = .unavailable then
        ({ a with cause := if cause ≠ 0 then cause else a.cause, clearRun := if cause = 0 then a.clearRun + 1 else 0 }, [])
      else if cause ≠ 0 ∧ a.mode ≠ .turn then
        ({ a with mode := .unavailable, cause := cause, clearRun := 0, goal := none, transit := 0, turn := 0 }, [])
      else
        let (a, ops) := if a.arc = none ∧ a.goal = none then a.takeArc t else (a, [])
        let a := if a.mode = .ramp ∧ a.thrustNow ≤ t.hold then { a with mode := .turn } else a
        let dir := wrap360 (a.azimuth + t.mount)
        let arrived : Bool := match a.goal with
          | some k => (match t.candidates[k]? with | some arc => inArc arc dir | none => false)
          | none => false
        (if a.mode = .turn ∧ arrived = true then
          { a with mode := if a.exclusion then .excluded else .allocated, arc := a.goal, goal := none, transit := 0, turn := 0,
                   f0 := ⟨0, 0⟩ }
        else a, ops)
    (s.modAct i fun _ => a,
      ops ++ [AlarmOp.whileOn (decide (a.mode = .unavailable)) ⟨.al, 1⟩ i a.cause,
              AlarmOp.whileOn a.exclusion ⟨.al, 2⟩ i 0] ++
        (if a.mode = .ramp ∨ a.mode = .turn then [] else [.clear ⟨.al, 11⟩ i]) ++
        (if a.mode = .unavailable then [] else [.clear ⟨.al, 12⟩ i]))

/-- Reason that refuses an exclusion: the last thruster IN or RAMP (09 R271). -/
def excludeRefused (c : AllocCtx) (s : AllocState) (i : Nat) : Bool :=
  (s.act i).working && !(c.thru.any fun t => !t.surface && t.actuator != i && (s.act t.actuator).working)

/-- alloc.exclude (09 R271) (DEDUCED: log entry 76). -/
def AllocState.exclude (c : AllocCtx) (s : AllocState) (i : Nat) (on : Bool) : AllocState × List AlarmOp :=
  let a := s.act i
  let cause := match c.rec? i with | some t => causeNow c s t | none => 0
  let a' : Act :=
    if on then
      { a with exclusion := true, mode := if a.working then .excluded else a.mode,
               goal := if a.working then none else a.goal, transit := if a.working then 0 else a.transit }
    else if a.mode = .excluded then
      (if cause = 0 then { a with exclusion := false, mode := .allocated }
       else { a with exclusion := false, mode := .unavailable, cause := cause, clearRun := 0 })
    else { a with exclusion := false }
  (s.modAct i fun _ => a', [if on then .hold ⟨.al, 2⟩ i 0 else .clear ⟨.al, 2⟩ i])

/-- Re-entry after 50 motion cycles with every cause clear (09 R270, R525). -/
def AllocState.reenter (s : AllocState) (t : Thru) : AllocState × List AlarmOp :=
  let a := s.act t.actuator
  if a.mode = .unavailable ∧ 50 ≤ a.clearRun then
    let a : Act := { a with mode := if a.exclusion then .excluded else .allocated, cause := 0, clearRun := 0, f0 := a.measured }
    let (a, ops) := if a.exclusion then (a, []) else a.takeArc t
    (s.modAct t.actuator fun _ => a, [.clear ⟨.al, 1⟩ t.actuator, .clear ⟨.al, 12⟩ t.actuator] ++ ops)
  else (s, [])

/-- A transit longer than transit_timeout (09 R275). -/
def AllocState.transitTimeout (limitS i : Nat) (s : AllocState) : AllocState × List AlarmOp :=
  let a := s.act i
  if (a.mode = .ramp ∨ a.mode = .turn) ∧ 1000 * limitS < a.transit then
    (s.modAct i fun a => { a with mode := .unavailable, cause := 5, clearRun := 0, goal := none, transit := 0, turn := 0 },
      [.raise ⟨.al, 12⟩ i 0, .clear ⟨.al, 11⟩ i, .hold ⟨.al, 1⟩ i 5])
  else (s, [])

/-- Frames in transit (09 R275: by the frame tick). -/
def AllocState.age (s : AllocState) : AllocState :=
  { s with acts := s.acts.map fun a => if a.mode = .ramp ∨ a.mode = .turn then { a with transit := a.transit + 1 } else a }

/-- Actuator states at lane start, from the THRU entries (09 R270, R271, R289). -/
def initActs (thru : List Thru) : List Act :=
  (List.range 24).map fun i =>
    match thru.find? fun t => t.actuator == i with
    | some t =>
      { (default : Act) with
        exclusion := t.flags.testBit 1,
        mode := if !t.flags.testBit 0 then .disabled else if t.flags.testBit 1 then .excluded else .allocated }
    | none => default

/-! ## Rows (09 R267, R272, R274, R277) -/

/-- An inactive row (09 R277). -/
def Row.off : Row := ⟨0, 0, 1⟩

/-- A row scaled to coefficients of norm 1. -/
def Row.scaled (r : Row) : Row :=
  let n := hypotQ r.a r.b
  if n = 0 then Row.off else ⟨r.a / n, r.b / n, r.h / n⟩

/-- Left side of a row at a force. -/
def Row.at (r : Row) (f : V2) : Rat := r.a * f.x + r.b * f.y

/-- Polygon rows 0 to 15, edges counter to the vertex order's inside; a segment has its two ends (09 R267). -/
def Thru.polygonRows (t : Thru) (kappa : Rat) : List Row :=
  let ps := t.points.map fun p => (⟨kappa * p.x, kappa * p.y⟩ : V2)
  let rows := if t.kind = 1 then
      ps.zipIdx.map fun p =>
        let q := nth default ps ((p.2 + 1) % ps.length)
        let nx := q.y - p.1.y
        let ny := -(q.x - p.1.x)
        (⟨nx, ny, nx * p.1.x + ny * p.1.y⟩ : Row)
    else [⟨1, 0, (ps.map (·.x)).foldl maxQ 0⟩, ⟨-1, 0, (ps.map fun p => -p.x).foldl maxQ 0⟩]
  rows ++ List.replicate (16 - rows.length) Row.off

/-- Wedge rows 16 and 17 (09 R274). -/
def Thru.wedgeRows (t : Thru) (a : Act) : List Row :=
  match a.arc with
  | some k =>
    match t.candidates[k]? with
    | some arc =>
      let s := arc.1 - t.mount
      let e := arc.1 + arc.2 - t.mount
      [⟨sinQ s, -(cosQ s), 0⟩, ⟨-(sinQ e), cosQ e, 0⟩]
    | none => [Row.off, Row.off]
  | none => [Row.off, Row.off]

/-- The direction e of an actuator (09 R272). -/
def Thru.direction (t : Thru) (a : Act) : V2 :=
  if t.kind = 1 then
    let t0 := hypotQ a.f0.x a.f0.y
    if t.floor ≤ t0 ∧ t0 ≠ 0 then ⟨a.f0.x / t0, a.f0.y / t0⟩ else ⟨cosQ a.azimuth, sinQ a.azimuth⟩
  else ⟨1, 0⟩

/-- Rate rows 18 to 21 (09 R272, R275). -/
def Thru.rateRows (t : Thru) (kappa : Rat) (a : Act) : List Row :=
  let e := t.direction a
  let t0 := if t.kind = 1 then hypotQ a.f0.x a.f0.y else a.f0.x
  let u0 := t.unitFor kappa t0
  let du := t.unitRate * (2 / 100)
  let T := t.thrustAt kappa
  let omega := maxQ t0 t.floor * t.azRate * (2 / 100) * Config.pi / 180
  let side := fun (w : Rat) => if t.kind = 1 then [(⟨-e.y, e.x, w⟩ : Row), ⟨e.y, -e.x, w⟩] else [Row.off, Row.off]
  if a.mode = .excluded then
    let ux := if 0 ≤ u0 then maxQ (u0 - du) 0 else minQ (u0 + du) 0
    [⟨e.x, e.y, T ux⟩, ⟨-e.x, -e.y, -(T ux)⟩] ++ side 0
  else
    let up := if a.mode = .ramp then maxQ (T (maxQ (u0 - du) 0)) 0 else T (u0 + du)
    let lo := if t.kind = 1 then T (maxQ (u0 - du) 0) else T (u0 - du)
    [⟨e.x, e.y, up⟩, ⟨-e.x, -e.y, -lo⟩] ++ side omega

/-- Whether an actuator takes part in the problem (09 R270). -/
def Thru.inProblem (t : Thru) (a : Act) : Bool :=
  a.working || (decide (a.mode = .excluded) && decide (t.hold < a.thrustNow))

/-! ## Slot 3: the problem (09 R265 to R278) -/

/-- Limit of a power group and its source: 0 fixed, 1 analog, 2 analog invalid (09 R273). -/
def groupLimit (c : AllocCtx) (g : PowerGroup) : Rat × Nat :=
  if g.source = 1 then
    match nth none c.analog g.analogIn with
    | some v => (v * g.aiFullKw - g.reserveKw, 1)
    | none => (g.limitKw - g.reserveKw, 2)
  else (g.limitKw - g.reserveKw, 0)

/-- The setup of slot 3: membership, anchors, effective thrusts, directions, rows, inverse Hessian. -/
def AllocState.makeSetup (c : AllocCtx) (s : AllocState) : Setup :=
  let per := (List.range 24).map fun i =>
    let a := s.act i
    match c.rec? i with
    | some t =>
      if t.inProblem a && c.present.testBit i then
        let k := kappaOf c s t
        let tb := maxQ (hypotQ a.f0.x a.f0.y) t.floor
        let hd := 2 * t.weight * t.coeff / sqrtQ tb + c.aloc.smoothW
        (true, a.f0, tb, t.direction a, t.polygonRows k ++ t.wedgeRows a ++ t.rateRows k a,
          [1 / hd, if t.kind = 1 then 1 / hd else 0])
      else (false, a.f0, 0, ⟨1, 0⟩, List.replicate 22 Row.off, [0, 0])
    | none => (false, ⟨0, 0⟩, 0, ⟨1, 0⟩, List.replicate 22 Row.off, [0, 0])
  { inProb := per.map (·.1), fixed := (List.range 24).map fun i => decide ((s.act i).mode = .excluded), f0 := per.map (·.2.1), tbar := per.map (·.2.2.1), dir := per.map (·.2.2.2.1),
    rows := per.map (·.2.2.2.2.1), hinv := (per.map (·.2.2.2.2.2)).flatten, demand := c.demand, frame := c.frame,
    epochS := c.timeS, epochNs := c.timeNs }

/-- B, row by row (09 R266). -/
def matrixB (c : AllocCtx) : List (List Rat) :=
  let cols := (List.range 24).map fun i =>
    match c.rec? i with | some t => t.columns | none => (V3.zero, V3.zero)
  [(cols.map fun p => [p.1.x, p.2.x]).flatten, (cols.map fun p => [p.1.y, p.2.y]).flatten,
   (cols.map fun p => [p.1.z, p.2.z]).flatten]

/-- A value as an f32 field holds it (DESIGN CHOICE: log entry 8). -/
def f32Q (q : Rat) : Rat := (f32Round q).getD (Config.roundOpen q)

/-- The power row of a group (09 R273), scaled to norm 1. -/
def powerRow (c : AllocCtx) (st : Setup) (mask : List Bool) (limit : Rat) (g : Nat) : PowRow :=
  let mine := fun (i : Nat) => match c.rec? i with
    | some t => t.powerGroup == g && nth false mask i
    | none => false
  let co := fun (i : Nat) => match c.rec? i with | some t => t.coeff | none => 0
  let raw := ((List.range 24).map fun i =>
    if mine i then
      let k := (3 / 2) * co i * sqrtQ (nth 0 st.tbar i)
      let e := nth default st.dir i
      [k * e.x, k * e.y]
    else [0, 0]).flatten
  let h := limit + (1 / 2) * sumQ ((List.range 24).map fun i => if mine i then co i * pow32 (nth 0 st.tbar i) else 0)
  let n2 := sumQ (raw.map fun x => x * x)
  if n2 = 0 then ⟨List.replicate 48 0, 1⟩
  else let n := sqrtQ n2; ⟨raw.map (· / n), h / n⟩

/-- Whether a breaker input that is configured is off (09 R273). -/
def breakerOff (c : AllocCtx) (g : PowerGroup) : Bool := g.breakerDi != 0xFF && !nth false c.discrete g.breakerDi

/-- The dual step 1 / (‖G‖₁ ‖G‖∞ max hinv) (09 R278). -/
def dualStep (rows : List (List Row)) (power : List PowRow) (hinv : List Rat) : Rat :=
  let rowSums := (rows.flatten.map fun r => absQ r.a + absQ r.b) ++ power.map fun p => sumQ (p.c.map absQ)
  let colSums := (List.range 48).map fun j =>
    let rs := nth [] rows (j / 2)
    sumQ (rs.map fun r => absQ (if j % 2 = 0 then r.a else r.b)) + sumQ (power.map fun p => absQ (nth 0 p.c j))
  let k := (rowSums.foldl maxQ 0) * (colSums.foldl maxQ 0) * (hinv.foldl maxQ 0)
  if k = 0 then 0 else 1 / k

/-- Write a problem block (09 R277): masked actuators, limits and demand given; rate rows in force or not. -/
def makeProblem (c : AllocCtx) (st : Setup) (mask : List Bool) (limits : List Rat) (rates : Bool) (d : V3)
    (seq store flags : Nat) : Problem :=
  let w := c.aloc.slackW
  let b := matrixB c
  let hinv := (List.range 48).map fun j => if nth false mask (j / 2) then nth 0 st.hinv j else 0
  let rows := st.rows.mapIdx fun i rs =>
    if nth false mask i then rs.mapIdx fun k r => if 18 ≤ k ∧ !rates then Row.off else r.scaled
    else List.replicate 22 Row.off
  let power := (List.range 6).map fun g =>
    match c.aloc.groups.find? fun p => p.group == g with
    | some p => if breakerOff c p then ⟨List.replicate 48 0, 1⟩ else powerRow c st mask (nth 0 limits g) g
    | none => ⟨List.replicate 48 0, 1⟩
  let wd : List Rat := [w.x * d.x, w.y * d.y, w.z * d.z]
  let f0 := (st.f0.map fun f => [f.x, f.y]).flatten
  let q := (List.range 48).map fun j =>
    -(c.aloc.smoothW * nth 0 f0 j) - sumQ ((List.range 3).map fun r => nth 0 (nth [] b r) j * nth 0 wd r)
  let bhb := b.map fun r1 => b.map fun r2 => sumQ ((List.range 48).map fun j => nth 0 r1 j * nth 0 hinv j * nth 0 r2 j)
  let s := invM 3 (addM (diagM [1 / w.x, 1 / w.y, 1 / w.z]) bhb)
  let r3 := fun (v : V3) => (V3.map f32Q v)
  { seq := seq, store := store, flags := flags, frame := st.frame, step := f32Q (dualStep rows power hinv),
    hinv := hinv.map f32Q, q := q.map f32Q, b := b.map (·.map f32Q), s := s.map (·.map f32Q), d := r3 d, w := r3 w,
    rows := rows.map (·.map fun r => ⟨f32Q r.a, f32Q r.b, f32Q r.h⟩),
    power := power.map fun p => ⟨p.c.map f32Q, f32Q p.h⟩, crcOk := true }

/-- Phase of an actuator for the reset rule (09 R278): state, arc, goal. -/
def Act.phase (a : Act) : Nat × Nat × Nat := (a.mode.code, a.arc.getD 0xFF, a.goal.getD 0xFF)

/-- Reset bits of a store: actuators whose state, arc or transit phase changed, groups whose membership changed. -/
def AllocState.resetBits (s : AllocState) (c : AllocCtx) (mask : List Bool) (store : Nat) :
    Nat × Nat × List (Nat × Nat × Nat) × List (List Bool) :=
  let now := (List.range 24).map fun i => (s.act i).phase
  let was := nth [] s.posedActs store
  let am := sumN ((List.range 24).map fun i => if was[i]? = some (nth default now i) then 0 else 2 ^ i)
  let mem := (List.range 6).map fun g => (List.range 24).map fun i =>
    (match c.rec? i with | some t => t.powerGroup == g | none => false) && nth false mask i
  let wasP := nth [] s.posedPow store
  let pm := sumN ((List.range 6).map fun g => if wasP[g]? = some (nth [] mem g) then 0 else 2 ^ g)
  (am, pm, now, mem)

/-- Allocation problem setup, slot 3 (09 R265 to R278). -/
def AllocState.pose (c : AllocCtx) (s : AllocState) : AllocState × List AlarmOp :=
  let order := (c.thru.filter fun t => !t.surface) ++ (c.thru.filter fun t => t.surface)
  let (s, ops) := order.foldl (fun (p : AllocState × List AlarmOp) t =>
    let (s, o) := p.1.availability c t
    (s, p.2 ++ o)) (s, [])
  let st := s.makeSetup c
  let lims : List (Rat × Nat) := (List.range 6).map fun g => match c.aloc.groups.find? fun p => p.group == g with
    | some p => groupLimit c p
    | none => (0, 0)
  let ops := ops ++ c.aloc.groups.map fun p => AlarmOp.whileOn ((nth (0, 0) lims p.group).2 == 2) ⟨.al, 30⟩ p.group 0
  let s := { s with setup := st, limits := lims.map Prod.fst, limitSource := lims.map Prod.snd }
  if st.inProb.any id then
    let (am, pm, acts, mem) := s.resetBits c st.inProb 0
    let seq := (s.seq + 1) % 2 ^ 32
    let flags := if s.resetMain then 1 else 0
    ({ s with seq := seq, mainSeq := some seq, resetMain := false,
              problem := makeProblem c st st.inProb s.limits true c.demand seq 0 flags,
              posedActs := s.posedActs.set 0 acts, posedPow := s.posedPow.set 0 mem,
              eng := { s.eng with resetAct := s.eng.resetAct ||| am, resetPow := s.eng.resetPow ||| pm } },
      ops ++ [AlarmOp.clear ⟨.al, 40⟩ 0])
  else ({ s with mainSeq := none }, ops ++ [AlarmOp.hold ⟨.al, 40⟩ 0 0])

/-- Consequence problem of a failure group, slot 10 (08 R257; 09 R287). -/
def AllocState.poseGroup (c : AllocCtx) (g : FailGroup) (d : V3) (s : AllocState) : AllocState :=
  let mask := s.setup.inProb.mapIdx fun i b => b && !g.actuators.testBit i
  let lims := s.limits.mapIdx fun k l => if g.powerGroups.testBit k then l * (g.powerShare : Rat) / 100 else l
  let (am, pm, acts, mem) := s.resetBits c mask (g.group + 1)
  let seq := (s.seq + 1) % 2 ^ 32
  { s with seq := seq, consSeq := some (g.group, seq), consDemand := d,
           problem := makeProblem c s.setup mask lims false d seq (g.group + 1) 0,
           posedActs := s.posedActs.set (g.group + 1) acts, posedPow := s.posedPow.set (g.group + 1) mem,
           eng := { s.eng with resetAct := s.eng.resetAct ||| am, resetPow := s.eng.resetPow ||| pm } }

/-! ## The engine (09 R278 to R281) -/

/-- Store index of a store number: 0x3F is the test store. -/
def storeIndex (n : Nat) : Nat := if n = 0x3F then 41 else n

/-- A store as 534 values. -/
def storeDuals (l : List Rat) : List Rat := l ++ List.replicate (534 - l.length) 0

/-- A write to ENG_START (09 R278): refused while a run is in progress, else the block and its duals are loaded. -/
def Engine.start (e : Engine) (p : Problem) : Engine :=
  if e.run.isSome then { e with refused := true }
  else
    let duals := storeDuals (nth [] e.stores (storeIndex p.store))
    let duals := duals.mapIdx fun r v =>
      if p.flags.testBit 0 then 0
      else if r < 528 then (if e.resetAct.testBit (r / 22) then 0 else v)
      else (if e.resetPow.testBit (r - 528) then 0 else v)
    { e with state := 1, ready := false, resetAct := 0, resetPow := 0, run := some (p, duals) }

/-- Multiply-accumulate chain in f32, in index order. -/
def macs (acc : Rat) : List (Rat × Rat) → Option Rat
  | [] => some acc
  | (a, b) :: xs => (f32Round (acc + a * b)).bind fun r => macs r xs

/-- G times a vector: 528 actuator rows, then 6 power rows. -/
def mulG (p : Problem) (x : List Rat) : Option (List Rat) := do
  let rs ← (p.rows.zipIdx.map fun q => q.1.map fun r => (r, q.2)).flatten.mapM fun q =>
    macs 0 [(q.1.a, nth 0 x (2 * q.2)), (q.1.b, nth 0 x (2 * q.2 + 1))]
  let ps ← p.power.mapM fun q => macs 0 (q.c.zip x)
  pure (rs ++ ps)

/-- Right-hand sides. -/
def Problem.rhs (p : Problem) : List Rat := (p.rows.flatten.map (·.h)) ++ p.power.map (·.h)

/-- Transpose of G times a vector. -/
def mulGT (p : Problem) (v : List Rat) : Option (List Rat) :=
  (List.range 48).mapM fun j =>
    let i := j / 2
    let own := (nth [] p.rows i).zipIdx.map fun q => ((if j % 2 = 0 then q.1.a else q.1.b), nth 0 v (22 * i + q.2))
    let pow := p.power.zipIdx.map fun q => (nth 0 q.1.c j, nth 0 v (528 + q.2))
    macs 0 (own ++ pow)

/-- Element-wise f32 operation on two vectors. -/
def zipF (f : Rat → Rat → Rat) (a b : List Rat) : Option (List Rat) := (a.zip b).mapM fun q => f32Round (f q.1 q.2)

/-- primal (09 R279). -/
def primal (p : Problem) (v : List Rat) : Option (List Rat) := do
  let gt ← mulGT p v
  let z ← zipF (· * ·) p.hinv (← zipF (· + ·) p.q gt)
  let bz ← p.b.mapM fun r => macs 0 (r.zip z)
  let sbz ← p.s.mapM fun r => macs 0 (r.zip bz)
  let bt ← (List.range 48).mapM fun j => macs 0 ((p.b.map (nth 0 · j)).zip sbz)
  let hb ← zipF (· * ·) p.hinv bt
  let d ← zipF (· - ·) z hb
  pure (d.map fun x => -x)

/-- State of an engine run. -/
structure EngRun where
  lam : List Rat
  y : List Rat
  t : Rat
  restarted : Bool
  deriving DecidableEq, Repr, Inhabited

/-- One iteration (09 R279). -/
def engineStep (p : Problem) (r : EngRun) : Option EngRun := do
  let x ← primal p r.y
  let g ← zipF (· - ·) (← mulG p x) p.rhs
  let sg ← g.mapM fun v => f32Round (p.step * v)
  let lamNew := (← zipF (· + ·) r.y sg).map (maxQ 0)
  let dy ← zipF (· - ·) r.y lamNew
  let dl ← zipF (· - ·) lamNew r.lam
  let c ← macs 0 (dy.zip dl)
  let restart := decide (0 < c)
  let t := if restart then 1 else r.t
  let root ← f32Round (sqrtQ (← f32Round (1 + 4 * t * t)))
  let tNew ← f32Round ((1 + root) / 2)
  let k ← f32Round ((t - 1) / tNew)
  let kd ← dl.mapM fun v => f32Round (k * v)
  let y ← zipF (· + ·) lamNew kd
  pure { lam := lamNew, y := y, t := tNew, restarted := r.restarted || restart }

/-- n iterations. -/
def engineIter (p : Problem) : Nat → EngRun → Option EngRun
  | 0, r => some r
  | n + 1, r => (engineStep p r).bind (engineIter p n)

/-- Largest element with its lowest index. -/
def largest (xs : List Rat) : Option (Rat × Nat) :=
  xs.zipIdx.foldl (fun (best : Option (Rat × Nat)) p =>
    match best with | some b => if b.1 < p.1 then some p else best | none => some p) none

/-- Result of a run whose values stay finite: x, achieved, residual, worst row, duals, whether restarted. -/
def engineSolve (p : Problem) (duals : List Rat) :
    Option (List Rat × List Rat × Rat × Nat × List Rat × Bool) := do
  let r ← engineIter p 256 { lam := duals, y := duals, t := 1, restarted := false }
  let x ← primal p r.lam
  let v ← zipF (· - ·) (← mulG p x) p.rhs
  let (res, worst) := match largest v with
    | some (m, i) => if 0 < m then (m, i) else (0, 0xFFFF)
    | none => (0, 0xFFFF)
  let ach ← p.b.mapM fun row => macs 0 (row.zip x)
  pure (x, ach, res, worst, r.lam, r.restarted)

/-- End of a run (09 R280, R281): the result block, the store, result_ready. `fresh` numbers the open values of a run
that met a non-finite value; `damaged` says that the result block's CRC is wrong when it is read (DESIGN CHOICE: log entry 8). -/
def AllocState.runComplete (s : AllocState) (fresh : Nat) (damaged : Bool) : AllocState :=
  match s.eng.run with
  | none => s
  | some (p, duals) =>
    let e : Engine := { s.eng with state := 0, ready := true, lastCycles := 250000, run := none }
    let v3 := fun (l : List Rat) => (⟨nth 0 l 0, nth 0 l 1, nth 0 l 2⟩ : V3)
    let base : EngResult :=
      { x := List.replicate 48 0, achieved := V3.zero, residual := none, worst := 0xFFFF, store := p.store, flags := 4,
        seq := p.seq, wedge := List.replicate 48 0, cycles := 250000, crcOk := !damaged }
    if !p.crcOk then { s with eng := e, result := base }
    else
      let ix := storeIndex p.store
      let wedges := fun (l : List Rat) =>
        ((List.range 24).map fun i => [nth 0 l (22 * i + 16), nth 0 l (22 * i + 17)]).flatten
      match engineSolve p duals with
      | some (x, ach, res, worst, lam, restarted) =>
        { s with eng := { e with stores := e.stores.set ix lam },
                 result := { base with x := x, achieved := v3 ach, residual := some res, worst := worst,
                                       flags := b2n restarted, wedge := wedges lam } }
      | none =>
        let open_ := fun (n k : Nat) => (List.range n).map fun j => Config.engineOpen fresh (k + j)
        let lam := open_ 534 64
        { s with eng := { e with stores := e.stores.set ix lam },
                 result := { base with x := open_ 48 0, achieved := v3 (open_ 3 48), residual := some (Config.engineOpen fresh 51),
                                       flags := 2, wedge := wedges lam } }

/-! ## Slot 5: result check, fallback, setpoints (09 R282 to R286) -/

/-- The force of actuator i in a solution vector. -/
def forceOf (x : List Rat) (i : Nat) : V2 := ⟨nth 0 x (2 * i), nth 0 x (2 * i + 1)⟩

/-- B times the forces of all actuators. -/
def applyB (c : AllocCtx) (fs : List V2) : V3 :=
  c.thru.foldl (fun acc t =>
    let f := nth default fs t.actuator
    let (ca, cb) := t.columns
    V3.add acc (V3.add (V3.scale f.x ca) (V3.scale f.y cb))) V3.zero

/-- Whether the main result is converged (09 R282). -/
def AllocState.converged (c : AllocCtx) (s : AllocState) : Bool :=
  s.result.crcOk && s.result.cycles == 250000 && !s.result.flags.testBit 1 && !s.result.flags.testBit 2
    && (match s.result.residual with | some r => decide (r ≤ c.aloc.residualLimit) | none => false)
    && !s.vectorFailed

/-- Scale of the fallback and its forces (09 R283). -/
def AllocState.fallbackForces (c : AllocCtx) (s : AllocState) : List V2 :=
  let work := fun (i : Nat) => nth false s.setup.inProb i && (s.act i).working
  let fc := (List.range 24).map fun i => if work i then (s.act i).conv else ⟨0, 0⟩
  let a := applyB c fc
  let w := c.aloc.slackW
  let aw := V3.mulc a w
  let den := aw.x * a.x + aw.y * a.y + aw.z * a.z
  let d := s.setup.demand
  let num := aw.x * d.x + aw.y * d.y + aw.z * d.z
  let caps := ((List.range 24).map fun i =>
    if work i then
      ((nth [] s.setup.rows i).take 18).filterMap fun r =>
        let v := r.at (nth default fc i)
        if 0 < v then some (maxQ 0 (r.h / v)) else none
    else []).flatten
  let raw : Rat := if den = 0 then 0 else maxQ 0 (num / den)
  let sigma := caps.foldl minQ raw
  fc.map fun f => ⟨sigma * f.x, sigma * f.y⟩

/-- The finished force of an actuator (09 R284) (DESIGN CHOICE: log entry 9). -/
def finishForce (rows : List Row) (f0 f : V2) : V2 :=
  let shape := rows.take 18
  let bad := shape.any fun r => decide (r.h < r.at f0)
  let anchor : V2 := if bad then ⟨0, 0⟩ else f0
  let rs := if bad then shape else rows
  let d : V2 := ⟨f.x - anchor.x, f.y - anchor.y⟩
  let upper := fun (rs : List Row) => rs.foldl (fun m r =>
    let v := r.at d
    if 0 < v then minQ m ((r.h - r.at anchor) / v) else m) (1 : Rat)
  let lower := rs.foldl (fun m r =>
    let v := r.at d
    if v < 0 then maxQ m ((r.h - r.at anchor) / v) else m) (0 : Rat)
  let blocked := rs.any fun r => decide (r.at d = 0) && decide (r.h < r.at anchor)
  let mu := upper rs
  -- where no μ meets every row the manual names no point: one inside polygon and wedge, left open
  let mu := if blocked || decide (mu < lower) then clampQ 0 (upper shape) (Config.finishOpen f0 f) else mu
  ⟨anchor.x + mu * d.x, anchor.y + mu * d.y⟩

/-- The finished force of an EXCLUDED actuator: the one point of its rate box (09 R272), in its polygon and wedge
(DESIGN CHOICE: log entry 9). -/
def finishFixed (rows : List Row) (f0 : V2) : V2 :=
  let r := nth Row.off rows 18
  let f : V2 := ⟨r.h * r.a, r.h * r.b⟩
  if (rows.take 18).any fun r => decide (r.h < r.at f0) then finishForce rows f0 f else f

/-- Setpoints of a published force (09 R285): thrust, angle, whether the angle is held. -/
def Thru.setpoints (t : Thru) (kappa : Rat) (a : Act) (f : V2) : Act :=
  if t.kind = 1 then
    let m := hypotQ f.x f.y
    let keep := decide (m < t.hold)
    { a with thrust := t.unitFor 1 m, angle := if keep then a.angle else wrap360 (atan2Q f.y f.x), held := keep }
  else if t.surface then
    { a with angle := clampQ (-t.unitMax) t.unitMax (t.unitFor kappa f.x), held := false }
  else { a with thrust := t.unitFor 1 f.x, held := false }

/-- Actuator after publication of its force (DEDUCED: log entry 76). -/
def AllocState.publishAct (c : AllocCtx) (s : AllocState) (t : Thru) (f : V2) : AllocState :=
  let i := t.actuator
  let a := s.act i
  let kappa := kappaOf c s t
  if a.mode = .turn then
    let arc := match a.goal with | some k => nth (0, 0) t.candidates k | none => (0, 0)
    s.modAct i fun a => { a with f0 := ⟨0, 0⟩, thrust := 0, angle := wrap360 (arc.1 + arc.2 / 2 - t.mount), held := false,
                                 turn := turnWay t.sectorList arc (wrap360 (a.azimuth + t.mount)) }
  else if a.mode = .disabled ∨ a.mode = .unavailable then s.modAct i fun a => { a with f0 := f }
  else if causeNow c s t ≠ 0 then s.modAct i fun a => { a with f0 := f }
  else if a.mode = .excluded then
    s.modAct i fun a =>
      if t.surface then { t.setpoints kappa a f with f0 := f }
      else { t.setpoints kappa a f with f0 := f, angle := a.angle, held := decide (t.kind = 1) }
  else s.modAct i fun a => { t.setpoints kappa a f with f0 := f }

/-- Saturation of a demand by published forces (09 R286). -/
def AllocState.saturate (c : AllocCtx) (s : AllocState) (d : V3) (fs : List V2) : AllocState × List AlarmOp :=
  let ach := applyB c fs
  let tol := c.aloc.satTol
  let sat : List Bool := [decide (tol.x < absQ (d.x - ach.x)), decide (tol.y < absQ (d.y - ach.y)),
    decide (tol.z < absQ (d.z - ach.z))]
  let run := sat.mapIdx fun i b => if b then min 50 (nth 0 s.satRun i + 1) else 0
  let clr := sat.mapIdx fun i b => if b then 0 else min 50 (nth 0 s.satClear i + 1)
  ({ s with achieved := ach, saturated := ⟨nth false sat 0, nth false sat 1, nth false sat 2⟩, satRun := run, satClear := clr },
    ((List.range 3).map fun j =>
      if nth 0 run j = 50 then [AlarmOp.hold ⟨.al, 10⟩ j 0]
      else if nth 0 clr j = 50 then [AlarmOp.clear ⟨.al, 10⟩ j] else []).flatten)

/-- Actuators that have become unavailable since slot 3 (09 R288). -/
def AllocState.late (c : AllocCtx) (s : AllocState) : List Nat :=
  (c.thru.filter fun t => decide (((s.act t.actuator).working ∨ (s.act t.actuator).mode = .excluded) ∧ causeNow c s t ≠ 0)).map (·.actuator)

/-- Publish forces: setpoints, saturation, counters (09 R285, R286, R288). -/
def AllocState.publish (c : AllocCtx) (s : AllocState) (fs : List V2) : AllocState × List AlarmOp :=
  let fs := (List.range 24).map fun i =>
    let a := s.act i
    match c.rec? i with
    | some t => if nth false s.setup.inProb i && causeNow c s t != 0 then a.measured else nth default fs i
    | none => ⟨0, 0⟩
  let s := c.thru.foldl (fun s t => s.publishAct c t (nth default fs t.actuator)) s
  s.saturate c s.setup.demand fs

/-- The last valid solution published unchanged (09 R282). -/
def AllocState.hold (c : AllocCtx) (s : AllocState) : AllocState × List AlarmOp :=
  let (s, ops) := s.saturate c c.demand ((List.range 24).map fun i => (s.act i).f0)
  ({ s with kind := 2 }, ops)

/-- Which rows of an actuator are active: their duals in the main store are above 0. -/
def AllocState.markRows (c : AllocCtx) (s : AllocState) : AllocState :=
  let lam := storeDuals (nth [] s.eng.stores 0)
  let any_ := fun (i a b : Nat) => (List.range (b - a)).any fun k => decide (0 < nth 0 lam (22 * i + a + k))
  let pow := (List.range 6).map fun g => decide (0 < nth 0 lam (528 + g))
  let grp := fun (i : Nat) => match c.rec? i with | some t => nth false pow t.powerGroup | none => false
  { s with acts := s.acts.mapIdx fun i a =>
             { a with polyRow := any_ i 0 16, wedgeRow := any_ i 16 18, rateRow := any_ i 18 22, powerRow := grp i },
           rowActive := pow, rowRun := pow.mapIdx fun g b => if b then min 50 (nth 0 s.rowRun g + 1) else 0 }

/-- Add this cycle's free force (09 R275). -/
def AllocState.addFree (c : AllocCtx) (s : AllocState) : AllocState :=
  c.thru.foldl (fun s t =>
    let i := t.actuator
    let f := forceOf s.result.x i
    let h := nth 0 s.setup.hinv (2 * i)
    let rows := ((nth [] s.setup.rows i).drop 16).take 2
    let l0 := nth 0 s.result.wedge (2 * i)
    let l1 := nth 0 s.result.wedge (2 * i + 1)
    let r0 := nth Row.off rows 0
    let r1 := nth Row.off rows 1
    s.modAct i fun a =>
      { a with freeSum := ⟨a.freeSum.x + f.x + h * (l0 * r0.a + l1 * r1.a), a.freeSum.y + f.y + h * (l0 * r0.b + l1 * r1.b)⟩,
               freeCount := a.freeCount + 1 }) s

/-- Result check, fallback and setpoints, slot 5 (09 R282 to R286, R288). -/
def AllocState.check (c : AllocCtx) (s : AllocState) : AllocState × List AlarmOp :=
  match s.mainSeq with
  | none =>
    let (s, ops) := s.publish c (List.replicate 24 ⟨0, 0⟩)
    ({ s with kind := 2 }, ops)
  | some seq =>
    if !s.eng.ready || s.result.seq != seq || s.result.store != 0 then s.hold c
    else
      let fin : AllocState → List V2 → List V2 := fun s fs => (List.range 24).map fun i =>
        let rows := nth [] s.setup.rows i
        let f0 := nth default s.setup.f0 i
        if !nth false s.setup.inProb i then (⟨0, 0⟩ : V2)
        else if nth false s.setup.fixed i then finishFixed rows f0
        else finishForce rows f0 (nth default fs i)
      let s := s.markRows c
      let pops := (List.range 6).map fun g => AlarmOp.whileOn (nth 0 s.rowRun g == 50) ⟨.al, 31⟩ g 0
      if s.converged c then
        let fs := (List.range 24).map fun i => forceOf s.result.x i
        let s := s.addFree c
        let s := { s with acts := s.acts.mapIdx fun i (a : Act) => { a with conv := nth default fs i } }
        let (s, ops) := s.publish c (fin s fs)
        ({ s with kind := 0, fallbacks := 0 },
          ops ++ pops ++ [AlarmOp.clear ⟨.al, 7⟩ 0, AlarmOp.clear ⟨.al, 8⟩ 0])
      else
        let (s, ops) := s.publish c (fin s (s.fallbackForces c))
        let n := satInc 16 s.fallbacks
        ({ s with kind := 1, fallbacks := n, resetMain := s.resetMain || n % c.aloc.dualReset == 0 },
          ops ++ pops ++ [AlarmOp.hold ⟨.al, 7⟩ 0 s.result.worst, AlarmOp.whileOn (decide (c.aloc.fallbackAlarm ≤ n)) ⟨.al, 8⟩ 0 0])

/-- Whether the consequence result of slot 11 can be judged: group, achieved, residual test (09 R287). -/
def AllocState.judged (c : AllocCtx) (s : AllocState) : Option (Nat × V3 × Bool) :=
  match s.consSeq with
  | none => none
  | some (g, seq) =>
    if s.eng.ready && s.result.seq == seq && s.result.crcOk && s.result.cycles == 250000 && !s.result.flags.testBit 1
        && !s.result.flags.testBit 2 && !s.vectorFailed then
      some (g, s.result.achieved, match s.result.residual with | some r => decide (c.aloc.residualLimit < r) | none => true)
    else none

/-! ## Slot 12: the sector choice (09 R275) -/

/-- The arc choice of one actuator (DEDUCED: log entry 76). -/
def AllocState.chooseArc (c : AllocCtx) (s : AllocState) (t : Thru) : AllocState × List AlarmOp :=
  let a := s.act t.actuator
  let cs := t.candidates
  let clearSum := fun (a : Act) => { a with freeSum := ⟨0, 0⟩, freeCount := 0 }
  if t.kind ≠ 1 ∨ cs.isEmpty ∨ !a.working then (s.modAct t.actuator clearSum, [])
  else
    let n : Rat := if a.freeCount = 0 then 1 else (a.freeCount : Rat)
    let free : V2 := ⟨a.freeSum.x / n, a.freeSum.y / n⟩
    let a := clearSum { a with free := free }
    let dir := wrap360 (atan2Q free.y free.x + t.mount)
    let hyst : Rat := (c.aloc.sectorHyst : Rat) / 100
    let near : Bool := match a.arc with | some k => (match cs[k]? with | some arc => decide (arcGap arc dir ≤ hyst) | none => false) | none => false
    let stay := decide (hypotQ free.x free.y < t.hold) || near || t.sectorList.any fun x => inSector x dir
    match (if stay then none else bestArc cs dir) with
    | none => (s.modAct t.actuator fun _ => a, [])
    | some k =>
      let last := wrap360 (atan2Q a.f0.y a.f0.x + t.mount)
      let arc := nth (0, 0) cs k
      if a.arc = some k then (s.modAct t.actuator fun _ => a, [])
      else if inArc arc last then
        (s.modAct t.actuator fun _ => { a with arc := some k, goal := none, transit := 0, mode := .allocated }, [])
      else
        (s.modAct t.actuator fun _ =>
            { a with goal := some k, transit := if a.mode = .ramp then a.transit else 0, mode := .ramp,
                     turn := turnWay t.sectorList arc (wrap360 (a.azimuth + t.mount)) },
          [.raise ⟨.al, 11⟩ t.actuator 0])

/-- The mean free force starts again with the next mission cycle (09 R275). -/
def AllocState.forgetFree (s : AllocState) : AllocState :=
  { s with acts := s.acts.map fun a => { a with freeSum := ⟨0, 0⟩, freeCount := 0 } }

/-- The forbidden-sector slice. -/
def AllocState.chooseArcs (c : AllocCtx) (s : AllocState) : AllocState × List AlarmOp :=
  c.thru.foldl (fun (p : AllocState × List AlarmOp) t =>
    let (s, o) := p.1.chooseArc c t
    (s, p.2 ++ o)) (s, [])

end Sys2Proof.Machine
end

