-- ==== Sys2Proof/Machine/Larder.lean ====
section
/-!
DEFINITION. The Larder recorder (16): staging, the writer, histograms and extremes, the start check, the records' bytes.
-/

namespace Sys2Proof.Machine

/-- Key of an event record: area and number of its code (16 R469). -/
def eventKey (c : Code) : Nat := 1024 * c.area.index + c.num

/-- An occurrence goes into staging (16 R474); true where the table is full. -/
def LarderState.stage (l : LarderState) (e : Staged) : LarderState × Bool :=
  if l.staging.any fun x => x.key == e.key then
    ({ l with staging := l.staging.map fun x =>
        if x.key == e.key then { x with count := x.count + 1, lastS := e.lastS, lastNs := e.lastNs } else x }, false)
  else if 64 ≤ l.staging.length then ({ l with lostEvents := satInc 32 l.lostEvents }, true)
  else ({ l with staging := l.staging ++ [e] }, false)

/-- Record n; an unlisted record is empty, of type 0. -/
def LarderState.record (l : LarderState) (n : Nat) : LarderRecord :=
  match l.records.find? fun r => r.1 == n with
  | some r => r.2
  | none => ⟨0, 0, 0, 0, 0, 0, true, .empty⟩

/-- Insert a record in rising order of number. -/
def insertRecord (n : Nat) (r : LarderRecord) : List (Nat × LarderRecord) → List (Nat × LarderRecord)
  | [] => [(n, r)]
  | q :: rest =>
    if q.1 < n then q :: insertRecord n r rest else if q.1 = n then (n, r) :: rest else (n, r) :: q :: rest

/-- One write of a record, in the order of 16 R473; a failing FRAM leaves it broken, to be written again once. -/
def LarderState.write (l : LarderState) (n opHours cycles : Nat) (r : LarderRecord) : LarderState :=
  let r' := { r with seq := (r.seq + 1) % 65536, opHours := opHours, powerCycles := cycles, whole := !l.failing }
  { l with records := insertRecord n r' l.records, retry := if l.failing && !l.retry.contains n then l.retry ++ [n] else l.retry }

/-- Nanoseconds of a time. -/
def timeNs (s ns : Nat) : Nat := s * 1000000000 + ns

/-- Number of the record of event e (16 R464) (DESIGN CHOICE: log entry 62). -/
def eventRecordNo (e : Nat) : Nat := 5136 + e % 7152

/-- The newest event record merged with a staged entry, where 16 R474 merges it. -/
def LarderState.merge (l : LarderState) (e : Staged) : Option LarderRecord :=
  let r := l.record (eventRecordNo l.newestEvent)
  match r.body with
  | .event code cause fs fns ls lns ff no q st detail =>
    if l.eventsHeld ≠ 0 ∧ r.key = e.key ∧ timeNs e.firstS e.firstNs ≤ timeNs ls lns + l.floodWindow * 1000000000 then
      let n := r.repeats + e.count
      some { r with repeats := min 65535 n, flags := if 65535 < n then r.flags ||| 1 else r.flags,
                    body := .event code cause fs fns e.lastS e.lastNs ff no q st detail }
    else none
  | _ => none

/-- A staged entry is written (16 R474) (DESIGN CHOICE: log entry 62). -/
def LarderState.writeEvent (l : LarderState) (opHours cycles : Nat) (e : Staged) : LarderState :=
  match l.merge e with
  | some r => l.write (eventRecordNo l.newestEvent) opHours cycles r
  | none =>
    let no := (l.newestEvent + 1) % 2 ^ 32
    let n := eventRecordNo no
    let rep := e.count - 1
    let r : LarderRecord :=
      ⟨if 65535 < rep then 1 else 0, e.key, 0, 0, (l.record n).seq, min 65535 rep, true,
       .event e.code e.cause e.firstS e.firstNs e.lastS e.lastNs e.frame no e.quality e.laneState e.detail⟩
    { (l.write n opHours cycles r) with newestEvent := no, eventsHeld := min 7152 (l.eventsHeld + 1) }

/-- Staged events are written, the oldest first (16 R473, R475) (DESIGN CHOICE: log entry 84). -/
def LarderState.writeStaged (l : LarderState) (opHours cycles : Nat) : LarderState :=
  { (l.staging.foldl (fun (x : LarderState) e => x.writeEvent opHours cycles e) l) with staging := [] }

/-- A failed write is written again once in the next motion cycle (16 R473). -/
def LarderState.again (l : LarderState) (opHours cycles : Nat) : LarderState :=
  { (l.retry.foldl (fun (x : LarderState) n => x.write n opHours cycles (x.record n)) { l with retry := [] }) with retry := [] }

/-- Histogram items are 0x01 to 0x05 (16 R469). -/
def histItem (item : Nat) : Bool := item < 0x10

/-- Position of an instance among those of its kind (16 R464). -/
def instIndex (insts : List LarderInst) (i : LarderInst) : Nat :=
  ((insts.filter fun x => histItem x.item == histItem i.item).findIdx? fun x => x.item == i.item && x.inst == i.inst).getD 0

/-- The period slots of an instance: record number, period number, record numbers of the same kind (16 R464, R466). -/
def periodSlots (insts : List LarderInst) (opHours : Nat) (i : LarderInst) : List (Nat × Nat × List Nat) :=
  let k := instIndex insts i
  let hour := opHours / 3600
  let day := opHours / 86400
  if histItem i.item then
    let base := 16 + 57 * k
    [(base + hour % 25, hour, (List.range 25).map (base + ·)),
     (base + 25 + day % 31, day, (List.range 31).map (base + 25 + ·)), (base + 56, 0xFFFFFFFF, [])]
  else
    let base := 2576 + 32 * k
    [(base + day % 31, day, (List.range 31).map (base + ·)), (base + 31, 0xFFFFFFFF, [])]

/-- A sample enters a histogram (16 R466); true where a count saturated. -/
def histAdd (lo width v : Rat) (under above : Nat) (bins : List Nat) : Nat × Nat × List Nat × Bool :=
  let bump := fun n => satInc 32 n
  if v < lo then (bump under, above, bins, decide (under = 2 ^ 32 - 1))
  else if lo + 20 * width ≤ v then (under, bump above, bins, decide (above = 2 ^ 32 - 1))
  else
    let k := ((v - lo) / width).floor.toNat
    (under, above, modNth bins k bump, decide (nth 0 bins k = 2 ^ 32 - 1))

/-- A sample enters an extreme (16 R467). -/
def extAdd (v : Rat) (s ns : Nat) : LarderBody → LarderBody
  | .extreme mn mx mnS mnNs mxS mxNs n p =>
    let lower := match mn with | none => true | some m => decide (v < m)
    let upper := match mx with | none => true | some m => decide (m < v)
    .extreme (if lower then some v else mn) (if upper then some v else mx) (if lower then s else mnS) (if lower then ns else mnNs)
      (if upper then s else mxS) (if upper then ns else mxNs) (satInc 32 n) p
  | b => b

/-- One sample into a record of a period; a record of another period is cleared first (16 R464) (DESIGN CHOICE: log entry 84). -/
def addSample (i : LarderInst) (period : Nat) (r : LarderRecord) (x : Rat × Nat × Nat) : LarderRecord :=
  let key := 256 * i.item + i.inst
  if histItem i.item then
    let old := match r.body with
      | .histogram _ _ u o b s p => if p = period then (r.flags, u, o, b, s) else (0, 0, 0, List.replicate 20 0, 0)
      | _ => (0, 0, 0, List.replicate 20 0, 0)
    let h := histAdd i.lo i.width x.1 old.2.1 old.2.2.1 old.2.2.2.1
    { r with key := key, flags := if h.2.2.2 then old.1 ||| 2 else old.1, repeats := 0,
             body := .histogram i.lo i.width h.1 h.2.1 h.2.2.1 (f32Q (old.2.2.2.2 + x.1)) period }
  else
    let old : Nat × LarderBody := match r.body with
      | .extreme mn mx a b c d n p => if p = period then (r.flags, .extreme mn mx a b c d n p) else (0, .extreme none none 0 0 0 0 0 period)
      | _ => (0, .extreme none none 0 0 0 0 0 period)
    let sat := match old.2 with | .extreme _ _ _ _ _ _ n _ => decide (n = 2 ^ 32 - 1) | _ => false
    { r with key := key, flags := if sat then old.1 ||| 2 else old.1, repeats := 0, body := extAdd x.1 x.2.1 x.2.2 old.2 }

/-- Period number of a record. -/
def LarderBody.period : LarderBody → Option Nat
  | .histogram _ _ _ _ _ _ p => some p
  | .extreme _ _ _ _ _ _ _ p => some p
  | _ => none

/-- The records of an instance's slots whose period has closed are written with flag bit 2 (16 R465)
(DESIGN CHOICE: log entry 84). -/
def LarderState.close (l : LarderState) (opHours cycles period : Nat) (ns : List Nat) : LarderState :=
  ns.foldl (fun (x : LarderState) n =>
    let r := x.record n
    if (match r.body.period with | some p => p != period && !r.flags.testBit 2 | none => false)
    then x.write n opHours cycles { r with flags := r.flags ||| 4 } else x) l

/-- An instance's samples are committed to its current periods, and its periods that have ended are closed (16 R473)
(DESIGN CHOICE: log entry 84). -/
def LarderState.commit (l : LarderState) (opHours cycles : Nat) (i : LarderInst) : LarderState :=
  (periodSlots l.insts opHours i).foldl (fun (x : LarderState) q =>
    (if i.samples.isEmpty then x
     else x.write q.1 opHours cycles (i.samples.foldl (addSample i q.2.1) (x.record q.1))).close opHours cycles q.2.1 q.2.2) l

/-- Every instance is committed (16 R473). -/
def LarderState.commitAll (l : LarderState) (opHours cycles : Nat) : LarderState :=
  let l' := l.insts.foldl (fun (x : LarderState) i => x.commit opHours cycles i) l
  { l' with insts := l.insts.map fun i => { i with samples := [] } }

/-- Samples of an item are taken for an instance that is selected (16 R469, R471). -/
def LarderState.sample (l : LarderState) (item inst : Nat) (v : Rat) (s ns : Nat) : LarderState :=
  { l with insts := l.insts.map fun i =>
      if i.item == item && i.inst == inst then { i with samples := i.samples ++ [(v, s, ns)] } else i }

/-- Instances of each item and its default lo and width (16 R469). -/
def itemTable : List (Nat × Nat × Rat × Rat) :=
  [(0x01, 6, 0, 1 / 4), (0x02, 6, 0, 1 / 10), (0x03, 24, 0, 5), (0x04, 6, 0, 5), (0x05, 2, 20, 2),
   (0x10, 72, 0, 0), (0x11, 2, 0, 0), (0x12, 1, 0, 0), (0x13, 1, 0, 0)]

/-- The instances a LARD record selects; without one, every instance (16 R471). -/
def selectInsts : Option LardRec → List LarderInst
  | none => itemTable.flatMap fun t => (List.range t.2.1).map fun k => ⟨t.1, k, t.2.2.1, t.2.2.2, []⟩
  | some r => r.sels.flatMap fun e => (List.range e.count).map fun k => ⟨e.item, e.first + k, e.lo, e.width, []⟩

/-- Reformatting for a changed selection (16 R472). -/
def LarderState.reformat (l : LarderState) (lard : Option LardRec) : LarderState × List AlarmOp :=
  let sel := selectInsts lard
  let crc := match lard with | some r => r.crc | none => 0
  let l' : LarderState := { l with insts := sel, floodWindow := (match lard with | some r => r.floodWindow | none => 10),
                                   histInstances := (sel.filter fun i => histItem i.item).length,
                                   extInstances := (sel.filter fun i => !histItem i.item).length }
  if crc = l.lardCrc then (l', [])
  else ({ l' with records := l.records.filter fun q => !(16 ≤ q.1 && q.1 < 5136), lardCrc := crc,
                  reformats := satInc 16 l.reformats }, [.raise ⟨.la, 2⟩ 0 0])

/-- Whether a record is that of a current period of some instance. -/
def LarderState.current (l : LarderState) (opHours n : Nat) : Option (LarderInst × Nat) :=
  l.insts.findSome? fun i =>
    (periodSlots l.insts opHours i).findSome? fun q =>
      if q.1 == n && (l.record n).body.period == some q.2.1 then some (i, q.2.1) else none

/-- One broken record (16 R476). -/
def LarderState.mend (opHours cycles : Nat) (l : LarderState) (n : Nat) : LarderState :=
  let l' : LarderState := { l with badAtStart := satInc 32 l.badAtStart }
  match l.current opHours n with
  | some (i, p) =>
    let body : LarderBody := if histItem i.item then .histogram i.lo i.width 0 0 (List.replicate 20 0) 0 p
      else .extreme none none 0 0 0 0 0 p
    l'.write n opHours cycles { (l.record n) with flags := 8, body := body, key := 256 * i.item + i.inst }
  | none => { l' with records := l.records.filter fun q => q.1 != n }

/-- Event numbers held by the ring. -/
def LarderState.eventNos (l : LarderState) : List Nat :=
  l.records.filterMap fun q => match q.2.body with | .event _ _ _ _ _ _ _ no _ _ _ => some no | _ => none

/-- The start check (16 R476): `broken` lists what the check finds besides writes known cut off. -/
def LarderState.startCheck (l : LarderState) (opHours cycles : Nat) (broken : List Nat) : LarderState × List AlarmOp :=
  let bad := (l.records.filter fun q => !q.2.whole || broken.contains q.1).map (·.1)
  let l1 := bad.foldl (LarderState.mend opHours cycles) l
  let nos := l1.eventNos
  ({ l1 with newestEvent := match nos with | [] => l.newestEvent | n :: ns => ns.foldl (newest 32) n, eventsHeld := nos.length,
             retry := [] },
   AlarmOp.ifOn (!bad.isEmpty) ⟨.la, 1⟩ 0 bad.length)

/-- Three decimal digits. -/
def digits3 (n : Nat) : Bytes :=
  [BitVec.ofNat 8 (48 + n / 100 % 10), BitVec.ofNat 8 (48 + n / 10 % 10), BitVec.ofNat 8 (48 + n % 10)]

/-- A code in ASCII, for example "LN-030" (16 R468; 03 R112). -/
def codeAscii (c : Code) : Bytes := ascii c.area.letters ++ [BitVec.ofNat 8 45] ++ digits3 c.num

/-- f32 words of plus and minus infinity, the resets of min and max (16 R467). -/
def infBytes (neg : Bool) : Bytes := leBytes 4 (if neg then 0xFF800000 else 0x7F800000)

/-- The body of a record, 0x10 to 0x79 (16 R466 to R468). -/
def LarderBody.bytes : LarderBody → Bytes
  | .empty => []
  | .histogram lo w u o b s p =>
    leF32 lo ++ leF32 w ++ leBytes 4 u ++ leBytes 4 o ++ (b.flatMap fun n => leBytes 4 n) ++ leF32 s ++ leBytes 4 p
  | .extreme mn mx a b c d n p =>
    (match mn with | some q => leF32 q | none => infBytes false) ++ (match mx with | some q => leF32 q | none => infBytes true) ++
    leBytes 6 a ++ leBytes 4 b ++ leBytes 6 c ++ leBytes 4 d ++ leBytes 4 n ++ leBytes 4 p
  | .event c cause fs fns ls lns ff no q st detail =>
    codeAscii c ++ leBytes 2 cause ++ leBytes 6 fs ++ leBytes 4 fns ++ leBytes 6 ls ++ leBytes 4 lns ++ leBytes 8 ff ++
    leBytes 4 no ++ leBytes 1 q ++ leBytes 1 st ++ fit 64 detail

/-- Type of a record (16 R465). -/
def LarderBody.type : LarderBody → Nat
  | .empty => 0
  | .histogram .. => 1
  | .extreme .. => 2
  | .event .. => 3

/-- The 128 bytes of a record (16 R465). A broken record shows a CRC that does not match (DESIGN CHOICE: log entry 84). -/
def LarderRecord.bytes (r : LarderRecord) : Bytes :=
  let b := leBytes 1 r.body.type ++ leBytes 1 r.flags ++ leBytes 2 r.key ++ leBytes 4 r.opHours ++ leBytes 4 r.powerCycles ++
    leBytes 2 r.seq ++ leBytes 2 r.repeats ++ fit 106 r.body.bytes ++ leBytes 2 r.seq
  if r.whole then withCrc b else b ++ leBytes 4 (crc32c b + 1)

/-- The descriptor body, 0x10 to 0x79 of record 0 (16 R470). -/
def LarderState.descriptor (l : LarderState) : Bytes :=
  fit 106 (leBytes 1 1 ++ leBytes 1 0 ++ leBytes 2 l.histInstances ++ leBytes 2 l.extInstances ++ leBytes 2 l.floodWindow ++
    leBytes 4 l.lardCrc ++ leBytes 4 l.newestEvent ++ leBytes 2 l.eventsHeld ++ leBytes 2 l.reformats ++
    leBytes 4 l.lostEvents ++ leBytes 4 l.badAtStart)

/-- The descriptor is written once what it says has changed (16 R465, R470) (DESIGN CHOICE: log entry 84). -/
def LarderState.describe (l : LarderState) (opHours cycles : Nat) : LarderState :=
  if l.headBody = some l.descriptor then l
  else { l with headSeq := (l.headSeq + 1) % 65536, headOp := opHours, headCycles := cycles, headBody := some l.descriptor }

/-- The descriptor body that stands in FRAM (16 R470). -/
def LarderState.head (l : LarderState) : Bytes := match l.headBody with | some b => b | none => l.descriptor

/-- What a read of record n returns (16 R477). -/
def LarderState.read (l : LarderState) (n : Nat) : Bytes :=
  if n = 0 then
    withCrc (leBytes 1 4 ++ zeros 3 ++ leBytes 4 l.headOp ++ leBytes 4 l.headCycles ++ leBytes 2 l.headSeq ++ zeros 2 ++ l.head ++
      leBytes 2 l.headSeq)
  else (l.record n).bytes

end Sys2Proof.Machine
end

