-- ==== Sys2Proof/Machine/TypesAnalog.lean ====
section
/-!
DEFINITION. Plain-data types of the analog inputs and outputs and the discrete lines (14).
-/

namespace Sys2Proof.Machine

/-- An analog input of a lane (14 R409 to R420). -/
structure AnChan where
  running : Bool
  /-- Alternative set, and the slot in use. -/
  alt : Bool
  set : Nat
  /-- Cause of invalidity (14 R415): 0 valid. -/
  cause : Nat
  /-- Newest completed sample, and the output of the DC blocker at it. -/
  x : Option Rat
  y : Rat
  dcest : Option Rat
  frozen : Bool
  /-- Published value (last in-range y). -/
  value : Rat
  /-- Consecutive latches out of range, whether the last was above, and consecutive latches in range. -/
  oorRun : Nat
  above : Bool
  goodRun : Nat
  /-- Microframes left of filling. -/
  fill : Nat
  /-- Command to act on at the next frame tick: start, alternative set. -/
  next : Option (Bool × Bool)
  /-- Nanoseconds of module time of the latched sample's centre. -/
  sampleNs : Nat
  deriving DecidableEq, Repr, Inhabited

/-- The word an output latch holds (14 R422, R424): the range, 1 for 10 V and 2 for 4-20 mA as the ANOU entry has them, and the
value in V or mA, exact where the hardware holds a 16-bit code (DESIGN CHOICE: log entry 89). -/
structure OutWord where
  range : Nat
  value : Rat
  deriving DecidableEq, Repr, Inhabited

/-- The latch at power-up: the voltage range at 0 V (14 R424). -/
def OutWord.powerUp : OutWord := ⟨1, 0⟩

/-- An analog output of a lane (14 R422 to R425). -/
structure AnOut where
  /-- Last an.out.set value and frames since it; none before the first write. -/
  object : Option Rat
  age : Nat
  timedOut : Bool
  /-- Physical value written in the last microframe, and the terminal as read back. -/
  written : Rat
  terminal : Rat
  /-- Microframes of readback difference and of compliance. -/
  diffRun : Nat
  complRun : Nat
  deriving DecidableEq, Repr, Inhabited

/-- Analog and discrete I/O of a lane. -/
structure AnalogState where
  chans : List AnChan
  outs : List AnOut
  /-- Discrete inputs: filtered levels, consecutive samples at the last raw level, last raw levels, levels latched at the
  frame tick. -/
  levels : List Bool
  runs : List Nat
  raws : List Bool
  latched : List Bool
  /-- Converter or filter engine fault of the lane (14 R415: AN-001). -/
  fault : Bool
  /-- u of each input as latched at phase 0 of the frame, none where invalid (14 R416). -/
  cut : List (Option Rat)
  deriving DecidableEq, Repr, Inhabited

end Sys2Proof.Machine
end

