-- ==== Sys2Proof/Machine/Analog.lean ====
section
/-!
DEFINITION. Analog inputs, the filter chain, analog outputs and discrete lines (14).
-/

namespace Sys2Proof.Machine

/-! ## Coefficient sets (14 R413, R419) -/

/-- Length and design D of the resident sets 0 to 3 (DESIGN CHOICE: log entry 10). -/
def residentSet (slot : Nat) : Option (Nat × Nat) :=
  match slot with | 0 => some (31, 4) | 1 => some (63, 2) | 2 => some (127, 8) | 3 => some (3, 1) | _ => none

/-- All L taps of a custom set: the first half as i32 with 2^30 = 1.0, mirrored. -/
def CoeffSet.allTaps (c : CoeffSet) : List Rat :=
  (List.range c.len).map fun i =>
    let j := min i (c.len - 1 - i)
    ((nth 0 c.taps j : Int) : Rat) / ((2 ^ 30 : Nat) : Rat)

/-- Length and D of a slot: resident, or custom where loaded. -/
def slotShape (custom : List (Option CoeffSet)) (slot : Nat) : Option (Nat × Nat) :=
  if slot < 4 then residentSet slot else (nth none custom (slot - 4)).map fun c => (c.len, c.delay)

/-- Taps of a slot (DESIGN CHOICE: log entry 10). -/
def slotTaps (custom : List (Option CoeffSet)) (slot : Nat) : List Rat :=
  if slot = 3 then [1 / 4, 1 / 2, 1 / 4]
  else if slot < 4 then
    match residentSet slot with
    | some (l, _) => (List.range l).map fun i => Config.firTap slot (min i (l - 1 - i))
    | none => []
  else match nth none custom (slot - 4) with | some c => c.allTaps | none => []

/-- Bytes of a set over which its CRC-32C is taken: L, D, taps as i32. -/
def coeffBytes (len d : Nat) (taps : List Int) : Bytes := leBytes 1 len ++ leBytes 1 d ++ (taps.map (leInt 4)).flatten

/-- Whether a custom set may be loaded: L and the sum of its taps (14 R419). -/
def coeffOk (len : Nat) (taps : List Int) : Bool :=
  let sum := sumQ (CoeffSet.allTaps ⟨len, 0, taps, 0⟩)
  decide (3 ≤ len ∧ len ≤ 128) && taps.length == (len + 1) / 2 && decide (999 / 1000 ≤ sum) && decide (sum ≤ 1001 / 1000)

/-! ## Inputs (14 R412 to R418) -/

/-- FIR value of the newest CIC outputs. -/
def firValue (taps cic : List Rat) : Rat := sumQ (List.zipWith (· * ·) taps cic)

/-- Final sample rate in Hz (14 R412). -/
def finalRate (r : Anin) : Rat := 8000000 / ((r.cicR * r.firD : Nat) : Rat)

/-- Microframes of filling after a start: N·R / f_mod + L / f_cic (14 R418). -/
def fillTime (r : Anin) (len : Nat) : Nat := (r.cicR * (4 + len) + 999) / 1000

/-- t_group in nanoseconds (14 R414). -/
def groupDelay (r : Anin) (len : Nat) : Nat := 8000 + 4 * (r.cicR - 1) * 125 / 2 + (len - 1) * r.cicR * 125 / 2 + 25000

/-- Whether a value is in range: [lo_limit, hi_limit) (14 R415). -/
def Anin.inRange (r : Anin) (x : Rat) : Bool := decide (r.loLimit ≤ x) && decide (x < r.hiLimit)

/-- The DC blocker on a new sample (14 R417). -/
def AnChan.blocker (r : Anin) (x : Rat) (a : AnChan) : AnChan :=
  if r.flags.testBit 0 then
    match a.dcest with
    | none =>
      if a.cause = 0 ∧ r.inRange x = true then { a with dcest := some x, y := 0, frozen := false } else { a with y := x, frozen := true }
    | some d =>
      let frozen := decide (a.cause ≠ 0) || a.oorRun != 0 || !r.inRange x
        || (decide (r.dcFreeze ≠ 0) && decide (r.dcFreeze < absQ (x - d)))
      let d' := if frozen then d else d + 2 * Config.pi * r.dcFc / finalRate r * (x - d)
      { a with dcest := some d', y := x - d', frozen := frozen }
  else { a with y := x }

/-- A final sample of a channel (14 R412). -/
def AnChan.sample (r : Anin) (taps cic : List Rat) (a : AnChan) : AnChan :=
  if a.running then
    let x := firValue taps cic
    AnChan.blocker r x { a with x := some x }
  else a

/-- The latch of a channel at phase 0 (14 R415): `nowNs` is module time. -/
def AnChan.latch (r : Anin) (len nowNs : Nat) (a : AnChan) : AnChan :=
  if !a.running then a
  else
    let a := { a with fill := a.fill - 1, sampleNs := (nowNs + 1000000000 - groupDelay r len % 1000000000) % 1000000000 }
    if a.cause = 4 ∨ a.cause = 5 then a
    else
      match a.x with
      | none => a
      | some x =>
        if r.inRange x then { a with value := a.y, oorRun := 0, goodRun := a.goodRun + 1 }
        else { a with oorRun := a.oorRun + 1, goodRun := 0, above := decide (r.hiLimit ≤ x) }

/-- Out of range for oor_samples latches (14 R415). -/
def AnChan.invalidate (r : Anin) (a : AnChan) : AnChan × List AlarmOp :=
  if a.cause = 0 ∧ r.oorSamples ≤ a.oorRun then
    let k := if a.above then 2 else 1
    ({ a with cause := k }, [.raise ⟨.an, 10⟩ r.channel k])
  else (a, [])

/-- In range for clear_time (14 R415). -/
def AnChan.validate (r : Anin) (a : AnChan) : AnChan × List AlarmOp :=
  if (a.cause = 1 ∨ a.cause = 2) ∧ 8 * r.clearTime ≤ a.goodRun then
    ({ a with cause := 0 }, [.clear ⟨.an, 10⟩ r.channel])
  else (a, [])

/-- Filled (14 R418). -/
def AnChan.filled (a : AnChan) : AnChan := if a.cause = 4 ∧ a.fill = 0 then { a with cause := 0 } else a

/-- Slot of a channel's primary or alternative set. -/
def Anin.slotOf (r : Anin) (alt : Bool) : Nat := if alt then r.altSet else r.coeffSet

/-- Whether a start is refused with VERIFY (14 R420): empty custom slot, or D of the slot differs. -/
def startRefused (r : Anin) (custom : List (Option CoeffSet)) (alt : Bool) : Bool :=
  match slotShape custom (r.slotOf alt) with | some (_, d) => d != r.firD | none => true

/-- Stop or start at a frame tick (14 R418) (DEDUCED: log entry 81). -/
def AnChan.act (r : Anin) (custom : List (Option CoeffSet)) (start alt : Bool) (a : AnChan) : AnChan :=
  if start then
    if a.running then a
    else
      let slot := r.slotOf alt
      let len := match slotShape custom slot with | some (l, _) => l | none => 0
      { a with running := true, alt := alt, set := slot, cause := 4, x := none, y := 0, dcest := none, frozen := true,
               oorRun := 0, goodRun := 0, fill := fillTime r len }
  else { a with running := false, cause := 3, x := none, y := 0, dcest := none, frozen := false, oorRun := 0, goodRun := 0, fill := 0 }

/-- Normalised value u (14 R416). -/
def AnChan.norm (r : Anin) (a : AnChan) : Rat := clampQ 0 1 ((a.value - r.xLo) / (r.xHi - r.xLo))

/-- Engineering value (14 R416). -/
def AnChan.eng (r : Anin) (a : AnChan) : Rat := r.engLo + a.norm r * (r.engHi - r.engLo)

/-- The ANIN entry of a channel. -/
def aninOf (rs : List Anin) (n : Nat) : Option Anin := rs.find? fun r => r.channel == n

/-- Whether a latch shows its channel valid: a change of validity that falls due at the latch counts (14 R415, R418). -/
def AnChan.shows (r : Anin) (a : AnChan) : Bool :=
  if a.cause = 0 then decide (a.oorRun < r.oorSamples)
  else if a.cause = 4 then a.fill == 0
  else decide (a.cause = 1 ∨ a.cause = 2) && decide (8 * r.clearTime ≤ a.goodRun)

/-- u of every input as its latch shows it (14 R416) (DESIGN CHOICE: log entry 26). -/
def AnalogState.cutNow (rs : List Anin) (s : AnalogState) : List (Option Rat) :=
  (List.range 16).map fun n =>
    match aninOf rs n with
    | some r =>
      let a := nth default s.chans n
      if a.shows r && !s.fault then some (a.norm r) else none
    | none => none

/-- Cause of invalidity that a channel publishes (14 R415): 5 while the converter or the filter engine is at fault
(DESIGN CHOICE: log entry 26). -/
def AnalogState.causeOf (s : AnalogState) (n : Nat) : Nat := if s.fault then 5 else (nth default s.chans n).cause

/-- u of an input as latched at phase 0 of the frame, none where invalid (14 R416). -/
def AnalogState.valid (s : AnalogState) (n : Nat) : Option Rat := nth none s.cut n

/-- Change one configured channel. -/
def AnalogState.withChan (rs : List Anin) (n : Nat) (f : Anin → AnChan → AnChan × List AlarmOp) (s : AnalogState) :
    AnalogState × List AlarmOp :=
  match aninOf rs n with
  | some r =>
    let (a, ops) := f r (nth default s.chans n)
    ({ s with chans := s.chans.set n a }, ops)
  | none => (s, [])

/-! ## Outputs (14 R422 to R425) -/

/-- The ANOU entry of an output. -/
def anouOf (rs : List Anou) (n : Nat) : Option Anou := rs.find? fun r => r.output == n

/-- Clamp of a physical value to its range (14 R422). -/
def Anou.limit (r : Anou) (v : Rat) : Rat := if r.range = 2 then clampQ (36 / 10) 21 v else clampQ (-10) 10 v

/-- Physical value of an output in this microframe; `axis` is the output register of the axis that names it. -/
def AnOut.physical (r : Anou) (axis : Option Rat) (o : AnOut) : Rat :=
  if r.source = 2 then
    match o.object with
    | some v => if o.timedOut then r.safeValue else r.limit (v * r.scale + r.offset)
    | none => r.safeValue
  else r.limit ((axis.getD 0) * r.scale + r.offset)

/-- Span of an output range: 20 V or 16 mA. -/
def Anou.span (r : Anou) : Rat := if r.range = 2 then 16 else 20

/-- Readback of an output (14 R425): `rb` is the terminal and whether the driver is at compliance. -/
def AnOut.readBack (r : Anou) (v : Rat) (rb : Option (Rat × Bool)) (o : AnOut) : AnOut :=
  match rb with
  | some (t, c) =>
    let bad := decide ((r.readbackTol : Rat) / 10000 * r.span < absQ (t - v))
    { o with written := v, terminal := t, diffRun := if bad then min 800 (o.diffRun + 1) else 0,
             complRun := if c && r.range == 2 then min 800 (o.complRun + 1) else 0 }
  | none => { o with written := v }

/-- AN-030 and AN-031 end with their conditions. -/
def AnOut.endCodes (n : Nat) (o : AnOut) : List AlarmOp :=
  (if o.diffRun = 0 then [AlarmOp.clear ⟨.an, 30⟩ n] else []) ++ (if o.complRun = 0 then [AlarmOp.clear ⟨.an, 31⟩ n] else [])

/-- 100 ms of difference or of compliance (14 R425). -/
def AnOut.readbackFault (n : Nat) (o : AnOut) : List AlarmOp :=
  AlarmOp.ifOn (o.diffRun == 800) ⟨.an, 30⟩ n 0 ++ AlarmOp.ifOn (o.complRun == 800) ⟨.an, 31⟩ n 0

/-- No an.out.set for obj_timeout (14 R423). -/
def AnOut.timeout (r : Anou) (o : AnOut) : AnOut × List AlarmOp :=
  if r.source = 2 ∧ o.object.isSome ∧ r.objTimeout ≤ o.age then
    ({ o with timedOut := true }, [.raise ⟨.an, 32⟩ r.output 0])
  else (o, [])

/-! ## Discrete inputs (14 R427) -/

/-- One sample of every discrete input. -/
def AnalogState.sampleDiscrete (raw : Nat) (s : AnalogState) : AnalogState :=
  let runs := (List.range 16).map fun k =>
    if raw.testBit k == nth false s.raws k then min 24 (nth 0 s.runs k + 1) else 1
  { s with runs := runs, raws := (List.range 16).map raw.testBit,
           levels := (List.range 16).map fun k => if nth 0 runs k = 24 then raw.testBit k else nth false s.levels k }

/-- Frame tick: discrete levels latched, output ages, waiting stops and starts (14 R418, R423, R427). -/
def AnalogState.frame (rs : List Anin) (custom : List (Option CoeffSet)) (s : AnalogState) : AnalogState :=
  { s with latched := s.levels, outs := s.outs.map (fun o => { o with age := satInc 16 o.age }),
           chans := s.chans.mapIdx fun n a =>
             match aninOf rs n, a.next with
             | some r, some (start, alt) => { a.act r custom start alt with next := none }
             | _, _ => a }

/-- Inputs and outputs at lane start (14 R418, R420, R423): `other` is the other lane's channels while it runs. -/
def initAnalog (rs : List Anin) (custom : List (Option CoeffSet)) (other : Option (List AnChan)) : AnalogState :=
  { chans := (List.range 16).map fun n =>
      match aninOf rs n with
      | none => { (default : AnChan) with cause := 5, set := 0xFF }
      | some r =>
        let stopped := { (default : AnChan) with cause := 3, set := r.coeffSet }
        match other with
        | some os =>
          let o := nth default os n
          if o.running then stopped.act r custom true o.alt else { stopped with alt := o.alt, set := r.slotOf o.alt }
        | none => if r.flags.testBit 1 then stopped.act r custom true false else stopped,
    outs := List.replicate 16 default, levels := List.replicate 16 false, runs := List.replicate 16 0,
    raws := List.replicate 16 false, latched := List.replicate 16 false, fault := false, cut := List.replicate 16 none }

end Sys2Proof.Machine
end

