-- ==== Sys2Proof/Machine/SafePath.lean ====
section
/-!
DEFINITION. The safety path (13): filters and test pulses, input checks, the transitions of each function, votes, output
faults, switch tests, and the evaluation of one voter in one safety tick.
-/

namespace Sys2Proof.Machine

/-! ## Inputs (13 R392 to R395) -/

/-- Level of a channel in its on condition; channel 1 when `second` is false. -/
def onLevel (mode : Nat) (second : Bool) : Bool := if mode = 2 ∨ mode = 4 then !second else true

/-- A channel at the start of a voter: the level of an input that is off (13 R393). -/
def SafeChan.start (mode : Nat) (second : Bool) : SafeChan :=
  { (default : SafeChan) with level := !onLevel mode second, raw := !onLevel mode second }

/-- Inputs at the start of a voter. -/
def startInputs (r : SafeRec) : List SafeInput :=
  (List.range 12).map fun n =>
    let m := nth 0 r.inputMode n
    { (default : SafeInput) with ch1 := SafeChan.start m false, ch2 := SafeChan.start m true }

/-- One raw sample of a channel with its own source line (13 R393, R394). -/
def SafeChan.sample (filter : Nat) (checked raw sourceLow : Bool) (c : SafeChan) : SafeChan :=
  let run := if raw = c.raw then c.run + 1 else 1
  let took := decide (filter ≤ run)
  let level := if took then raw else c.level
  let ended := c.pulsing && !sourceLow
  { level := level, raw := raw, run := min run filter, settled := c.settled || took, pulsing := sourceLow,
    sawLow := if sourceLow then (c.sawLow && c.pulsing) || !raw else c.sawLow,
    missed := if !checked then 0
      else if ended then (if c.level && !c.sawLow then min 3 (c.missed + 1) else 0) else c.missed }

/-- One sample of every input: `raw` has bit 2n channel 1 and bit 2n + 1 channel 2 of input n. -/
def sampleInputs (r : SafeRec) (g : PulseSource) (raw : Nat) (ins : List SafeInput) : List SafeInput :=
  ins.mapIdx fun n i =>
    let m := nth 0 r.inputMode n
    if m = 0 then i
    else
      let f := nth 48 r.inputFilter n
      let chk := r.testPulses.testBit n && decide (m = 1 ∨ m = 2 ∨ m = 4)
      let pulsed := g.mask.testBit n
      { i with ch1 := i.ch1.sample f chk (raw.testBit (2 * n)) (g.t1Low && pulsed),
               ch2 := i.ch2.sample f chk (raw.testBit (2 * n + 1)) (g.t2Low && pulsed) }

/-- Whether an input has a fault. -/
def SafeInput.fault (i : SafeInput) : Bool := i.discFault || i.pulseFault

/-- The input checks of a tick (13 R394, R395). -/
def SafeInput.check (mode disc : Nat) (i : SafeInput) : SafeInput :=
  if mode = 0 then { i with on := false }
  else
    let c1 := i.ch1.level == onLevel mode false
    let c2 := i.ch2.level == onLevel mode true
    let bothOff := !c1 && !c2
    let counted := i.ch1.settled && i.ch2.settled && (c1 != c2)
    let run := if counted then min disc (i.discRun + 1) else 0
    { i with on := c1 && c2, discRun := run,
             discFault := if bothOff then false else i.discFault || (counted && decide (disc ≤ run)),
             pulseFault := if bothOff then false else i.pulseFault || i.ch1.missed == 3 || i.ch2.missed == 3,
             ch1 := { i.ch1 with missed := if bothOff then 0 else i.ch1.missed },
             ch2 := { i.ch2 with missed := if bothOff then 0 else i.ch2.missed } }

/-- A reset input after a tick (13 R401): the hold, whether a reset is accepted, whether a hold is refused. -/
def SafeInput.resetStep (mode : Nat) (i : SafeInput) : SafeInput × Bool × Bool :=
  if mode ≠ 4 ∨ i.fault = true then ({ i with hold := 0 }, false, false)
  else if i.on then ({ i with hold := min 3000 (i.hold + 1) }, false, false)
  else
    let ok := decide (300 ≤ i.hold) && decide (i.hold < 3000)
    ({ i with hold := 0 }, ok, i.hold != 0 && !ok)

/-! ## Instances (13 R396 to R402) -/

/-- What an instance sees in a tick. -/
structure InstCtx where
  onA : Bool
  onB : Bool
  /-- Cause of a fault that holds now: 1, 2, 3, or 0. -/
  fault : Nat
  reset : Bool
  /-- Both other voters report the instance ON. -/
  othersOn : Bool
  deriving DecidableEq, Repr, Inhabited

/-- Enter a state. -/
def InstState.enter (i : InstState) (m : InstMode) : InstState :=
  if m = i.mode then i else { i with mode := m, time := 0, gap := none }

/-- Emergency stop, guard door and light curtain (13 R397, R398, R400). -/
def InstState.single (r : SafeInst) (c : InstCtx) (i : InstState) : InstState :=
  let auto_ := r.flags.testBit 0 && r.function != 1
  let test := r.flags.testBit 1 && r.function != 1
  match i.mode with
  | .init =>
    if !c.onA then { i.enter .off with startDone := true } else if test then i else i.enter .armed
  | .off => if c.onA then i.enter .armed else i
  | .armed => if !c.onA then i.enter .off else if auto_ || c.reset then i.enter .on else i
  | .on => if !c.onA then i.enter .off else i
  | .lockout => if c.reset then (if c.onA then { i.enter .on with cause := 0 } else { i.enter .off with cause := 0 }) else i

/-- Two-hand control (13 R399): the state and whether a gap reached the window. -/
def InstState.twoHand (w : Nat) (c : InstCtx) (i : InstState) : InstState × Bool :=
  let none_ := !c.onA && !c.onB
  match i.mode with
  | .init | .off => (if none_ then i.enter .armed else i, false)
  | .armed =>
    match i.gap with
    | none =>
      if c.onA && c.onB then (i.enter .on, false)
      else if none_ then (i, false)
      else ({ i with gap := some (c.onA, 0) }, false)
    | some (first, g) =>
      let n := g + 1
      let firstOn := if first then c.onA else c.onB
      if w ≤ n then (i.enter .off, true)
      else if !firstOn then (i.enter .off, false)
      else if c.onA && c.onB then (i.enter .on, false)
      else ({ i with gap := some (first, n) }, false)
  | .on => (if c.onA && c.onB then i else i.enter .off, false)
  | .lockout => (if c.reset && none_ then { i.enter .armed with cause := 0 } else i, false)

/-- One instance in one tick (13 R396 to R402): the state, whether a two-hand gap was refused, whether a reset found a
fault not cleared. -/
def InstState.step (r : SafeInst) (c : InstCtx) (i : InstState) : InstState × Bool × Bool :=
  let i := { i with time := satInc 16 i.time }
  if c.fault ≠ 0 then
    if i.mode = .lockout then (i, false, c.reset) else ({ i.enter .lockout with cause := c.fault, joined := false }, false, false)
  else
    let inputsOn := c.onA && (r.function != 3 || c.onB)
    if i.mode = .init ∧ c.othersOn = true ∧ inputsOn = true then ({ i.enter .on with joined := true }, false, false)
    else if r.function = 3 then
      let (j, g) := i.twoHand r.simultaneity c
      (j, g, false)
    else (i.single r c, false, false)

/-- An instance sent to LOCKOUT by a change of the SAFE record (13 R387, R396). -/
def InstState.lockChange (i : InstState) : InstState := { i.enter .lockout with cause := 4 }

/-! ## Votes and outputs (13 R385, R389 to R391, R396) -/

/-- Votes of a voter: `hashOk` says that its SAFE hash equals the Baize's. -/
def formVotes (r : SafeRec) (insts : List InstState) (outFault : Nat) (hashOk : Bool) : Nat :=
  sumN ((List.range 8).map fun n =>
    let named := r.insts.filter fun x => x.outputs.testBit n
    let on := hashOk && !named.isEmpty && !outFault.testBit n
      && named.all fun x => decide ((nth default insts x.inst).mode = .on)
    if on then 3 * 4 ^ n else 0)

/-- Which voter an evaluation is of, and what it is given. -/
structure SafeCtx where
  who : Unit3
  safe : SafeRec
  /-- Safety tick is late: the votes are off for the frame (13 R388). -/
  late : Bool
  rb : Option SafeReadback
  test : Option SwitchTest
  slot : Nat
  motion : Nat
  deriving DecidableEq, Repr

/-- Closed masks of the voter itself and of the other two, as read back. -/
def SafeReadback.closed (b : SafeReadback) (u : Unit3) : Nat :=
  match u with
  | .lane .a => b.a1 &&& b.a2
  | .lane .b => b.b1 &&& b.b2
  | .baize => b.z1 &&& b.z2

/-- Both switches of a voter, as read back. -/
def SafeReadback.pair (b : SafeReadback) (u : Unit3) : Nat × Nat :=
  match u with
  | .lane .a => (b.a1, b.a2)
  | .lane .b => (b.b1, b.b2)
  | .baize => (b.z1, b.z2)

/-- Voters whose switches of a channel read closed. -/
def SafeReadback.closedCount (b : SafeReadback) (ch : Nat) : Nat :=
  b2n ((b.closed (.lane .a)).testBit ch) + b2n ((b.closed (.lane .b)).testBit ch) + b2n ((b.closed .baize).testBit ch)

/-- Output checks of a tick (13 R389). -/
def Voter.checkOutputs (who : Unit3) (b : SafeReadback) (v : Voter) : Voter :=
  let own := fun (ch : Nat) => let p := b.pair who; (p.1.testBit ch != v.cmd.testBit ch) || (p.2.testBit ch != v.cmd.testBit ch)
  let term := fun (ch : Nat) => b.terminals.testBit ch != decide (2 ≤ b.closedCount ch)
  let sw := (List.range 16).map fun ch => if own ch then min 2 (nth 0 v.swRun ch + 1) else 0
  let tr := (List.range 16).map fun ch =>
    if term ch && (decide (1 ≤ nth 0 v.cmdAge ch) || nth 0 v.termRun ch != 0) then min 2 (nth 0 v.termRun ch + 1) else 0
  let bad := fun (n : Nat) => [2 * n, 2 * n + 1].any fun ch => nth 0 sw ch == 2 || nth 0 tr ch == 2
  let ok := fun (n : Nat) => [2 * n, 2 * n + 1].all fun ch => !own ch && !term ch
  let ag := (List.range 8).map fun n => if ok n then min 10 (nth 0 v.agreeRun n + 1) else 0
  { v with swRun := sw, termRun := tr, agreeRun := ag, terminals := b.terminals % 65536,
           outFault := sumN ((List.range 8).map fun n =>
             if bad n then 2 ^ n else if nth 0 ag n = 10 then 0 else if v.outFault.testBit n then 2 ^ n else 0) }

/-- Motion index of a voter's switch tests (13 R390). -/
def testMotion (u : Unit3) : Nat := match u with | .lane .a => 10 | .lane .b => 20 | .baize => 30

/-- A switch test judged (13 R390): a failure is an output fault. -/
def Voter.judgeTest (c : SafeCtx) (v : Voter) : Voter :=
  match c.test with
  | some t =>
    if c.motion = testMotion c.who ∧ c.slot < 16 ∧ v.cmd.testBit c.slot = true ∧ t.othersAtStart = true then
      if (t.terminalOn && !t.ownOpen) || (!t.terminalOn && t.othersAtEnd) then
        { v with outFault := if v.outFault.testBit (c.slot / 2) then v.outFault else v.outFault + 2 ^ (c.slot / 2),
                 agreeRun := v.agreeRun.set (c.slot / 2) 0 }
      else v
    else v
  | none => v

/-- The exchange frame of another voter as last received. -/
def Voter.heard (v : Voter) : Unit3 → Option Exchange
  | .lane .a => v.fromA
  | .lane .b => v.fromB
  | .baize => v.fromBaize

/-- Fault of an instance in a tick: the lowest cause (13 R396). -/
def instFault (r : SafeInst) (ins : List SafeInput) (outFault : Nat) : Nat :=
  let a := nth default ins r.inputA
  let b := nth default ins r.inputB
  let two := r.function == 3
  if a.discFault || (two && b.discFault) then 1
  else if a.pulseFault || (two && b.pulseFault) then 2
  else if (r.outputs &&& outFault) != 0 then 3 else 0

/-- The SAFE hash condition of R396: a lane's hash equals the Baize hash it holds; the Baize holds its own record. -/
def Voter.hashOk (who : Unit3) (hash : Bytes) (v : Voter) : Bool :=
  match who with
  | .baize => true
  | .lane _ => v.baizeHash == some hash

/-- Checks of inputs and resets in a tick: inputs, resets accepted and refused per input. -/
def checkInputs (r : SafeRec) (ins : List SafeInput) : List SafeInput × List Bool × List Bool :=
  let ins := ins.mapIdx fun n i => i.check (nth 0 r.inputMode n) (nth 100 r.discTime n)
  let rs := ins.mapIdx fun n i => i.resetStep (nth 0 r.inputMode n)
  (rs.map (·.1), rs.map (·.2.1), rs.map (·.2.2))

/-- Transitions of every instance in a tick: states, refused gaps, resets that found a fault. -/
def stepInsts (c : SafeCtx) (v : Voter) (ins : List SafeInput) (resets : List Bool) : List (InstState × Bool × Bool) :=
  v.insts.mapIdx fun n i =>
    match c.safe.insts.find? fun x => x.inst == n with
    | some r =>
      let others := c.who.others.all fun u => match v.heard u with | some e => nth 0 e.states n == 3 | none => false
      i.step r ⟨(nth default ins r.inputA).on, (nth default ins r.inputB).on, instFault r ins v.outFault,
        nth false resets r.resetInput, others⟩
    | none => (i, false, false)

/-- Codes of the inputs, the instances and the outputs after a tick (13 R408). -/
def Voter.codes (c : SafeCtx) (v : Voter) (gaps found : List Bool) (refused : Bool) : List AlarmOp :=
  let ins := (v.inputs.mapIdx fun n i =>
    [AlarmOp.whileOn i.discFault ⟨.sf, 10⟩ n 0, AlarmOp.whileOn i.pulseFault ⟨.sf, 11⟩ n 0]).flatten
  let sts := (c.safe.insts.map fun r =>
    let m := (nth default v.insts r.inst).mode
    let off := decide (m = .off)
    let waits := decide (m = .init) && r.flags.testBit 1 && r.function != 1 && r.function != 3
    (if r.function = 1 then [AlarmOp.whileOn off ⟨.sf, 1⟩ r.inst 0]
     else if r.function = 2 then [AlarmOp.whileOn off ⟨.sf, 2⟩ r.inst 0]
     else if r.function = 4 then [AlarmOp.whileOn off ⟨.sf, 4⟩ r.inst 0]
     else if nth false gaps r.inst then [AlarmOp.raise ⟨.sf, 3⟩ r.inst 0]
     else if off then [] else [AlarmOp.clear ⟨.sf, 3⟩ r.inst]) ++ [AlarmOp.whileOn waits ⟨.sf, 12⟩ r.inst 0]).flatten
  let outs := (List.range 8).map fun n => AlarmOp.whileOn (v.outFault.testBit n) ⟨.sf, 20⟩ n 0
  ins ++ sts ++ outs ++ AlarmOp.ifOn (refused || found.any id) ⟨.sf, 13⟩ 0 0 ++
    AlarmOp.ifOn c.late ⟨.sf, 31⟩ c.who.index 0 ++
    [AlarmOp.whileOn (v.diffRun.any fun n => n == 10) ⟨.sf, 21⟩ c.who.index 0]

/-- Ticks each channel's vote has differed from both others' (13 R391). -/
def Voter.differ (who : Unit3) (votes : Nat) (v : Voter) : List Nat :=
  (List.range 16).map fun ch =>
    let d := who.others.all fun u => match v.heard u with | some e => e.votes.testBit ch != votes.testBit ch | none => false
    if d = true then min 10 (nth 0 v.diffRun ch + 1) else 0

/-- One safety tick of a voter (13 R384, R388, R396): inputs, checks, transitions, votes, transfer (DEDUCED: log entry 80). -/
def Voter.evaluate (c : SafeCtx) (v : Voter) : Voter × List AlarmOp :=
  let v := match c.rb with | some b => v.checkOutputs c.who b | none => v
  let v := v.judgeTest c
  let i := checkInputs c.safe v.inputs
  let st := stepInsts c v i.1 i.2.1
  let insts := st.map (·.1)
  let votes := formVotes c.safe insts v.outFault (v.hashOk c.who c.safe.hash)
  let cmd := if c.late then 0 else votes
  let age := (List.range 16).map fun ch => if cmd.testBit ch == v.cmd.testBit ch then min 10 (nth 0 v.cmdAge ch + 1) else 0
  let v := { v with inputs := i.1, insts := insts, votes := votes, cmd := cmd, cmdAge := age, diffRun := v.differ c.who votes,
                    evaluated := v.evaluated || !c.late, watchdog := v.watchdog && c.late,
                    missed := if c.late then satInc 16 v.missed else v.missed, missedNow := v.missedNow || c.late }
  (v, v.codes c (st.map (·.2.1)) (st.map (·.2.2)) (i.2.2.any id))

/-- A voter at its start: every instance in INIT (13 R393, R396). -/
def Voter.start (r : SafeRec) : Voter :=
  { (default : Voter) with inputs := startInputs r, insts := List.replicate 24 default, swRun := List.replicate 16 0,
                           termRun := List.replicate 16 0, cmdAge := List.replicate 16 0, agreeRun := List.replicate 8 0,
                           diffRun := List.replicate 16 0 }

/-- What a voter's exchange frame carries; no hash while it holds no record (13 R387). -/
def Voter.exchange (hash : Option Bytes) (v : Voter) : Exchange :=
  { hash := hash, baizeHash := v.baizeHash, states := v.insts.map (·.mode.code), votes := v.votes }

/-- A lane's view of the Baize hash after an exchange frame (13 R387). -/
def Voter.takeHash (from_ : Unit3) (e : Exchange) (v : Voter) : Voter :=
  match from_ with
  | .baize => match e.hash with | some h => { v with baizeHash := some h, baizeDirect := true } | none => v
  | .lane _ => if v.baizeDirect then v else match e.baizeHash with | some h => { v with baizeHash := some h } | none => v

/-- An exchange frame arrives at a voter (13 R387). -/
def Voter.receive (dest from_ : Unit3) (e : Exchange) (v : Voter) : Voter :=
  let v := match from_ with
    | .lane .a => { v with fromA := some e }
    | .lane .b => { v with fromB := some e }
    | .baize => { v with fromBaize := some e }
  match dest with | .lane _ => v.takeHash from_ e | .baize => v

/-- Start of a mission cycle: missed transfers and SF-021 (13 R391, R406). -/
def Voter.mission (v : Voter) : Voter :=
  { v with missedLast := v.missedNow, missedNow := false,
           diffMissions := if v.diffRun.any fun n => n == 10 then min 600 (v.diffMissions + 1) else 0 }

end Sys2Proof.Machine
end

