-- ==== Sys2Proof/Machine/TypesBaize.lean ====
section
/-!
DEFINITION. Plain-data types of the Baize (02 R48 to R70).
-/

namespace Sys2Proof.Machine

/-- A lane as the Baize knows it (02 R43, R48, R49, R55). -/
structure LaneView where
  last : Option Heartbeat
  /-- Consecutive Baize frames without a valid heartbeat. -/
  missing : Nat
  /-- A valid heartbeat arrived in the Baize frame in progress, and in the last one. -/
  seenNow : Bool
  seenLast : Bool
  /-- Declared failed, and the cause carried. -/
  failed : Bool
  /-- The transmit inhibit line of the lane (02 R37). -/
  inhibit : Bool
  /-- Order in force for the lane: 0 none, 1 take over, 2 demote, 3 switch (02 R48). -/
  order : Nat
  /-- Last status frame sent. -/
  out : Bytes
  deriving DecidableEq, Repr, Inhabited

/-- The Baize (02 R48 to R70), with its calendar clock and its voter. -/
structure BaizeState where
  powered : Bool
  ready : Bool
  /-- Baize frame count, 32 bits. -/
  frame : Nat
  slot : Nat
  motion : Nat
  /-- Only the home lane may be granted ACTIVE (02 R51); Baize frames since ready, up to the end of that period. -/
  homeOnly : Bool
  sinceReady : Nat
  active : Option Lane
  /-- The lane that was active before, until its transmitters are inhibited or it reports STANDBY (02 R55). -/
  former : Option Lane
  viewA : LaneView
  viewB : LaneView
  /-- Newest takeover sequence known. -/
  seq : Nat
  coresAgree : Bool
  /-- Revert hold-off running: Baize frames counted (02 R61); suspended by an installer switch (02 R62). -/
  holdoff : Option Nat
  suspended : Bool
  /-- A switch ordered for the next slot 0: the lane to become ACTIVE, and whether it is a revert. -/
  switchTo : Option Lane
  reverting : Bool
  /-- The last failure of the active lane found no ready lane (02 R49 row 10). -/
  noLane : Bool
  /-- Changeover contacts: the connected lane; the lane whose contacts close 50 µs after its t1 (02 R53). -/
  contacts : Option Lane
  closing : Option Lane
  /-- The lane that last timed the SSI clock driver; none until contacts first close (11 R326). -/
  ssiClock : Option Lane
  cal : Calendar
  voter : Voter
  safe : Option SafeRec
  /-- The lane whose SAFE record the Baize takes (13 R387). -/
  safeFrom : Option Lane
  alarms : List Alarm
  deriving DecidableEq, Repr, Inhabited

end Sys2Proof.Machine
end

