-- ==== Sys2Proof/Machine/Blank.lean ====
section
/-!
DEFINITION. What each part of the block holds before anything has happened to it: at power-up of the part, and in
State.reset. Where a chapter gives a reset value it stands here; every other value is zero, empty, off or false
(DESIGN CHOICE, log entry 1).
-/

namespace Sys2Proof.Machine

/-- Frame indices at a lane's power-up (00 R8; 01 R12) (DESIGN CHOICE: log entry 1). -/
def FrameState.blank : FrameState := { (default : FrameState) with acks := [true, true, true, true] }

/-- Every self-test item before its first completion (DESIGN CHOICE: log entry 1). -/
def HealthState.blank : HealthState :=
  { (default : HealthState) with vectors := List.replicate 4 default, gnssLow := [0, 0], busOk := 1000 }

/-- An antenna with its bias and front ends in use and its 120 slots idle (05 R141, R142) (DESIGN CHOICE: log entry 1). -/
def AntennaState.blank : AntennaState :=
  { (default : AntennaState) with biasOn := true, highOk := true, lowOk := true, slots := List.replicate 120 GnssSlot.idle }

/-- The GNSS receiver at its start (05) (DESIGN CHOICE: log entry 1). -/
def GnssState.blank : GnssState :=
  { (default : GnssState) with ant0 := AntennaState.blank, ant1 := AntennaState.blank, modeRuns := [0, 0, 0, 0],
                               offsets := List.replicate 3 default,
                               pvt := { (default : Pvt) with corrAge := 0xFFFF } }

/-- The references at lane start: each one enabled in the image ABSENT for want of a measurement, selected as its entry says
(06 R194 to R196); the one that serves the target tracker DISABLED (08 R253) (DESIGN CHOICE: log entry 1). -/
def RefsState.blank (recs : List RefRec) (target : Nat) : RefsState :=
  { (default : RefsState) with
    refs := (List.range 26).map fun n =>
      match recs.find? fun r => r.refId == n with
      | some r => { (default : RefState) with mode := if r.flags.testBit 0 ∧ n ≠ target then .absent else .disabled,
                                              reason := 0x0A, kept := 0x0A, selected := r.flags.testBit 3 }
      | none => { (default : RefState) with reason := 0x0A, kept := 0x0A }
    ports := List.replicate 12 default }

/-- The observer at lane start (07) (DESIGN CHOICE: log entry 1). -/
def ObserverState.blank : ObserverState :=
  { (default : ObserverState) with edge := [0, 0, 0], inside := [0, 0, 0] }

/-- Vessel control at lane start: standby, gain bank 0, no request (08 R243, R263) (DESIGN CHOICE: log entry 1). -/
def ControlState.blank : ControlState :=
  { (default : ControlState) with requested := 0xFF, verdict := 2, edit := List.replicate 64 none, gwClear := [50, 50, 50],
                                  groups := List.replicate 40 default }

/-- Allocation at lane start (09) (DESIGN CHOICE: log entry 1). -/
def AllocState.blank (thru : List Thru) : AllocState :=
  { (default : AllocState) with acts := initActs thru, kind := 2, posedActs := List.replicate 41 [], posedPow := List.replicate 41 [],
                                eng := { (default : Engine) with stores := List.replicate 42 [] } }

/-- The loop engine at lane start (10) (DESIGN CHOICE: log entry 1). -/
def LoopState.blank (axes : List AxisRec) (thru : List Thru) : LoopState :=
  { (default : LoopState) with axes := initAxes axes thru, buffer := List.replicate 72 default }

/-- The clock registers (15 R441) (DESIGN CHOICE: log entry 1). -/
def ClockState.blank : ClockState := { (default : ClockState) with incr := 8 * 2 ^ 40, incrNs := 8 }

/-- The network side at power-up (DESIGN CHOICE: log entry 1). -/
def NetState.blank : NetState :=
  { (default : NetState) with
    lanA := { (default : Port) with tokens := 65536 }, lanB := { (default : Port) with tokens := 65536 },
    service := { (default : Port) with tokens := 65536 }, partner := { (default : Port) with tokens := 65536 } }

/-- The one-step registers reset to 1 (15 R443). -/
def OneStep.blank : OneStep := ⟨true, true, 0⟩

/-- Both banks not checked since start (03 R102) (DESIGN CHOICE: log entry 1). -/
def CellarState.blank : CellarState :=
  { (default : CellarState) with selected := 0xFF, running := 0xFF, bank0 := ⟨3, 0, zeros 32⟩, bank1 := ⟨3, 0, zeros 32⟩,
                                 runningHash := zeros 32 }

/-- The Attic of a module as delivered: both feeds claimed (04 R118), key store and coefficient slots empty
(DESIGN CHOICE: log entry 1). -/
def AtticState.blank : AtticState :=
  { (default : AtticState) with claim1 := true, claim2 := true, coeffs := List.replicate 4 none }

/-- The supply of a lane before a feed is good (DESIGN CHOICE: log entry 1). -/
def PowerState.blank : PowerState := { (default : PowerState) with inRun := [0, 0] }

/-- The peer before anything is heard of it (DESIGN CHOICE: log entry 1). -/
def PeerView.blank : PeerView := { (default : PeerView) with crossAge := [0, 0, 0, 0] }

/-- A voter with no SAFE record (DESIGN CHOICE: log entry 1). -/
def Voter.blank : Voter := Voter.start default

/-- The Canvas: five regions idle (DESIGN CHOICE: log entry 1). -/
def CanvasState.blank : CanvasState :=
  { (default : CanvasState) with rails := .down, regions := List.replicate 5 default }

/-- The Muslin link with both serial lanes up (DESIGN CHOICE: log entry 1). -/
def MuslinState.blank : MuslinState := { (default : MuslinState) with serial0 := true, serial1 := true }

end Sys2Proof.Machine
end

