-- ==== Sys2Proof/Machine/State.lean ====
section
/-!
DEFINITION. The state of the block: two lanes, the Baize, the Canvas, the shared outputs, the cellar keys, and the queue
of commands that wait; the reasons a step can stop; the state after reset.
-/

namespace Sys2Proof.Machine

/-- Who raises a fault: no command does, since the spec gives every row of the table an effect. -/
inductive Fault where
  /-- Raised by nobody. Safe. -/
  | unused
  deriving DecidableEq, Repr, Inhabited

/-- Why a command is refused by the model. -/
inductive Refusal where
  /-- Raised by an arm of exec whose command has no meaning yet; the string is the row's mnemonic. Safe. -/
  | notModelled (mnemonic : String)
  deriving DecidableEq, Repr, Inhabited

/-- A state copy (02 R44), in parts: what the active lane sends and the other lane keeps. -/
structure StateCopy where
  lane : Lane
  seq : Nat
  frame : Nat
  peerFrame : Nat
  layoutId : Nat
  ctrl : ControlState
  obs : ObserverState
  alloc : AllocState
  axes : List AxisSlot
  refs : List RefState
  alarms : List Alarm
  partner : Option PartnerMsg
  takeoverSeq : Nat
  holdoff : Option Nat
  deriving DecidableEq, Repr, Inhabited

/-- One lane (02 R35). -/
structure LaneState where
  frame : FrameState
  life : LifeState
  power : PowerState
  cal : Calendar
  attic : AtticState
  cellar : CellarState
  maker : MakerState
  ledger : LedgerState
  larder : LarderState
  image : Option Image
  /-- Eligible (04 R129). -/
  eligible : Bool
  peer : PeerView
  link : BaizeLink
  muslin : MuslinState
  partner : PartnerState
  health : HealthState
  clock : ClockState
  stamps : List StampUnit
  oneStep : List OneStep
  ptp : PtpState
  src : SourceState
  pulses : List PulseGen
  net : NetState
  ses : SessionState
  gnss : GnssState
  refs : RefsState
  obs : ObserverState
  ctrl : ControlState
  alloc : AllocState
  loop : LoopState
  fb : FbState
  can : CanState
  voter : Voter
  analog : AnalogState
  alarms : List Alarm
  /-- Frames sent at the last tick: heartbeat (or abdication frame); the other lane and the Baize receive them. -/
  hbOut : Bytes
  copyOut : Option StateCopy
  /-- The two copy buffers; the newer first (02 R45). -/
  copyNew : Option StateCopy
  copyOld : Option StateCopy
  /-- Frames since a status of the Canvas controller reached the lane (17 R494); content of the regions as last sent, and
  of the requests under way to the controller (17 R480). -/
  canvasAge : Nat
  canvasSent : List (Option Bytes)
  canvasOut : List (Option Bytes)
  deriving DecidableEq, Repr, Inhabited

/-- The block. -/
structure State where
  /-- Commands that wait, first in, first out. -/
  pending : List Instr
  /-- The model's own: numbers the free values (log entry 2). -/
  fresh : Nat
  variant : Variant
  serial : Nat
  laneA : LaneState
  laneB : LaneState
  keyA : Option Key
  keyB : Option Key
  baize : BaizeState
  canvas : CanvasState
  /-- The generator of the safety I/O (13 R394). -/
  pulse : PulseSource
  /-- Sample-and-hold of the 16 analog outputs and the 8 discrete outputs (02 R36); overload of the discrete outputs. -/
  analogOut : List OutWord
  discreteOut : List Bool
  overload : List Bool
  deriving DecidableEq, Repr, Inhabited

/-- A lane without power, as a module is before its first feed is good (DESIGN CHOICE: log entry 1). -/
def LaneState.reset : LaneState :=
  { frame := FrameState.blank, life := default, power := PowerState.blank, cal := default, attic := AtticState.blank,
    cellar := CellarState.blank, maker := default, ledger := default, larder := default, image := none, eligible := false,
    peer := PeerView.blank, link := default, muslin := MuslinState.blank, partner := default, health := HealthState.blank,
    clock := ClockState.blank, stamps := List.replicate 8 default, oneStep := [OneStep.blank, OneStep.blank],
    ptp := default, src := default, pulses := [default, default], net := NetState.blank, ses := default,
    gnss := GnssState.blank, refs := RefsState.blank [] 0, obs := ObserverState.blank, ctrl := ControlState.blank,
    alloc := AllocState.blank [], loop := LoopState.blank [] [], fb := ⟨initChans [] false, 0⟩, can := initCan [],
    voter := Voter.blank, analog := initAnalog [] [] none, alarms := [], hbOut := [], copyOut := none, copyNew := none,
    copyOld := none, canvasAge := 0, canvasSent := List.replicate 5 none,
    canvasOut := List.replicate 5 none }

/-- The block right after reset: no feed good, no key in a socket, nothing waiting. -/
def State.reset : State :=
  { pending := [], fresh := 0, variant := .x, serial := 0, laneA := LaneState.reset, laneB := LaneState.reset,
    keyA := none, keyB := none, baize := { (default : BaizeState) with voter := Voter.blank }, canvas := CanvasState.blank,
    pulse := ⟨0x0FFF, false, false⟩, analogOut := List.replicate 16 OutWord.powerUp, discreteOut := List.replicate 8 false,
    overload := List.replicate 8 false }

end Sys2Proof.Machine
end

