-- ==== Sys2Proof/Machine/Ops.lean ====
section
/-!
DEFINITION. Operations every command shares: the lanes of the state, raising and clearing codes with their event records,
module time, and the module's conditions (which lane acts, whether it is unrefereed).
-/

namespace Sys2Proof.Machine

/-- What a command answers. -/
abbrev Result := Host.Outcome State Fault Refusal

/-! ## Lanes -/

def State.lane (s : State) : Lane → LaneState
  | .a => s.laneA
  | .b => s.laneB

def State.setLane (s : State) (l : Lane) (x : LaneState) : State :=
  match l with
  | .a => { s with laneA := x }
  | .b => { s with laneB := x }

def State.onLane (s : State) (l : Lane) (f : LaneState → LaneState) : State := s.setLane l (f (s.lane l))

def State.key (s : State) : Lane → Option Key
  | .a => s.keyA
  | .b => s.keyB

def State.setKey (s : State) (l : Lane) (k : Option Key) : State :=
  match l with
  | .a => { s with keyA := k }
  | .b => { s with keyB := k }

/-- A fresh number for a free value (log entry 2). -/
def State.tick (s : State) : State := { s with fresh := s.fresh + 1 }

def BaizeState.view (b : BaizeState) : Lane → LaneView
  | .a => b.viewA
  | .b => b.viewB

def BaizeState.setView (b : BaizeState) (l : Lane) (v : LaneView) : BaizeState :=
  match l with
  | .a => { b with viewA := v }
  | .b => { b with viewB := v }

def State.onBaize (s : State) (f : BaizeState → BaizeState) : State := { s with baize := f s.baize }

/-! ## Codes (00 R10; 16 R469) -/

/-- Codes with an event record: severity alarm or fault, and four cautions (16 R469). -/
def recordedNumbers : Area → List Nat
  | .al => [7, 8, 12, 20, 40]
  | .an => [1, 30, 31, 40]
  | .bz => [1]
  | .cl => [1, 3, 4, 11, 21]
  | .cv => [1, 3]
  | .db => [3, 7, 10, 12, 15]
  | .fb => [4, 10, 12, 13, 20]
  | .gn => [1, 2, 10, 40, 41, 42]
  | .la => [20]
  | .ln => [1, 2, 3, 4, 5, 6, 7, 21, 30, 31, 51, 52, 53]
  | .lp => [1, 2, 5]
  | .nt => [2]
  | .ob => [11, 13, 50]
  | .pw => [1, 5, 21, 30]
  | .rf => [20, 40, 41, 50]
  | .sf => [1, 4, 10, 11, 20, 30, 40, 41]
  | .tm => [2, 3, 13, 20]
  | .vc => [11, 20, 33, 34, 41, 42]

def recorded (c : Code) : Bool := (recordedNumbers c.area).contains c.num

/-- The staging entry of one occurrence in a lane (16 R468, R474) (DESIGN CHOICE: log entry 29). -/
def LaneState.occurrence (x : LaneState) (c : Code) (cause : Nat) (detail : Bytes) : Staged :=
  ⟨eventKey c, c, 1, x.clock.s, x.clock.ns, x.clock.s, x.clock.ns, x.frame.number, x.src.quality.code, x.life.state.code,
   cause, detail⟩

/-- One operation on a lane's active codes; an occurrence of a recorded code is staged, and a full table raises LA-010. -/
def LaneState.alarm (x : LaneState) (op : AlarmOp) (detail : Bytes) : LaneState :=
  let lst := AlarmOp.stamp x.alarms (op.apply x.alarms) x.clock.s
  match op.occurs x.alarms with
  | some (c, cause) =>
    if recorded c then
      let r := x.larder.stage (x.occurrence c cause detail)
      { x with alarms := if r.2 then (AlarmOp.raise ⟨.la, 10⟩ 0 0).apply lst else lst, larder := r.1 }
    else { x with alarms := lst }
  | none => { x with alarms := lst }

/-- Operations on a lane's active codes, in order. -/
def LaneState.codes (x : LaneState) (ops : List AlarmOp) : LaneState := ops.foldl (fun y op => y.alarm op []) x

/-- Raise one code in a lane (DESIGN CHOICE: log entry 28). -/
def LaneState.raise (x : LaneState) (c : Code) (item cause : Nat) : LaneState := x.alarm (.raise c item cause) []

/-- Clear one code in a lane (DESIGN CHOICE: log entry 28). -/
def LaneState.clear (x : LaneState) (c : Code) (item : Nat) : LaneState := x.alarm (.clear c item) []

/-- Operations on the Baize's codes. -/
def BaizeState.codes (b : BaizeState) (ops : List AlarmOp) : BaizeState :=
  { b with alarms := ops.foldl AlarmOp.apply b.alarms }

/-! ## Module time (00 R8) -/

def LaneState.nowNs (x : LaneState) : Nat := x.clock.total

/-! ## Conditions of the module -/

def LaneState.active (x : LaneState) : Bool := x.life.state == .active

/-- Past its start, and neither FAILED nor without power: the lane runs its slices (02 R39). -/
def LaneState.runs (x : LaneState) : Bool :=
  match x.life.state with
  | .standby | .active | .isolated => true
  | _ => false

/-- The lane whose state is ACTIVE, the home lane first where both say so (02 R68). -/
def State.activeLane (s : State) : Option Lane :=
  if s.laneA.active then (if s.laneB.active then some (if s.baize.contacts = some .b then .b else .a) else some .a)
  else if s.laneB.active then some .b else none

/-- The ROLE record of a lane's image; the defaults of 02 R72 without an image. -/
def LaneState.role (x : LaneState) : RoleRec :=
  match x.image with
  | some i => i.role
  | none => { (default : RoleRec) with revertHoldoff := 60, shadowPosLimit := 50, shadowHeadingLimit := 50, partnerDi := 0xFF,
                                       partnerDo := 0xFF, writeTimeout := 30 }

def LaneState.homeLane (x : LaneState) : Lane := if x.role.homeLane = 1 then .b else .a

/-- The home lane as the running images give it (02 R72): the active lane's image first. -/
def State.home (s : State) : Lane :=
  match s.activeLane with
  | some l => (s.lane l).homeLane
  | none => if s.laneA.image.isSome then s.laneA.homeLane else s.laneB.homeLane

/-- Unrefereed: both lanes see the Baize absent (02 R66). -/
def State.unrefereed (s : State) : Bool := s.laneA.link.absent && s.laneB.link.absent

/-- The lane whose outputs are connected (02 R35, R53, R68). -/
def State.connected (s : State) : Option Lane :=
  if s.unrefereed then
    match s.laneA.active, s.laneB.active with
    | true, false => some .a
    | false, true => some .b
    | _, _ => some s.home
  else s.baize.contacts

/-- The lane whose tick times the SSI clock driver (11 R326). -/
def State.ssiTimer (s : State) : Lane :=
  match s.connected with
  | some l => l
  | none => s.baize.ssiClock.getD s.home

/-- The lane hears the other lane on the Muslin link. -/
def LaneState.hears (x : LaneState) : Bool := x.peer.last.isSome && decide (x.peer.missing < 3)

end Sys2Proof.Machine
end

