-- ==== Sys2Proof/Machine/Ctx.lean ====
section
/-!
DEFINITION. What each slice sees of its lane: the front buffers and image records it reads, gathered (01 R23).
-/

namespace Sys2Proof.Machine

/-! ## Image records of a lane (an absent image gives empty records) -/

def LaneState.img (x : LaneState) : Image := x.image.getD default

/-- The module is in command of the vessel: no DP-3 pair, or this module holds command (02 R74). -/
def LaneState.inCommand (x : LaneState) : Bool := x.role.partnerRole == 0 || x.partner.inCommand

/-! ## Feedback and drives -/

def LaneState.driveFields (x : LaneState) : List (Rat × Bool) :=
  (List.range 64).map fun n => x.can.statusField x.img.canp n

/-- What the loop engine reads in a microframe (10 R296 to R300). -/
def LaneState.loopCtx (x : LaneState) : LoopCtx :=
  { axes := x.img.axes, lpmc := x.img.lpmc, micro := x.frame.micro, slot := x.frame.slot,
    fb := x.fb.chans.map FbChan.toLatch, drive := x.driveFields,
    disabled := (List.range 24).map fun i => decide ((nth default x.alloc.acts i).mode = .disabled) }

/-- Feedback of one axis: position (or speed for a speed axis), none while lost or frozen (07 R209; 09 R269; 10 R296). -/
def LaneState.axisValue (x : LaneState) (n : Nat) : Option Rat :=
  match x.img.axes.find? fun r => r.axis == n with
  | some r =>
    let f := axisFeedback x.loopCtx r
    if f.2.2.1 || hasCause (nth default x.loop.axes n).causes 2 then none else some (if r.role = 2 then f.2.1 else f.1)
  | none => none

/-- An axis of the actuator is in SAFE with a cause 1 to 4 whose condition is not yet met, or entered it since the last slot 3
(09 R270 cause 1). -/
def LaneState.axisTrouble (x : LaneState) (i : Nat) : Bool :=
  x.img.axes.any fun r => r.actuator == i &&
    (let a := nth default x.loop.axes r.axis
     let fb := axisFeedback x.loopCtx r
     a.tripped || a.unmet fb.2.2.1 fb.2.2.2)

/-! ## Slices -/

def LaneState.gnssCtx (x : LaneState) (l : Lane) : GnssCtx :=
  { lane := l, cfg := x.img.gnss, obsOk := x.obs.status == 1 && decide (x.obs.drPosT ≤ 500) }

def LaneState.lever (x : LaneState) (l : Lane) : V3 :=
  match firstAntenna x.img.gnss l with
  | some k => match antennaRec x.img.gnss (antennaNo l k) with | some r => r.position | none => V3.zero
  | none => V3.zero

/-- The references under test: the one that serves the target tracker is treated as DISABLED (08 R253). -/
def LaneState.refRecs (x : LaneState) : List RefRec := x.img.refs.filter fun r => r.refId != x.img.mode.targetRef

def LaneState.refsCtx (x : LaneState) (l : Lane) : RefsCtx :=
  { lane := l, recs := x.refRecs, tick := x.nowNs, observer := x.obs, observerOn := x.obs.status == 1,
    leverA := x.lever .a, leverB := x.lever .b }

def LaneState.obsCtx (x : LaneState) (thrust : V3) : ObsCtx :=
  { vmod := x.img.vmod, refs := x.refs.out, provisional := x.refs.provisional, thrust := thrust, active := x.active,
    motion := x.frame.motion, timeNs := x.frame.cycleNs, frame := x.frame.cycleFrame,
    copyOrigin := x.copyNew.bind fun c =>
      if c.obs.originSet then some (c.obs.lat0, c.obs.lon0, c.obs.originGen, c.obs.pending) else none }

/-- The partner's mode, setpoint and gain bank, which a module not in command follows (02 R74). -/
def LaneState.followed (x : LaneState) : Option (Nat × V3 × Nat) :=
  if x.inCommand then none
  else x.partner.newestMsg.map fun p => (p.mode, ⟨fieldF p.setpoint 0, fieldF p.setpoint 4, fieldF p.setpoint 8⟩, p.gainBank)

/-- A joystick component from its analog input: 0 while the input is invalid (14 R416). -/
def LaneState.stickPart (x : LaneState) (k : Nat) : Rat :=
  match (x.img.mode.joystickAi[k]?).bind fun n => x.analog.valid n with
  | some u => 2 * u - 1
  | none => 0

def LaneState.ctrlCtx (x : LaneState) : CtrlCtx :=
  { mode := x.img.mode, gains := x.img.gain, mass := x.img.vmod, frame := x.frame.number, obsStatus := x.obs.status,
    pose := ⟨x.obs.est.eta.x, x.obs.est.eta.y, wrap360 (degQ x.obs.est.eta.z)⟩,
    vel := ⟨x.obs.est.nu.x, x.obs.est.nu.y, degQ x.obs.est.nu.z⟩, bias := x.obs.est.b, wind := x.obs.wind, limitPos := x.obs.limitPos,
    limitHdg := x.obs.limitHdg, floating := x.obs.floating, reset := x.obs.resetNow, originGen := x.obs.originGen,
    shift := x.obs.lastShift, origin := ⟨x.obs.lat0, x.obs.lon0⟩, sigma := x.obs.sigmaPose, timeNs := x.frame.cycleNs,
    roll := x.refs.out.motion.x, pitch := x.refs.out.motion.y, heave := x.refs.out.motion.z, saturated := x.alloc.saturated,
    posRefs := (x.img.refs.filter fun r =>
      r.kind == 1 && (let s := nth default x.refs.refs r.refId; decide (s.mode = .accepted) && s.selected)).length,
    vc20 := x.ctrl.verdict == 1, curtain := x.img.safe.insts.any fun i => i.function == 4,
    analogStick := ⟨x.stickPart 0, x.stickPart 1, x.stickPart 2⟩,
    follow := x.followed, notInCommand := !x.inCommand }

/-- The demand allocation serves: a module not in command re-solves the partner's (02 R74). -/
def LaneState.allocDemand (x : LaneState) : V3 :=
  match x.inCommand, x.partner.newestMsg with
  | false, some p => ⟨fieldF p.demand 0, fieldF p.demand 4, fieldF p.demand 8⟩
  | _, _ => x.ctrl.prev

/-- The actuators it serves it with. -/
def LaneState.allocPresent (x : LaneState) : Nat :=
  match x.inCommand, x.partner.newestMsg with
  | false, some p => p.actuators % 2 ^ 24
  | _, _ => 2 ^ 24 - 1

def LaneState.allocCtx (x : LaneState) : AllocCtx :=
  { thru := x.img.thru, aloc := x.img.aloc, demand := x.allocDemand, present := x.allocPresent, frame := x.frame.number, timeS := x.obs.epochS,
    timeNs := x.obs.epochNs, safe := (List.range 24).map x.axisTrouble,
    notReady := (List.range 24).map fun i => x.can.driveNotReady x.img.canp x.img.axes i,
    discrete := x.analog.latched, analog := (List.range 16).map fun n => x.analog.valid n,
    thrustFb := (List.range 24).map fun i =>
      (x.img.thru.find? fun t => t.actuator == i).bind fun t => x.axisValue t.axisThrust,
    angleFb := (List.range 24).map fun i =>
      (x.img.thru.find? fun t => t.actuator == i).bind fun t => x.axisValue t.axisAngle,
    active := x.active }

def LaneState.canCtx (x : LaneState) (l : Lane) (unrefereed : Bool) : CanCtx :=
  { lane := l, canp := x.img.canp, canb := x.img.canb, thru := x.img.thru, axes := x.img.axes, slots := x.loop.axes,
    active := x.active && x.inCommand, unrefereed := unrefereed, home := x.homeLane == l, takeoverSeq := x.attic.takeoverSeq,
    slot := x.frame.slot, motion := x.frame.motion, frame := x.frame.number, sinceActive := x.life.sinceActive }

/-! ## Sub-states with their codes -/

def LaneState.withGnss (x : LaneState) (r : GnssState × List AlarmOp) : LaneState := ({ x with gnss := r.1 } : LaneState).codes r.2
def LaneState.withRefs (x : LaneState) (r : RefsState × List AlarmOp) : LaneState := ({ x with refs := r.1 } : LaneState).codes r.2
def LaneState.withObs (x : LaneState) (r : ObserverState × List AlarmOp) : LaneState := ({ x with obs := r.1 } : LaneState).codes r.2
def LaneState.withCtrl (x : LaneState) (r : ControlState × List AlarmOp) : LaneState := ({ x with ctrl := r.1 } : LaneState).codes r.2
def LaneState.withAlloc (x : LaneState) (r : AllocState × List AlarmOp) : LaneState := ({ x with alloc := r.1 } : LaneState).codes r.2
def LaneState.withLoop (x : LaneState) (r : LoopState × List AlarmOp) : LaneState := ({ x with loop := r.1 } : LaneState).codes r.2
def LaneState.withFb (x : LaneState) (r : FbState × List AlarmOp) : LaneState := ({ x with fb := r.1 } : LaneState).codes r.2
def LaneState.withCan (x : LaneState) (r : CanState × List AlarmOp) : LaneState := ({ x with can := r.1 } : LaneState).codes r.2
def LaneState.withVoter (x : LaneState) (r : Voter × List AlarmOp) : LaneState := ({ x with voter := r.1 } : LaneState).codes r.2
def LaneState.withAnalog (x : LaneState) (r : AnalogState × List AlarmOp) : LaneState := ({ x with analog := r.1 } : LaneState).codes r.2

end Sys2Proof.Machine
end

