-- ==== Sys2Proof/Machine/Names.lean ====
section
/-!
DEFINITION. The objects of the operator protocol (00 R9 and the object tables of the chapters): identifier, name, who
answers, and whether the object is a command.
-/

namespace Sys2Proof.Machine

/-- Who answers a read of an object (15 R458). -/
inductive Owner where
  /-- A module object: any lane. -/
  | block
  | lane (l : Lane)
  /-- Taken from the active lane (08 R262; 09 R291). -/
  | active
  /-- Taken from the active lane, or from the home lane while none is active (07 R230). -/
  | vessel
  deriving DecidableEq, Repr, Inhabited

/-- An object: identifier, name, who answers, whether it is a command (access WT). -/
structure ObjectRow where
  id : Nat
  name : String
  owner : Owner
  wt : Bool
  deriving DecidableEq, Repr

/-- Objects of chapters 02 to 04. -/
def objectsA : List ObjectRow :=
  [⟨0x1010, "lane.roles", .block, false⟩, ⟨0x1020, "lane.switch", .block, true⟩, ⟨0x1021, "lane.isolate", .block, true⟩,
   ⟨0x1022, "lane.adopt_image", .block, true⟩, ⟨0x1023, "lane.restart", .block, true⟩,
   ⟨0x1030, "partner.status", .block, false⟩, ⟨0x1031, "partner.take_command", .block, true⟩,
   ⟨0x1100, "lane.a.health", .lane .a, false⟩, ⟨0x1200, "lane.b.health", .lane .b, false⟩,
   ⟨0x1300, "cellar.status", .block, false⟩, ⟨0x1310, "cellar.write.open", .block, true⟩,
   ⟨0x1311, "cellar.write.chunk", .block, true⟩, ⟨0x1312, "cellar.write.close", .block, true⟩,
   ⟨0x1313, "cellar.write.abort", .block, true⟩, ⟨0x1314, "cellar.select", .block, true⟩,
   ⟨0x1400, "power.a", .lane .a, false⟩, ⟨0x1401, "power.claim", .block, true⟩, ⟨0x1402, "power.b", .lane .b, false⟩,
   ⟨0x1410, "calendar.a", .lane .a, false⟩, ⟨0x1411, "calendar.b", .lane .b, false⟩,
   ⟨0x1412, "calendar.baize", .block, false⟩, ⟨0x1500, "canvas.status", .block, false⟩, ⟨0x1501, "canvas.restart", .block, true⟩]

/-- Objects of chapters 07 and 08. -/
def objectsB : List ObjectRow :=
  [⟨0x2100, "vessel.pose", .vessel, false⟩, ⟨0x2101, "vessel.pose.north", .vessel, false⟩,
   ⟨0x2102, "vessel.pose.east", .vessel, false⟩, ⟨0x2103, "vessel.pose.heading", .vessel, false⟩,
   ⟨0x2104, "vessel.pose.geo", .vessel, false⟩, ⟨0x2105, "vessel.velocity", .vessel, false⟩,
   ⟨0x2106, "vessel.bias", .vessel, false⟩, ⟨0x2107, "vessel.wind_force", .vessel, false⟩,
   ⟨0x2110, "vessel.a.estimate", .lane .a, false⟩, ⟨0x2111, "vessel.b.estimate", .lane .b, false⟩,
   ⟨0x2120, "vessel.origin", .vessel, false⟩, ⟨0x2121, "vessel.reset", .vessel, false⟩,
   ⟨0x2200, "ctrl.status", .active, false⟩, ⟨0x2201, "ctrl.mode", .active, true⟩, ⟨0x2202, "ctrl.setpoint", .active, true⟩,
   ⟨0x2203, "ctrl.gain_bank", .active, true⟩, ⟨0x2204, "ctrl.joystick", .active, true⟩,
   ⟨0x2205, "ctrl.footprint", .active, true⟩, ⟨0x2206, "ctrl.bias_release", .active, true⟩,
   ⟨0x2210, "ctrl.track.point", .active, true⟩, ⟨0x2211, "ctrl.track.commit", .active, true⟩,
   ⟨0x2212, "ctrl.track.state", .active, false⟩, ⟨0x2220, "ctrl.target", .active, false⟩,
   ⟨0x2221, "ctrl.target.offset", .active, true⟩, ⟨0x2230, "ctrl.gangway", .active, false⟩,
   ⟨0x2240, "ctrl.consequence", .active, false⟩, ⟨0x2250, "ctrl.demand", .active, false⟩]

/-- Objects of chapters 05, 06, 09 and 10. -/
def objectsC : List ObjectRow :=
  [⟨0x3000, "alloc.status", .active, false⟩, ⟨0x3010, "alloc.exclude", .active, true⟩,
   ⟨0x3100, "alloc.actuators", .active, false⟩, ⟨0x3200, "alloc.power", .active, false⟩, ⟨0x3300, "alloc.arcs", .active, false⟩,
   ⟨0x3400, "loop.a.axes", .lane .a, false⟩, ⟨0x3401, "loop.b.axes", .lane .b, false⟩, ⟨0x3410, "loop.reset", .block, true⟩,
   ⟨0x3420, "loop.engine", .block, false⟩, ⟨0x4010, "gnss.a.pvt", .lane .a, false⟩, ⟨0x4011, "gnss.b.pvt", .lane .b, false⟩,
   ⟨0x4020, "gnss.a.heading", .lane .a, false⟩, ⟨0x4021, "gnss.b.heading", .lane .b, false⟩,
   ⟨0x4100, "gnss.ant0.meas", .lane .a, false⟩, ⟨0x4101, "gnss.ant1.meas", .lane .a, false⟩,
   ⟨0x4102, "gnss.ant2.meas", .lane .b, false⟩, ⟨0x4103, "gnss.ant3.meas", .lane .b, false⟩,
   ⟨0x4110, "gnss.a.navmsg", .lane .a, false⟩, ⟨0x4111, "gnss.b.navmsg", .lane .b, false⟩,
   ⟨0x4130, "gnss.a.offsets", .lane .a, false⟩, ⟨0x4131, "gnss.b.offsets", .lane .b, false⟩,
   ⟨0x4200, "refs.summary", .block, false⟩, ⟨0x4201, "refs.select", .active, true⟩, ⟨0x4202, "refs.accept", .active, true⟩,
   ⟨0x4203, "refs.anchor", .active, true⟩]

/-- Objects of chapters 11 to 16. -/
def objectsD : List ObjectRow :=
  [⟨0x5000, "an.a.inputs", .lane .a, false⟩, ⟨0x5001, "an.b.inputs", .lane .b, false⟩, ⟨0x5010, "an.outputs", .block, false⟩,
   ⟨0x5020, "an.channel", .block, true⟩, ⟨0x5021, "an.coeff.load", .block, true⟩, ⟨0x5022, "an.coeff", .block, false⟩,
   ⟨0x5030, "an.out.set", .block, true⟩, ⟨0x5040, "io.discrete", .block, false⟩, ⟨0x5100, "serial.status", .block, false⟩,
   ⟨0x5200, "fb.a.status", .lane .a, false⟩, ⟨0x5201, "fb.b.status", .lane .b, false⟩, ⟨0x5210, "fb.arm", .block, true⟩,
   ⟨0x5211, "fb.clear", .block, true⟩, ⟨0x5300, "db.a.status", .lane .a, false⟩, ⟨0x5301, "db.b.status", .lane .b, false⟩,
   ⟨0x5310, "db.a.rxlog", .lane .a, false⟩, ⟨0x5311, "db.b.rxlog", .lane .b, false⟩,
   ⟨0x5320, "db.a.drives", .lane .a, false⟩, ⟨0x5321, "db.b.drives", .lane .b, false⟩]

def objectsE : List ObjectRow :=
  [⟨0x6000, "time.a", .lane .a, false⟩, ⟨0x6001, "time.b", .lane .b, false⟩, ⟨0x6010, "ptp.a.masters", .lane .a, false⟩,
   ⟨0x6011, "ptp.b.masters", .lane .b, false⟩, ⟨0x6020, "time.pulse", .block, true⟩, ⟨0x6021, "time.pulse.status", .block, false⟩,
   ⟨0x6100, "net.a", .lane .a, false⟩, ⟨0x6101, "net.b", .lane .b, false⟩, ⟨0x6200, "sessions.a", .lane .a, false⟩,
   ⟨0x6201, "sessions.b", .lane .b, false⟩, ⟨0x7000, "larder.a.head", .lane .a, false⟩, ⟨0x7001, "larder.b.head", .lane .b, false⟩,
   ⟨0x7100, "larder.a.record", .lane .a, false⟩, ⟨0x7101, "larder.b.record", .lane .b, false⟩,
   ⟨0x7200, "ledger.a.head", .lane .a, false⟩, ⟨0x7201, "ledger.a.entry", .lane .a, false⟩,
   ⟨0x7300, "ledger.b.head", .lane .b, false⟩, ⟨0x7301, "ledger.b.entry", .lane .b, false⟩,
   ⟨0x8000, "safety.a", .lane .a, false⟩, ⟨0x8001, "safety.b", .lane .b, false⟩, ⟨0x8002, "safety.baize", .active, false⟩]

/-- refs.a.state.n and refs.b.state.n (06 R199). -/
def refObject (id : Nat) : Option (Lane × Nat) :=
  if 0x4210 ≤ id ∧ id < 0x422A then some (.a, id - 0x4210)
  else if 0x4230 ≤ id ∧ id < 0x424A then some (.b, id - 0x4230) else none

/-- The row of an identifier. -/
def objectRow (id : Nat) : Option ObjectRow :=
  match refObject id with
  | some (l, _) => some ⟨id, "", .lane l, false⟩
  | none => (objectsA ++ objectsB ++ objectsC ++ objectsD ++ objectsE).find? fun r => r.id == id

/-- Decimal digits of a number below 100. -/
def decimalText (n : Nat) : Bytes :=
  if n < 10 then [BitVec.ofNat 8 (48 + n)] else [BitVec.ofNat 8 (48 + n / 10), BitVec.ofNat 8 (48 + n % 10)]

/-- The identifier a name stands for (00 R9). -/
def objectOfName (name : Bytes) : Option Nat :=
  match (objectsA ++ objectsB ++ objectsC ++ objectsD ++ objectsE).find? fun r => ascii r.name == name with
  | some r => some r.id
  | none =>
    (List.range 26).findSome? fun n =>
      if ascii "refs.a.state." ++ decimalText n == name then some (0x4210 + n)
      else if ascii "refs.b.state." ++ decimalText n == name then some (0x4230 + n) else none

/-- An object field, by identifier or by name (15 R455): the identifier (0xFFFF where a name stands for none) and what
follows; none where the layout is wrong. -/
def objectField (bs : Bytes) : Option (Nat × Bytes) :=
  if bs.length < 2 then none
  else if fieldN bs 0 2 = 0xFFFF then
    let n := fieldN bs 2 1
    if 1 ≤ n ∧ n ≤ 48 ∧ 3 + n ≤ bs.length then some ((objectOfName (slice bs 3 n)).getD 0xFFFF, bs.drop (3 + n)) else none
  else some (fieldN bs 0 2, bs.drop 2)

end Sys2Proof.Machine
end

