-- ==== Sys2Proof/Machine/Session.lean ====
section
/-!
DEFINITION. The operator protocol's messages (15 R453 to R460), the change ledger (03 R110 to R113) and the acceptance of
a command: what every WRITE passes before it acts.
-/

namespace Sys2Proof.Machine

/-! ## Datagrams (15 R454) -/

/-- A message as its bytes spell it. -/
structure Datagram where
  type : Nat
  session : Nat
  keyId : Nat
  seq : Nat
  body : Bytes
  deriving DecidableEq, Repr, Inhabited

/-- The message a datagram holds; none where its magic, version or length is wrong. -/
def parseDatagram (bs : Bytes) : Option Datagram :=
  let n := bs.length
  if 48 ≤ n ∧ n ≤ 1472 ∧ fieldN bs 0 2 = 0x5054 ∧ fieldN bs 2 1 = 1 ∧ fieldN bs 6 2 = n then
    some ⟨fieldN bs 3 1, fieldN bs 4 2, fieldN bs 8 4, fieldN bs 12 4, slice bs 32 (n - 48)⟩
  else none

/-- The tag of a datagram (15 R454). -/
def tagOf (key bs : Bytes) : Bytes := (hmac key (bs.take (bs.length - 16))).take 16

def tagOk (key bs : Bytes) : Bool := tagOf key bs == bs.drop (bs.length - 16)

/-- The header a lane puts before a body. -/
def datagramHeader (type session keyId seq quality : Nat) (lane : Lane) (t : ClockState) (body : Bytes) : Bytes :=
  [0x54#8, 0x50#8] ++ leBytes 1 1 ++ leBytes 1 type ++ leBytes 2 session ++ leBytes 2 (48 + body.length) ++ leBytes 4 keyId ++
  leBytes 4 seq ++ leBytes 1 quality ++ leBytes 1 lane.code ++ leBytes 2 0 ++ leBytes 6 t.s ++ leBytes 4 t.ns ++ leBytes 2 0

/-- A whole message of a lane, with its tag. -/
def laneMessage (type session seq quality : Nat) (lane : Lane) (t : ClockState) (a : Answer) (body : Bytes) : Bytes :=
  let m := datagramHeader type session a.keyId seq quality lane t body ++ body
  m ++ (hmac a.key m).take 16

/-! ## Sessions -/

def SessionState.find (x : SessionState) (n : Nat) : Option Session := x.sessions.find? fun s => s.number == n

def SessionState.update (x : SessionState) (s : Session) : SessionState :=
  { x with sessions := x.sessions.map fun t => if t.number == s.number then s else t }

/-- Whether a message's sequence is accepted (15 R457). -/
def Session.fresh (s : Session) (seq : Nat) : Bool :=
  decide (s.newest < seq) || (decide (seq < s.newest) && decide (s.newest ≤ seq + 32) && !s.seen.contains seq)

/-- The session after it has accepted a message. -/
def Session.accept (s : Session) (seq : Nat) : Session :=
  if s.newest < seq then { s with newest := seq, age := 0, seen := (s.newest :: s.seen).filter fun k => decide (seq ≤ k + 32) }
  else { s with age := 0, seen := seq :: s.seen }

/-- A message of a session is accepted (15 R457): its session, the message, and the lane's sessions after. -/
def SessionState.enter (x : SessionState) (m : Msg) : Option (SessionState × Session × Datagram) :=
  match parseDatagram m.bytes with
  | none => none
  | some d =>
    match x.find d.session with
    | none => none
    | some s =>
      if s.keyId = d.keyId ∧ m.port + 1 = s.kind ∧ s.address = m.address ∧ s.udpPort = m.udpPort ∧ s.fresh d.seq = true ∧
          tagOk s.key m.bytes = true then
        let s' := s.accept d.seq
        some (x.update s', s', d)
      else none

/-- A message that is not accepted is discarded and counted in the session it names (15 R457). -/
def SessionState.discard (x : SessionState) (m : Msg) : SessionState :=
  match parseDatagram m.bytes with
  | none => x
  | some d => match x.find d.session with
    | some s => x.update { s with discarded := s.discarded + 1 }
    | none => x

/-- An answer of a session waits for the next frame (15 R458). -/
def SessionState.answer (x : SessionState) (s : Session) (kind seq : Nat) (items : List ReplyItem) (body : Bytes) : SessionState :=
  { x with answers := x.answers ++ [⟨s.number, s.keyId, s.key, s.address, s.udpPort, kind, seq, items, body⟩] }

/-- The body of an answer (15 R455). -/
def Answer.bytes (a : Answer) : Bytes :=
  if a.kind = 0x12 then
    leBytes 4 a.seq ++ a.items.flatMap fun i =>
      leBytes 1 i.status ++ leBytes 1 i.reason ++ leBytes 2 i.object ++ leBytes 2 i.value.length ++ i.value
  else a.body

/-- The answers that wait are sent, each with the next sequence of its session (15 R454, R458); those of a session that
has ended since are not, but for an OPENED. -/
def SessionState.flush (x : SessionState) (lane : Lane) (quality : Nat) (t : ClockState) : SessionState :=
  x.answers.foldl (fun (y : SessionState) a =>
    match y.find a.session with
    | some s =>
      if s.outSeq < 0xFFFFFFFF then
        { (y.update { s with outSeq := s.outSeq + 1 }) with
          sent := y.sent ++ [⟨a.address, if a.kind = 0x21 then 40881 else a.udpPort,
                              laneMessage a.kind a.session (s.outSeq + 1) quality lane t a a.bytes⟩] }
      else y
    | none =>
      if a.kind = 0x02 then
        { y with sent := y.sent ++ [⟨a.address, a.udpPort, laneMessage a.kind 0 1 quality lane t a a.bytes⟩] }
      else y) { x with answers := [], sent := [] }

/-- Status values (03 R103; 15 R459). -/
def stBusy : Nat := 0x01
def stInUse : Nat := 0x02
def stOrder : Nat := 0x03
def stNoWrite : Nat := 0x04
def stInvalidBank : Nat := 0x05
def stRights : Nat := 0x06
def stFull : Nat := 0x07
def stLedger : Nat := 0x08
def stLastKey : Nat := 0x09
def stVerify : Nat := 0x0A
def stNoKey : Nat := 0x0B
def stNotActive : Nat := 0x0C
def stUnknown : Nat := 0x0D
def stAccess : Nat := 0x0E
def stRefused : Nat := 0x0F
def stMalformed : Nat := 0x10
def stGone : Nat := 0x11

/-! ## The change ledger (03 R110 to R113) -/

/-- An entry is added; the ring keeps the newest 2 048 (DESIGN CHOICE: log entry 62). -/
def LedgerState.add (g : LedgerState) (e : LedgerEntry) : LedgerState :=
  { g with ring := (({ e with seq := g.nextSeq } : LedgerEntry) :: g.ring).take 2048, nextSeq := (g.nextSeq + 1) % 2 ^ 32,
           wraps := if g.nextSeq + 1 = 2 ^ 32 then g.wraps + 1 else g.wraps }

/-- The entry a lane writes of a change (03 R112). -/
def LaneState.entry (x : LaneState) (role flags object keyId : Nat) (old new : Bytes) : LedgerEntry :=
  ⟨0, role, if 16 < old.length ∨ 16 < new.length then flags ||| 1 else flags, object, keyId, x.power.opHours, x.attic.powerCycles,
   x.clock.s, x.src.quality.code, min 16 (max old.length new.length), fit 16 (old.take 16), fit 16 (new.take 16)⟩

/-- A change is written and read back; an entry that cannot be written raises CL-021 (03 R111). -/
def LaneState.record (x : LaneState) (role flags object keyId : Nat) (old new : Bytes) : LaneState × Bool :=
  if x.ledger.failing then (x.raise ⟨.cl, 21⟩ 0 0, false)
  else ({ x with ledger := x.ledger.add (x.entry role flags object keyId old new) }, true)

/-- The 64 bytes of an entry (03 R112). -/
def LedgerEntry.bytes (e : LedgerEntry) : Bytes :=
  withCrc (leBytes 4 e.seq ++ leBytes 1 e.role ++ leBytes 1 e.flags ++ leBytes 2 e.objectId ++ leBytes 4 e.keyId ++
    leBytes 4 e.opHours ++ leBytes 4 e.powerCycles ++ leBytes 6 e.timeS ++ leBytes 1 e.timeQuality ++ leBytes 1 e.valueLen ++
    fit 16 e.oldValue ++ fit 16 e.newValue)

/-! ## Acceptance of a command (15 R458, R459; 03 R103, R106, R110, R111) -/

/-- What an object asks of a WRITE to it: its rights as a mask of 03 R93, the role it belongs to (1 operator, 2 installer), whether the change
goes to the ledger and with which old and new value, and a refusal under the object's own rules (status, reason). -/
structure Ask where
  object : Nat
  right : Nat
  role : Nat
  ledger : Bool
  old : Bytes
  new : Option Bytes
  refuse : Option (Nat × Nat)
  deriving DecidableEq, Repr, Inhabited

/-- Object of a WRITE body, by identifier or by name, and its value (15 R455); none where the layout is wrong
(DEDUCED: log entry 58). -/
def writeItem (body : Bytes) : Option (Nat × Bytes) :=
  match objectField body with
  | some (object, rest) =>
    let n := fieldN rest 0 2
    if 2 ≤ rest.length ∧ rest.length = 2 + n then some (object, slice rest 2 n) else none
  | none => none

/-- The status of a WRITE (15 R458, R459): the right, the lane that answers, the object's own rules (DEDUCED: log entry 58). -/
def Ask.judge (a : Ask) (active : Bool) (rights : Nat) : Nat × Nat :=
  if rights &&& a.right ≠ a.right then (stRights, 0)
  else if a.role = 1 ∧ active = false then (stNotActive, 0)
  else a.refuse.getD (0, 0)

/-- The object a message names: for a command of which the manual gives the path but no object (03 R106, R112). -/
def namedObject (m : Msg) : Nat :=
  match parseDatagram m.bytes with
  | some d => match writeItem d.body with | some (object, _) => object | none => 0xFFFF
  | none => 0xFFFF

/-- A WRITE is accepted, refused or discarded; its reply waits for the next frame. True where the change takes effect
(DEDUCED: log entry 58). -/
def LaneState.take (x : LaneState) (m : Msg) (a : Ask) : LaneState × Bool :=
  match x.ses.enter m with
  | none => ({ x with ses := x.ses.discard m }, false)
  | some (ses, s, d) =>
    let x1 : LaneState := { x with ses := ses }
    if d.type ≠ 0x11 then (x1, false)
    else match writeItem d.body with
    | none => ({ x1 with ses := ses.answer s 0x12 d.seq [⟨stMalformed, 0, 0, []⟩] [] }, false)
    | some (object, value) =>
      if object ≠ a.object then
        match objectRow object with
        | none => ({ x1 with ses := ses.answer s 0x12 d.seq [⟨stUnknown, 0, object, []⟩] [] }, false)
        | some r =>
          if r.wt then (x1, false) else ({ x1 with ses := ses.answer s 0x12 d.seq [⟨stAccess, 0, object, []⟩] [] }, false)
      else
        let st := a.judge x.active s.rights
        let done : LaneState × Bool :=
          if st.1 ≠ 0 ∨ a.ledger = false then (x1, true)
          else x1.record a.role 2 a.object s.keyId a.old (a.new.getD value)
        let st2 : Nat × Nat := if st.1 = 0 ∧ done.2 = false ∧ a.role ≠ 1 then (stLedger, 0) else st
        ({ done.1 with ses := done.1.ses.answer s 0x12 d.seq [⟨st2.1, st2.2, object, []⟩] [] }, decide (st2.1 = 0))

/-- A command of a lane: taken, and where it takes effect, the effect (DEDUCED: log entry 58). -/
def State.command (s : State) (l : Lane) (m : Msg) (a : Ask) (effect : State → State) : State :=
  let r := (s.lane l).take m a
  let s' := s.setLane l r.1
  if r.2 then effect s' else s'

end Sys2Proof.Machine
end

