-- ==== Sys2Proof/Machine/CmdRefs.lean ====
section
/-!
DEFINITION. Meanings of the commands of 06 and 07: sentences, reference binary frames, references lost, offered, selected,
accepted and anchored, the dead-reckoning limit.
-/

namespace Sys2Proof.Machine

/-! ## Intake (06 R177 to R181) -/

/-- Intake runs once the key check has passed (04 R126). -/
def LaneState.intake (x : LaneState) : Bool := x.image.isSome && x.life.state != .failed

/-- Module time may place a time of day (06 R181). -/
def LaneState.timeGood (x : LaneState) : Bool := decide (3 ≤ x.src.quality.code)

def RefsState.modRef (st : RefsState) (n : Nat) (f : RefState → RefState) : RefsState := { st with refs := modNth st.refs n f }

/-- A measurement of the target reaches its tracker (08 R253): the vessel point at the measurement time plus the horizontal
part of the turned lever arm and sensor offset. -/
def LaneState.targetSeen (x : LaneState) (r : RefRec) (t : Nat) (val : RefValue) : LaneState :=
  match histAt x.obs.history x.obs.pred t with
  | some e =>
    let a := attitudeAt t x.refs.attitudes
    let d := relativeVector r ⟨a.x, a.y, degQ e.est.eta.z⟩ val
    { x with ctrl := { x.ctrl with tracker := x.ctrl.tracker.measure x.img.mode.targetLostTime ⟨e.total.x + d.x, e.total.y + d.y⟩ t } }
  | none => x

/-- A measurement of a reference arrives (06 R180, R181); none is a refusal at intake. -/
def LaneState.offer (x : LaneState) (r : RefRec) (arrival : Nat) (v : Option (RefValue × Bool × Bool × Option Nat)) : LaneState :=
  if r.refId = x.img.mode.targetRef then
    match v with
    | some (val, true, _, ms) =>
      let t := (measurementTime r arrival x.cal.leap x.timeGood ms).1
      if arrival ≤ t + 1000000 * r.maxAge then x.targetSeen r t val else x
    | _ => x
  else if !r.flags.testBit 0 then x
  else match v with
    | none => { x with refs := x.refs.modRef r.refId RefState.refuse }
    | some (val, ok, deg, ms) =>
      let t := measurementTime r arrival x.cal.leap x.timeGood ms
      { x with refs := x.refs.modRef r.refId fun s => s.take ⟨arrival, t.1, val, ok, deg, t.2.1, t.2.2, none⟩ }

/-- The receive FIFO of a port takes the bytes that find room; the rest are dropped and counted, and in error (06 R177). -/
def RefsState.receive (st : RefsState) (port : Nat) (bs : Bytes) : RefsState × Bytes :=
  match st.ports[port]? with
  | none => (st, bs)
  | some p =>
    let kept := bs.take (1024 - p.fill)
    let lost := bs.length - kept.length
    let p := { p with chars := p.chars + bs.length, dropped := p.dropped + lost, fill := p.fill + kept.length,
                      cycChars := p.cycChars + bs.length, cycErrors := p.cycErrors + lost }
    ({ st with ports := st.ports.set port p }, kept)

/-- A sentence or frame refused at a port (DEDUCED: log entry 70). -/
def RefsState.refuseAt (st : RefsState) (port : Nat) : RefsState :=
  { st with ports := modNth st.ports port fun p => { p with refused := p.refused + 1 } }

/-- A source that delivers in a framing: a serial port whose SERP entry sets it (06 R176), or a network stream, which carries
sentences (06 R173). -/
def LaneState.framed (x : LaneState) (source framing : Nat) : Bool :=
  if source < 12 then x.img.serp.any fun p => p.port == source && p.framing == framing else framing == 0

/-- Sigma of a GST sentence: the root of the sum of the squares of its latitude and longitude deviations (06 R178). -/
def gstSigma (s : Sentence) : Option Rat :=
  match decimal (s.field 5), decimal (s.field 6) with
  | some a, some b => some (hypotQ a b)
  | _, _ => none

/-- A GST sentence gives the waiting measurement of its fix its sigma (06 R178) (DEDUCED: log entry 70). -/
def LaneState.gst (x : LaneState) (source : Nat) (s : Sentence) : LaneState :=
  let mine := x.refs.gst.any fun g => g.source == source && decide (g.talker = s.talker) && decide (g.utc = s.field 0)
  match mine, gstSigma s with
  | true, some sg =>
    x.img.refs.foldl (fun (y : LaneState) r =>
      if r.source == source && r.flags.testBit 2 && (decide (r.talker = ascii "--") || decide (r.talker = s.talker))
        && (r.format == 1 || r.format == 2) then
        { y with refs := y.refs.modRef r.refId fun st =>
            { st with waiting := st.waiting.map fun m => match m.value with
                | .geo la lo _ => { m with value := .geo la lo sg, rangeOk := m.rangeOk && decide (sg ≤ r.rangeB) }
                | _ => m } }
      else y) x
  | _, _ => x

/-- The time of the newest fix of a source and talker, which a GST may repeat (06 R178); none after one that was refused. -/
def RefsState.noteFix (st : RefsState) (source : Nat) (s : Sentence) (ok : Bool) : RefsState :=
  if s.formatter = ascii "GGA" ∨ s.formatter = ascii "GNS" then
    let rest := st.gst.filter fun g => !(g.source == source && decide (g.talker = s.talker))
    { st with gst := if ok then ⟨source, s.talker, s.field 0⟩ :: rest else rest }
  else st

/-- The entries that a sentence is for take it, or count it as refused (06 R178, R186). -/
def LaneState.offerSentence (x : LaneState) (source arrival : Nat) (s : Sentence) (whole : Bool) : LaneState :=
  x.img.refs.foldl (fun (z : LaneState) r =>
    if takesSentence r source s then
      z.offer r arrival (if whole then (sentenceValue r s).map fun v => (v.1, v.2.1, false, v.2.2) else none)
    else z) x

/-- A sentence from a source (06 R178): refused as a whole, ignored, or offered to its references (DEDUCED: log entry 70). -/
def LaneState.sentence (x : LaneState) (source : Nat) (bytes : Bytes) (arrival : Nat) : LaneState :=
  let (refs, bs) := x.refs.receive source bytes
  let y : LaneState := { x with refs := refs }
  match parseSentence bs with
  | none =>
    let z : LaneState := { y with refs := y.refs.refuseAt source }
    z.offerSentence source arrival (splitAddress ((bs.takeWhile (· != 0x2A#8)).drop 1)) false
  | some s =>
    if !listedFormatter s.formatter then y
    else if s.formatter = ascii "GST" then y.gst source s
    else
      let bad := y.img.refs.any fun r => takesSentence r source s && (sentenceValue r s).isNone
      let z : LaneState := if bad then { y with refs := y.refs.refuseAt source } else y
      let w := z.offerSentence source arrival s true
      { w with refs := w.refs.noteFix source s (!bad) }

/-- SENTENCE_RECEIVED (06 R178): a sentence whole from a serial port or a network stream. -/
def execSentenceReceived (lane : Lane) (source : Nat) (bytes : Bytes) (arrival : Nat) (s : State) : Result :=
  .next (s.onLane lane fun x => if x.intake && x.framed source 0 then x.sentence source bytes arrival else x)

/-- A reference binary frame (06 R179). -/
def LaneState.binaryFrame (x : LaneState) (source : Nat) (bytes : Bytes) (arrival : Nat) : LaneState :=
  let (refs, bs) := x.refs.receive source bytes
  let ok := binaryOk bs
  let y : LaneState := { x with refs := if ok then refs else refs.refuseAt source }
  y.img.refs.foldl (fun (z : LaneState) r =>
    if ok then (if takesBinary r source bs then z.offer r arrival (binaryValue r bs) else z)
    else if r.source == source && decide (0x10 ≤ r.format) then z.offer r arrival none else z) y

/-- REFERENCE_BINARY_FRAME (06 R179). -/
def execReferenceBinaryFrame (lane : Lane) (source : Nat) (bytes : Bytes) (arrival : Nat) (s : State) : Result :=
  .next (s.onLane lane fun x => if x.intake && x.framed source 1 then x.binaryFrame source bytes arrival else x)

/-! ## Events of the references and of the observer -/

def LaneState.refRec (x : LaneState) (n : Nat) : Option RefRec := x.img.refs.find? fun r => r.refId == n

/-- REFERENCE_LOST (06 R195): acts once no measurement has passed tests 1 and 2 for lost_time. -/
def execReferenceLost (lane : Lane) (ref : Nat) (s : State) : Result :=
  .next (s.onLane lane fun x =>
    match x.refRec ref with
    | some r =>
      if (nth default x.refs.refs ref).lostDue r then
        ({ x with refs := x.refs.modRef ref RefState.lose } : LaneState).raise ⟨.rf, 1⟩ ref 0
      else x
    | none => x)

/-- PREDICTION_ONLY_TIMEOUT (06 R196): acts once every candidate of the kind has failed only the prediction test for 250
motion cycles. -/
def execPredictionOnlyTimeout (lane : Lane) (heading : Bool) (s : State) : Result :=
  .next (s.onLane lane fun x =>
    if heading then
      (if 250 ≤ x.refs.predOnlyHdg then ({ x with refs := { x.refs with offeredHdg := true } } : LaneState).raise ⟨.rf, 50⟩ 2 0 else x)
    else if 250 ≤ x.refs.predOnlyPos then ({ x with refs := { x.refs with offeredPos := true } } : LaneState).raise ⟨.rf, 50⟩ 1 0
    else x)

/-- The mode falls back where a row of 08 R245 applies. -/
def LaneState.fallBack (x : LaneState) : LaneState :=
  match fallbackDue x.ctrlCtx x.ctrl with
  | some (k, cause, code) => ({ x with ctrl := x.ctrl.fallback x.ctrlCtx k cause } : LaneState).raise ⟨.vc, code⟩ 0 cause
  | none => x

/-- DEAD_RECKONING_LIMIT (07 R225): acts once the dead-reckoning time has reached the limit. -/
def execDeadReckoningLimit (lane : Lane) (heading : Bool) (s : State) : Result :=
  .next (s.onLane lane fun x =>
    if heading then
      if x.obs.drHdg ∧ 50 * x.img.vmod.drLimitHdg ≤ x.obs.drHdgT then
        (({ x with obs := { x.obs with limitHdg := true }, eligible := false } : LaneState).raise ⟨.ob, 13⟩ 0 0).fallBack
      else x
    else if x.obs.drPos ∧ 50 * x.img.vmod.drLimitPos ≤ x.obs.drPosT then
      (({ x with obs := { x.obs with limitPos := true }, eligible := false } : LaneState).raise ⟨.ob, 11⟩ 0 0).fallBack
    else x)

/-! ## Operator commands (06 R196, R200) -/

def askRef (object : Nat) (old : Bytes) (ok : Bool) (bad : Nat) : Ask :=
  ⟨object, 1, 1, true, old, none, if ok then none else some (bad, 0)⟩

/-- REFS_SELECT (06 R196). -/
def execRefsSelect (lane : Lane) (msg : Msg) (ref : Nat) (on : Bool) (s : State) : Result :=
  let x := s.lane lane
  .next (s.command lane msg
    (askRef 0x4201 [BitVec.ofNat 8 ref, BitVec.ofNat 8 (b2n (nth default x.refs.refs ref).selected)] (x.refRec ref).isSome stMalformed)
    fun t => t.onLane lane fun y => { y with refs := y.refs.modRef ref fun r => { r with selected := on } })

/-- REFS_ACCEPT (06 R196, R200): confirms the single candidate offered under RF-050 (DESIGN CHOICE: log entry 71). -/
def execRefsAccept (lane : Lane) (msg : Msg) (ref : Nat) (s : State) : Result :=
  let x := s.lane lane
  let kind := match x.refRec ref with | some r => r.kind | none => 0
  let open_ := (kind == 1 && x.refs.offeredPos) || (kind == 2 && x.refs.offeredHdg)
  .next (s.command lane msg (askRef 0x4202 [BitVec.ofNat 8 ref] (open_ && (nth default x.refs.refs ref).candidate) stRefused)
    fun t => t.onLane lane fun y =>
      { y with refs := if kind = 1 then { y.refs with acceptPos := true } else { y.refs with acceptHdg := true } })

/-- REFS_ANCHOR (06 R200): a relative reference re-anchors at its next acceptance test (DESIGN CHOICE: log entry 71). -/
def execRefsAnchor (lane : Lane) (msg : Msg) (ref : Nat) (s : State) : Result :=
  let x := s.lane lane
  let relative := match x.refRec ref with | some r => r.format == 0x11 || r.format == 0x12 | none => false
  .next (s.command lane msg (askRef 0x4203 [BitVec.ofNat 8 ref] relative stRefused)
    fun t => t.onLane lane fun y => { y with refs := y.refs.modRef ref fun r => { r with reanchor := true } })

end Sys2Proof.Machine
end

