-- ==== Sys2Proof/Machine/CmdAlloc.lean ====
section
/-!
DEFINITION. Meanings of the commands of 09: the allocation engine, exclusion, re-entry, transit timeout.
-/

namespace Sys2Proof.Machine

/-- ENG_START (09 R278): any write starts a run on the problem block; refused while a run is in progress. -/
def execEngStart (lane : Lane) (value : Nat) (s : State) : Result :=
  let _ := value
  .next (s.onLane lane fun x => { x with alloc := { x.alloc with eng := x.alloc.eng.start x.alloc.problem } })

/-- ENGINE_RUN_COMPLETE (09 R280): the result block is written and result_ready set. -/
def execEngineRunComplete (lane : Lane) (damaged : Bool) (s : State) : Result :=
  .next (s.tick.onLane lane fun x => { x with alloc := x.alloc.runComplete s.fresh damaged })

def LaneState.thru? (x : LaneState) (i : Nat) : Option Thru := x.img.thru.find? fun t => t.actuator == i

/-- ALLOC_EXCLUDE (09 R271): refused with reason 0x0B where no thruster would remain. -/
def execAllocExclude (lane : Lane) (msg : Msg) (actuator : Nat) (on : Bool) (s : State) : Result :=
  let x := s.lane lane
  .next (s.command lane msg
    ⟨0x3010, 1, 1, true, [BitVec.ofNat 8 actuator, BitVec.ofNat 8 (b2n (x.alloc.act actuator).exclusion)], none,
     if (x.thru? actuator).isNone then some (stMalformed, 0)
     else if on && excludeRefused x.allocCtx x.alloc actuator then some (stRefused, 0x0B) else none⟩
    fun t => t.onLane lane fun y => y.withAlloc (y.alloc.exclude y.allocCtx actuator on))

/-- ACTUATOR_REENTRY (09 R270): acts once every cause has been clear for 50 motion cycles. -/
def execActuatorReentry (lane : Lane) (actuator : Nat) (s : State) : Result :=
  .next (s.onLane lane fun x =>
    match x.thru? actuator with
    | some t => x.withAlloc (x.alloc.reenter t)
    | none => x)

/-- TRANSIT_TIMEOUT (09 R275): acts once the transit is longer than transit_timeout (DESIGN CHOICE: log entry 21). -/
def execTransitTimeout (lane : Lane) (actuator : Nat) (s : State) : Result :=
  .next (s.onLane lane fun x => x.withAlloc (x.alloc.transitTimeout x.img.aloc.transitTimeout actuator))

end Sys2Proof.Machine
end

