-- ==== Sys2Proof/Machine/CmdFb.lean ====
section
/-!
DEFINITION. Meanings of the commands of 11: lines, conversions, SSI frames, losses, supplies, index, latch reads.
-/

namespace Sys2Proof.Machine

/-- One configured feedback channel of a lane changes. -/
def State.onChan (s : State) (l : Lane) (n : Nat) (f : Fbch → FbChan → FbChan × List AlarmOp) : State :=
  s.onLane l fun x => x.withFb (x.fb.withChan x.img.fbch n f)

/-- FILTERED_LINE_CHANGE (11 R329, R330). -/
def execFilteredLineChange (lane : Lane) (channel sample : Nat) (a b z ca cb cz : Bool) (s : State) : Result :=
  .next (s.onChan lane channel fun r f => (f.lines r sample a b z ca cb cz, []))

/-- SINE_COSINE_CONVERSION (11 R331). -/
def execSineCosineConversion (lane : Lane) (channel sample : Nat) (sine cosine : Rat) (s : State) : Result :=
  .next (s.onChan lane channel fun r f => (f.conversion r sample sine cosine, []))

/-- INDEX_EVENT (11 R344, R345, R346). -/
def execIndexEvent (lane : Lane) (channel : Nat) (s : State) : Result := .next (s.onChan lane channel fun r f => f.index r)

/-- ILLEGAL_TRANSITION_FAULT (11 R332): acts once four illegal transitions lie within 1 024 samples. -/
def execIllegalTransitionFault (lane : Lane) (channel : Nat) (s : State) : Result :=
  .next (s.onChan lane channel fun r f => f.illegalFault r)

/-- WIRE_DISAGREE (11 R334): acts once a pair has disagreed for more than 3 samples. -/
def execWireDisagree (lane : Lane) (channel sample : Nat) (s : State) : Result :=
  .next (s.onChan lane channel fun r f => f.wireDisagree r sample)

/-- AMPLITUDE_LOSS (11 R335): acts once amp_samples conversions lie outside the window. -/
def execAmplitudeLoss (lane : Lane) (channel : Nat) (s : State) : Result := .next (s.onChan lane channel fun r f => f.amplitudeLoss r)

/-- SSI_FRAME_COMPLETE (11 R336). -/
def execSsiFrameComplete (lane : Lane) (channel sample : Nat) (frame : SsiFrame) (s : State) : Result :=
  .next (s.onChan lane channel fun r f => (f.ssi r sample frame, []))

/-- SSI_LOSS (11 R337): acts once ssi_miss consecutive frames are invalid (DESIGN CHOICE: log entry 21). -/
def execSsiLoss (lane : Lane) (channel : Nat) (s : State) : Result := .next (s.onChan lane channel fun r f => f.ssiLoss r)

/-- SENSOR_SUPPLY_SHORT (11 R339). -/
def execSensorSupplyShort (lane : Lane) (channel : Nat) (s : State) : Result := .next (s.onChan lane channel fun r f => f.supplyShort r)

/-- SENSOR_SUPPLY_OPEN (11 R339). -/
def execSensorSupplyOpen (lane : Lane) (channel : Nat) (s : State) : Result := .next (s.onChan lane channel fun r f => f.supplyOpen r)

/-- SENSOR_SUPPLY_RETRY (11 R339). -/
def execSensorSupplyRetry (lane : Lane) (channel : Nat) (s : State) : Result := .next (s.onChan lane channel fun r f => f.supplyRetry r)

/-- LOSS_CLEAR (11 R349): acts once no criterion has held for clear_time. -/
def execLossClear (lane : Lane) (channel : Nat) (s : State) : Result := .next (s.onChan lane channel fun r f => f.lossClear r)

/-- COUNT_LATCH_READ (11 R341): the latch set goes to the holding set. -/
def execCountLatchRead (lane : Lane) (channel : Nat) (s : State) : Result :=
  .next (s.onChan lane channel fun _ f => ({ f with held := f.latch }, []))

/-- The Muslin link has failed, as this lane knows it (02 R65; LN-021). -/
def LaneState.muslinFailed (x : LaneState) : Bool :=
  !(x.muslin.serial0 || x.muslin.serial1) || hasAlarm x.alarms ⟨.ln, 21⟩ 0

/-- A commissioning command of the installer (03 R106): rights bit 10. -/
def askInstaller (object mask : Nat) (old : Bytes) (refuse : Option (Nat × Nat)) : Ask := ⟨object, mask, 2, true, old, none, refuse⟩

/-- A channel of the index mode reset-once arms at the lane's next frame tick; one that is armed stays so (11 R346, R352). -/
def LaneState.armChannel (x : LaneState) (n : Nat) : LaneState :=
  x.withFb (x.fb.withChan x.img.fbch n fun r f => (if r.indexMode = 2 ∧ f.armed = false then { f with armNext := true } else f, []))

/-- Refusal of a command that names a channel without an entry or above the fitted count (11 R352). -/
def State.channelRefused (s : State) (l : Lane) (channel : Nat) : Option (Nat × Nat) :=
  if (fbRec (s.lane l).img.fbch channel).isNone || decide (s.variant.channels ≤ channel) then some (stRefused, 1) else none

/-- Refusal of fb.arm (11 R346, R352). -/
def State.armRefused (s : State) (l : Lane) (channel : Nat) : Option (Nat × Nat) :=
  match s.channelRefused l channel, fbRec (s.lane l).img.fbch channel with
  | none, some r => if r.indexMode ≠ 2 then some (stRefused, 2) else if (s.lane l).muslinFailed then some (stRefused, 3) else none
  | q, _ => q

/-- FB_ARM (11 R346, R352). -/
def execFbArm (lane : Lane) (msg : Msg) (channel : Nat) (s : State) : Result :=
  .next (s.command lane msg (askInstaller 0x5210 0x400 [BitVec.ofNat 8 channel] (s.armRefused lane channel))
    fun t => t.onLane lane fun y => y.armChannel channel)

/-- FB_CLEAR (11 R352). -/
def execFbClear (lane : Lane) (msg : Msg) (channel : Nat) (s : State) : Result :=
  .next (s.command lane msg (askInstaller 0x5211 0x400 [BitVec.ofNat 8 channel] (s.channelRefused lane channel))
    fun t => t.onChan lane channel fun _ f => (f.clearCounts, []))

end Sys2Proof.Machine
end

