-- ==== Sys2Proof/Machine/CmdAnalog.lean ====
section
/-!
DEFINITION. Meanings of the commands of 14: final samples, validity, stops and starts, coefficient sets, commissioning
outputs, readback, discrete outputs.
-/

namespace Sys2Proof.Machine

/-- One configured analog input of a lane changes. -/
def State.onAnalogIn (s : State) (l : Lane) (n : Nat) (f : Anin → AnChan → AnChan × List AlarmOp) : State :=
  s.onLane l fun x => x.withAnalog (x.analog.withChan x.img.anin n f)

/-- One configured analog output of a lane changes. -/
def LaneState.withOut (x : LaneState) (n : Nat) (f : Anou → AnOut → AnOut × List AlarmOp) : LaneState :=
  match anouOf x.img.anou n with
  | some r =>
    let q := f r (nth default x.analog.outs n)
    x.withAnalog ({ x.analog with outs := x.analog.outs.set n q.1 }, q.2)
  | none => x

/-- FIR_SAMPLE (14 R412, R417): a final sample from the newest CIC outputs, newest first. -/
def execFirSample (lane : Lane) (channel : Nat) (samples : List Rat) (s : State) : Result :=
  let custom := (s.lane lane).attic.coeffs
  .next (if (s.lane lane).analog.fault then s
    else s.onAnalogIn lane channel fun r a => (a.sample r (slotTaps custom a.set) samples, []))

/-- ANALOG_INPUT_INVALID (14 R415): acts once oor_samples latches are out of range. -/
def execAnalogInputInvalid (lane : Lane) (channel : Nat) (s : State) : Result :=
  .next (s.onAnalogIn lane channel fun r a => a.invalidate r)

/-- ANALOG_INPUT_VALID (14 R415): acts once clear_time has passed in range. -/
def execAnalogInputValid (lane : Lane) (channel : Nat) (s : State) : Result :=
  .next (s.onAnalogIn lane channel fun r a => a.validate r)

/-- ANALOG_FILL_COMPLETE (14 R418): acts once the filling time has passed. -/
def execAnalogFillComplete (lane : Lane) (channel : Nat) (s : State) : Result :=
  .next (s.onAnalogIn lane channel fun _ a => (a.filled, []))

/-- A stop or a start waits for the lane's next frame tick (14 R418); the later replaces an earlier one. -/
def LaneState.queueChannel (x : LaneState) (n : Nat) (start alt : Bool) : LaneState :=
  x.withAnalog (x.analog.withChan x.img.anin n fun _ a => ({ a with next := some (start, alt) }, []))

/-- Old value of an.channel: channel, running, alternative set. -/
def LaneState.channelBytes (x : LaneState) (n : Nat) : Bytes :=
  let a := nth default x.analog.chans n
  [BitVec.ofNat 8 n, BitVec.ofNat 8 (b2n a.running), BitVec.ofNat 8 (b2n a.alt)]

/-- AN_CHANNEL (14 R418, R420). -/
def execAnChannel (lane : Lane) (msg : Msg) (channel : Nat) (start alt : Bool) (s : State) : Result :=
  let x := s.lane lane
  .next (s.command lane msg
    (askInstaller 0x5020 0x400 (x.channelBytes channel)
      (match aninOf x.img.anin channel with
       | none => some (stMalformed, 0)
       | some r =>
         if x.muslinFailed then some (stRefused, 0)
         else if start && startRefused r x.attic.coeffs alt then some (stVerify, 0) else none))
    fun t => t.onLane lane fun y => y.queueChannel channel start alt)

/-- CRC-32C of the set in a slot, 0 where the slot is empty. -/
def slotCrc (custom : List (Option CoeffSet)) (slot : Nat) : Nat :=
  match nth none custom (slot - 4) with | some c => c.crc | none => 0

/-- Refusal of a coefficient load (14 R419). -/
def LaneState.loadRefused (x : LaneState) (slot len : Nat) (taps : List Int) : Option (Nat × Nat) :=
  if !(decide (4 ≤ slot) && decide (slot ≤ 7)) then some (stMalformed, 0)
  else if !coeffOk len taps then some (stVerify, 0)
  else if x.analog.chans.any fun a => a.running && a.set == slot then some (stInUse, 0) else none

/-- AN_COEFF_LOAD (14 R419) (DEDUCED: log entry 81). -/
def execAnCoeffLoad (lane : Lane) (msg : Msg) (slot len design : Nat) (taps : List Int) (s : State) : Result :=
  let x := s.lane lane
  let crc := crc32c (coeffBytes len design taps)
  .next (s.command lane msg
    { askInstaller 0x5021 0x400 (leBytes 4 (slotCrc x.attic.coeffs slot)) (x.loadRefused slot len taps) with new := some (leBytes 4 crc) }
    fun t => t.onLane lane fun y =>
      { y with attic := { y.attic with coeffs := y.attic.coeffs.set (slot - 4) (some ⟨len, design, taps, crc⟩) } })

/-- AN_OUT_SET (14 R423) (DEDUCED: log entry 81). -/
def execAnOutSet (lane : Lane) (msg : Msg) (output : Nat) (value : Rat) (s : State) : Result :=
  let x := s.lane lane
  .next (s.command lane msg
    (askInstaller 0x5030 0x400 (leF32 ((nth default x.analog.outs output).object.getD 0))
      (match anouOf x.img.anou output with
       | some r => if r.source = 2 then none else some (stRefused, 0)
       | none => some (stMalformed, 0)))
    fun t => t.onLane lane fun y => y.withOut output fun _ o =>
      ({ o with object := some value, age := 0, timedOut := false }, [.clear ⟨.an, 32⟩ output]))

/-- AN_OUT_TIMEOUT (14 R423): acts once no write has come for obj_timeout. -/
def execAnOutTimeout (lane : Lane) (output : Nat) (s : State) : Result :=
  .next (s.onLane lane fun x => x.withOut output fun r o => o.timeout r)

/-- ANALOG_READBACK_FAULT (14 R425): acts in the active lane once the difference or the compliance has lasted 100 ms. -/
def execAnalogReadbackFault (lane : Lane) (output : Nat) (s : State) : Result :=
  .next (s.onLane lane fun x => if x.active then x.withOut output fun _ o => (o, o.readbackFault output) else x)

/-- Codes in the active lane. -/
def State.activeCodes (s : State) (ops : List AlarmOp) : State :=
  match s.activeLane with
  | some l => s.onLane l fun x => x.codes ops
  | none => s

/-- DISCRETE_OUTPUT_OVERLOAD (14 R428): an output that is on switches off. -/
def execDiscreteOutputOverload (output : Nat) (s : State) : Result :=
  .next (if nth false s.discreteOut output && !nth false s.overload output then
      ({ s with overload := s.overload.set output true } : State).activeCodes [.raise ⟨.an, 40⟩ output 0]
    else s)

/-- DISCRETE_OUTPUT_RETRY (14 R428): the switch takes the level of its latch again. -/
def execDiscreteOutputRetry (output : Nat) (s : State) : Result :=
  .next (if nth false s.overload output then
      ({ s with overload := s.overload.set output false } : State).activeCodes [.clear ⟨.an, 40⟩ output]
    else s)

end Sys2Proof.Machine
end

