-- ==== Sys2Proof/Machine/CmdCan.lean ====
section
/-!
DEFINITION. Meanings of the commands of 12: transmit buffers, completion, errors, bus-off, reception, the inhibit,
timeouts. A bus operand is 0 to 3; event times are frame number × 10^6 + ns.
-/

namespace Sys2Proof.Machine

/-- One bus of a lane changes. -/
def State.onBus (s : State) (l : Lane) (n : Nat) (f : Bus → Bus × List AlarmOp) : State :=
  s.onLane l fun x =>
    let r := f (nth default x.can.buses n)
    x.withCan ({ x.can with buses := x.can.buses.set n r.1 }, r.2)

/-- TXB_REQUEST (12 R359, R380). -/
def execTxbRequest (lane : Lane) (bus buffer since : Nat) (s : State) : Result :=
  .next (s.onBus lane bus fun b => (b.request buffer since, []))

/-- TXB_CANCEL (12 R363). -/
def execTxbCancel (lane : Lane) (bus buffer : Nat) (time : CancelTime) (s : State) : Result :=
  .next (s.onBus lane bus fun b => (b.cancel buffer time, []))

/-- CAN_FRAME_COMPLETE (12 R358). -/
def execCanFrameComplete (lane : Lane) (bus sof ns : Nat) (s : State) : Result :=
  .next (s.onBus lane bus fun b => b.complete bus sof ns)

/-- CAN_TX_ERROR (12 R361, R362, R364). -/
def execCanTxError (lane : Lane) (bus sof : Nat) (error : CanError) (s : State) : Result :=
  .next (s.onBus lane bus fun b => b.error bus sof error)

/-- BUS_OFF_RECOVERY (12 R362). -/
def execBusOffRecovery (lane : Lane) (bus : Nat) (s : State) : Result := .next (s.onBus lane bus fun b => b.recover bus)

/-- The takeover sequence of command traffic of the other lane on a cross-listen receiver (02 R37): a lane mark or a command
frame of the default profile, marked active. Receivers 4 to 7 listen on the other lane's buses 0 to 3. -/
def otherTraffic (x : LaneState) (l : Lane) (bus : Nat) (f : CanFrame) : Option Nat :=
  let c := x.img.canp
  let mark := c.laneMarks == 1 && f.id == c.laneMarkId % 2 ^ 29 && f.ext == c.laneMarkId.testBit 29
  let command := c.profile == 1 && !f.ext && decide (0x200 ≤ f.id ∧ f.id < 0x218)
  let b0 := fieldN f.data 0 1
  if decide (4 ≤ bus ∧ bus < 8) && mark && b0 == l.other.code && (fieldN f.data 1 1).testBit 0 then some (fieldN f.data 2 1)
  else if decide (4 ≤ bus ∧ bus < 8) && command && b0 % 2 == l.other.code && b0.testBit 1 then some (fieldN f.data 1 1)
  else none

/-- Command traffic of the other lane is noted per receiver (02 R67). -/
def LaneState.hearTraffic (x : LaneState) (l : Lane) (bus : Nat) (f : CanFrame) : LaneState :=
  if (otherTraffic x l bus f).isSome then { x with peer := { x.peer with crossAge := x.peer.crossAge.set (bus - 4) 0 } } else x

/-- FIFO_POP (12 R380). -/
def execFifoPop (lane : Lane) (bus : Nat) (s : State) : Result := .next (s.onBus lane bus fun b => (b.pop, []))

/-- TRANSMIT_INHIBIT (12 R365): acts while the Baize asserts the lane's line (02 R37). -/
def execTransmitInhibit (lane : Lane) (s : State) : Result :=
  .next (if (s.baize.view lane).inhibit then
    s.onLane lane fun x => { x with can := { x.can with buses := x.can.buses.map Bus.inhibit } } else s)

/-- TRANSMIT_INHIBIT_RELEASE (12 R365): acts once the line is released. -/
def execTransmitInhibitRelease (lane : Lane) (s : State) : Result :=
  .next (if (s.baize.view lane).inhibit then s
    else s.onLane lane fun x => { x with can := { x.can with buses := x.can.buses.map fun b => { b with inhibited := false } } })

/-- DRIVE_STATUS_TIMEOUT (12 R373): acts once no valid status frame has arrived for status_timeout. -/
def execDriveStatusTimeout (lane : Lane) (source : Nat) (s : State) : Result :=
  .next (s.onLane lane fun x => x.withCan (x.can.statusTimeout x.img.canp x.img.thru source))

/-- COMMAND_LATE (12 R369): acts once a command frame is past its deadline (DESIGN CHOICE: log entry 87). -/
def execCommandLate (lane : Lane) (bus key : Nat) (s : State) : Result :=
  let n := (s.lane lane).frame.number
  .next (s.onBus lane bus fun b => b.commandLate bus key n)

end Sys2Proof.Machine
end

