-- ==== Sys2Proof/Machine/CmdCanvas.lean ====
section
/-!
DEFINITION. Meanings of the commands of 17: what a lane shows, its requests, and the panel controller's steps.
-/

namespace Sys2Proof.Machine

/-! ## Content (17 R479, R480) -/

/-- A number rounded to multiples of a resolution. -/
def roundTo (res : Nat) (q : Rat) : Nat := if res = 0 then 0 else (q / (res : Rat) + 1 / 2).floor.toNat * res

/-- The alarms a lane shows, newest first. -/
def LaneState.shownAlarms (x : LaneState) : List Alarm :=
  let newest := x.alarms.reverse.foldl (fun (acc : List Alarm) a =>
    (acc.takeWhile fun b => a.raisedAt ≤ b.raisedAt) ++ [a] ++ acc.dropWhile fun b => a.raisedAt ≤ b.raisedAt) []
  newest.take (x.img.canv.alarmLines)

/-- Content of a region, as the bytes of what it names (DESIGN CHOICE: log entry 12). -/
def State.content (s : State) (l : Lane) (n : Nat) : Bytes :=
  let x := s.lane l
  let utc := x.clock.s - x.cal.leap
  match n with
  | 0 => x.img.header.vesselId ++ leBytes 6 (utc / 60) ++ leBytes 1 x.src.quality.code
  | 1 =>
    leBytes 1 s.laneA.life.state.code ++ leBytes 1 s.laneB.life.state.code ++
    leBytes 1 (match s.activeLane with | some k => k.code | none => 0xFF) ++ leBytes 1 (b2n (!x.link.absent)) ++
    leBytes 1 (b2n s.unrefereed) ++ leBytes 1 x.role.partnerRole ++ leBytes 1 (b2n x.inCommand)
  | 2 => leBytes 1 x.ctrl.mode ++ (nth default x.img.gain x.ctrl.bank).name
  | 3 =>
    leBytes 4 (roundTo x.img.canv.errorRes (1000 * hypotQ x.ctrl.err.x x.ctrl.err.y)) ++
    leInt 4 (100 * x.ctrl.err.z).floor ++ leBytes 1 x.ctrl.verdict
  | _ => x.shownAlarms.flatMap fun a => codeAscii a.code ++ leBytes 6 (a.raisedAt - x.cal.leap)

/-- The lane that sends the content: the active lane, else the home lane (17 R479, R480). -/
def State.sender (s : State) : Lane := s.activeLane.getD s.home

/-- At motion index 0 of every refresh_period-th mission cycle the sender sends each region that differs (17 R480)
(DESIGN CHOICE: log entry 85). -/
def State.sendContent (s : State) (l : Lane) : State :=
  let x := s.lane l
  let period := max 1 x.img.canv.refreshPeriod
  if s.sender = l ∧ x.frame.motion = 0 ∧ x.frame.slot = 0 ∧ x.health.missions % period = 0 then
    (List.range 5).foldl (fun (t : State) n =>
      let c := t.content l n
      t.onLane l fun y =>
        if nth none y.canvasSent n = some c then y
        else { y with canvasSent := y.canvasSent.set n (some c), canvasOut := y.canvasOut.set n (some c) }) s
  else s

/-! ## The controller (17 R481 to R493) -/

/-- The controller takes a step; its status reaches both lanes, which raise its codes (17 R480). -/
def State.canvasStep (s : State) (r : CanvasState × List AlarmOp) : State :=
  let f := fun (x : LaneState) => if x.runs then x.codes r.2 else x
  { s with canvas := r.1, laneA := f s.laneA, laneB := f s.laneB }

/-- CANVAS_REQUEST (17 R480, R487): a request under way arrives; the controller takes it from the sender alone. -/
def execCanvasRequest (lane : Lane) (region : Nat) (s : State) : Result :=
  .next (match nth none (s.lane lane).canvasOut region with
    | some c =>
      let t := s.onLane lane fun x => { x with canvasOut := x.canvasOut.set region none }
      if s.sender = lane then { t with canvas := t.canvas.request region (canonPixels region (Config.render region c)) } else t
    | none => s)

/-- Status of the controller reaches a lane, with the codes it shows (17 R480, R494). -/
def LaneState.canvasSeen (x : LaneState) (c : CanvasState) : LaneState :=
  let hold := fun (on : Bool) (n : Nat) => if on then [AlarmOp.hold ⟨.cv, n⟩ 0 0] else []
  if x.runs then
    ({ x with canvasAge := 0 } : LaneState).codes
      (.clear ⟨.cv, 11⟩ 0 :: (hold (c.stopped == 1 || c.retryWait.isSome) 1 ++ hold (c.stopped == 3) 3 ++ hold c.cold 20))
  else x

/-- The CANV values in force are those of the lane that sends the content, once it has its image (17 R480, R492)
(DESIGN CHOICE: log entry 85). -/
def State.canvasValues (s : State) : CanvasState :=
  match (s.lane s.sender).image with
  | some i => { s.canvas with lightLevel := i.canv.lightLevel, idleRails := i.canv.idleRails }
  | none => s.canvas

/-- CANVAS_TICK (17 R481, R489). -/
def execCanvasTick (inp : CanvasIn) (s : State) : Result :=
  .next (if s.canvas.running then
      let t := s.canvasStep (s.canvasValues.tick inp)
      { t with laneA := t.laneA.canvasSeen t.canvas, laneB := t.laneB.canvasSeen t.canvas }
    else s)

/-- CANVAS_PHASE_BOUNDARY (17 R482, R485 to R487). -/
def execCanvasPhaseBoundary (s : State) : Result := .next { s with canvas := s.canvas.boundary }

/-- CANVAS_RAILS_IDLE (17 R481): acts after idle_rails without work. -/
def execCanvasRailsIdle (s : State) : Result := .next { s with canvas := s.canvas.railsIdle }

/-- CANVAS_RAIL_RETRY (17 R481): acts 10 s after a miss. -/
def execCanvasRailRetry (s : State) : Result := .next { s with canvas := s.canvas.retry }

/-- CRACK_LOOP_CHECK (17 R490). -/
def execCrackLoopCheck (ohm : Nat) (s : State) : Result := .next (s.canvasStep (s.canvas.crackCheck ohm))

/-- CANVAS_TEMPERATURE_CLEAR (17 R489): acts after 60 s inside the range. -/
def execCanvasTemperatureClear (s : State) : Result := .next (s.canvasStep s.canvas.temperatureClear)

/-- A lane's power-fail signal: both of its feeds are LOST (17 R491). -/
def LaneState.powerFail (x : LaneState) : Bool := !x.power.feed1.good && !x.power.feed2.good

/-- CANVAS_POWER_FAIL (17 R491): acts while the signals of both lanes are asserted. -/
def execCanvasPowerFail (s : State) : Result :=
  .next (if s.laneA.powerFail && s.laneB.powerFail then { s with canvas := s.canvas.powerFail } else s)

/-- The CANV record the controller starts with: that of the sender's image, the defaults without one (17 R492). -/
def State.canv (s : State) : CanvRec :=
  match (s.lane s.sender).image with | some i => i.canv | none => ⟨60, 5, 100, 1, 200⟩

/-- CANVAS_START (17 R488): the controller has supply from a lane and does not run. -/
def execCanvasStart (readable : Bool) (ohm : Nat) (s : State) : Result :=
  .next (if s.canvas.running || (!s.laneA.power.regulated && !s.laneB.power.regulated) then s
    else s.canvasStep (s.canvas.start readable ohm s.canv.lightLevel s.canv.idleRails))

/-- CANVAS_RESTART (17 R493): the controller stops; its start follows. -/
def execCanvasRestart (lane : Lane) (msg : Msg) (s : State) : Result :=
  .next (s.command lane msg ⟨0x1501, 0x400, 2, true, [], none, none⟩ fun t => { t with canvas := t.canvas.restart })

/-- CANVAS_STATUS_TIMEOUT (17 R494): acts after 1 s without a status. -/
def execCanvasStatusTimeout (lane : Lane) (s : State) : Result :=
  .next (s.onLane lane fun x => if x.runs && decide (1000 ≤ x.canvasAge) then x.raise ⟨.cv, 11⟩ 0 0 else x)

end Sys2Proof.Machine
end

