-- ==== Sys2Proof/Machine/KeyCells.lean ====
section
/-!
DEFINITION. The cellar key as addressed bytes (03 R79): reading, writing and erasing, in canonical form; its bank-select
slots (03 R81, R82).
-/

namespace Sys2Proof.Machine

/-- Bytes of a cellar key (03 R79). -/
def keySize : Nat := 0x04000000

/-- What an unlisted byte reads as: an erased NOR cell (DESIGN CHOICE: log entry 19). -/
def erasedByte : Byte := 0xFF#8

/-- Canonical form: addresses in the device and strictly rising, and no byte equal to an erased one
(DESIGN CHOICE: log entry 19). -/
def cellsWf : KeyCells → Bool
  | [] => true
  | c :: rest =>
    decide (c.1 < keySize) && decide (c.2 ≠ erasedByte) && rest.all (fun d => decide (c.1 < d.1)) && cellsWf rest

/-- One byte (DESIGN CHOICE: log entry 19). -/
def cellAt (cs : KeyCells) (a : Nat) : Byte :=
  match cs.find? fun c => c.1 == a with
  | some c => c.2
  | none => erasedByte

/-- n bytes from an address. -/
def readCells (cs : KeyCells) (a : Nat) : Nat → Bytes
  | 0 => []
  | n + 1 =>
    match cs.dropWhile fun c => decide (c.1 < a) with
    | [] => erasedByte :: readCells [] (a + 1) n
    | c :: rest => if c.1 = a then c.2 :: readCells rest (a + 1) n else erasedByte :: readCells (c :: rest) (a + 1) n

/-- A byte is written; writing 0xFF removes the cell. An address beyond the device is not written
(DESIGN CHOICE: log entry 19). -/
def writeCell (cs : KeyCells) (a : Nat) (b : Byte) : KeyCells :=
  let below := cs.filter fun c => decide (c.1 < a)
  let above := cs.filter fun c => decide (a < c.1)
  if keySize ≤ a ∨ b = erasedByte then below ++ (cs.filter fun c => c.1 == a && decide (keySize ≤ a)) ++ above
  else below ++ (a, b) :: above

/-- A byte string is written from an address. -/
def writeCells (cs : KeyCells) (a : Nat) : Bytes → KeyCells
  | [] => cs
  | b :: rest => writeCells (writeCell cs a b) (a + 1) rest

/-- n bytes from an address are erased. -/
def eraseCells (cs : KeyCells) (a n : Nat) : KeyCells := cs.filter fun c => !(decide (a ≤ c.1) && decide (c.1 < a + n))

/-- Any list of cells in canonical form; a later cell of an address stands (DESIGN CHOICE: log entry 19). -/
def normalCells (cs : KeyCells) : KeyCells := cs.foldl (fun acc c => writeCell acc c.1 c.2) []

def Key.read (k : Key) (a n : Nat) : Bytes := readCells k.cells a n
def Key.write (k : Key) (a : Nat) (bs : Bytes) : Key := { k with cells := writeCells k.cells a bs }
def Key.erase (k : Key) (a n : Nat) : Key := { k with cells := eraseCells k.cells a n }

/-- Where a bank begins (03 R79). -/
def bankBase (bank : Nat) : Nat := 0x01000000 * bank
/-- A sector (03 R98) and a bank-select slot (03 R79). -/
def sectorSize : Nat := 0x10000
def slotBase (n : Nat) : Nat := 0x02000000 + 0x1000 * n

/-! ## Bank-select (03 R81, R82) -/

/-- A valid slot's selected bank and generation. -/
def Key.slot (k : Key) (n : Nat) : Option (Nat × Nat) :=
  let e := k.read (slotBase n) 32
  if slice e 0 4 = ascii "AQBS" ∧ fieldN e 4 1 = 1 ∧ fieldN e 5 1 ≤ 1 ∧ crcOk e = true then some (fieldN e 5 1, fieldN e 8 4) else none

/-- What bank-select says (03 R82): selected bank, generation of the deciding slot, whether CL-002 is raised, and the slot
and generation of the next flip. With neither slot valid a flip writes slot 0 with generation 1 (log entry 32). -/
structure BankSelect where
  selected : Nat
  generation : Nat
  tie : Bool
  flipSlot : Nat
  flipGen : Nat
  deriving DecidableEq, Repr, Inhabited

def Key.select (k : Key) : BankSelect :=
  match k.slot 0, k.slot 1 with
  | none, none => ⟨0, 0, true, 0, 1⟩
  | some a, none => ⟨a.1, a.2, false, 1, (a.2 + 1) % 2 ^ 32⟩
  | none, some b => ⟨b.1, b.2, false, 0, (b.2 + 1) % 2 ^ 32⟩
  | some a, some b =>
    if newer 32 a.2 b.2 then ⟨a.1, a.2, false, 1, (a.2 + 1) % 2 ^ 32⟩
    else if newer 32 b.2 a.2 then ⟨b.1, b.2, false, 0, (b.2 + 1) % 2 ^ 32⟩
    else ⟨a.1, a.2, true, 1, (a.2 + 1) % 2 ^ 32⟩

/-- The entry a flip writes (03 R81) (DEDUCED: log entry 32). -/
def slotEntry (bank generation keyId opHours cycles : Nat) : Bytes :=
  withCrc (ascii "AQBS" ++ leBytes 1 1 ++ leBytes 1 bank ++ leBytes 2 0 ++ leBytes 4 generation ++ leBytes 4 keyId ++
    leBytes 4 opHours ++ leBytes 4 cycles ++ leBytes 4 0)

/-- A flip: the slot is erased and written (03 R82) (DEDUCED: log entry 32). -/
def Key.flip (k : Key) (bank keyId opHours cycles : Nat) : Key :=
  let f := k.select
  (k.erase (slotBase f.flipSlot) 0x1000).write (slotBase f.flipSlot) (slotEntry bank f.flipGen keyId opHours cycles)

/-! ## A write to a bank (03 R98) -/

/-- Sectors a piece touches, from an offset in the bank. -/
def sectorsOf (off n : Nat) : List Nat :=
  if n = 0 then [] else (List.range ((off + n - 1) / sectorSize - off / sectorSize + 1)).map (off / sectorSize + ·)

/-- A piece beyond the first sector goes to the key, each sector erased just before it is first written. -/
def Key.writePiece (k : Key) (bank : Nat) (erased : List Nat) (off : Nat) (data : Bytes) : Key × List Nat :=
  let new := (sectorsOf off data.length).filter fun n => !erased.contains n
  let k' := new.foldl (fun (q : Key) n => q.erase (bankBase bank + sectorSize * n) sectorSize) k
  (k'.write (bankBase bank + off) data, erased ++ new)

/-- A chunk: what lies in the sector of the header is held back, the rest is written. -/
def KeyWrite.chunk (w : KeyWrite) (k : Key) (data : Bytes) : KeyWrite × Key :=
  let inFirst := min data.length (sectorSize - w.next)
  let first := data.take inFirst
  let rest := data.drop inFirst
  let q := k.writePiece w.bank w.erased (w.next + inFirst) rest
  ({ w with next := w.next + data.length, idle := 0, erased := q.2,
            held := if first.isEmpty then w.held else w.held ++ [(w.next, first)] }, q.1)

/-- The sector that holds the header is erased and written last (03 R98). -/
def KeyWrite.finish (w : KeyWrite) (k : Key) : Key :=
  w.held.foldl (fun (q : Key) p => q.write (bankBase w.bank + p.1) p.2) (k.erase (bankBase w.bank) sectorSize)

end Sys2Proof.Machine
end

