-- ==== Sys2Proof/Machine/Image.lean ====
section
/-!
DEFINITION. The records of the Cellar image, byte by byte: the field map of each record as the plain data the lane runs
(03 R88, R89 and the chapter each map stands in), and the range of every field (03 R94 check 13).
-/

namespace Sys2Proof.Machine

/-! ## Range checks on a byte string -/

/-- A check on the bytes of a payload or of an entry. -/
abbrev Check := Bytes → Bool

def uIn (n off lo hi : Nat) : Check := fun b => decide (lo ≤ fieldN b off n) && decide (fieldN b off n ≤ hi)
def in8 (off lo hi : Nat) : Check := uIn 1 off lo hi
def in16 (off lo hi : Nat) : Check := uIn 2 off lo hi
def in32 (off lo hi : Nat) : Check := uIn 4 off lo hi

/-- One of the values named. -/
def oneOf (n off : Nat) (vs : List Nat) : Check := fun b => vs.contains (fieldN b off n)

/-- A number in a range, or 0xFF for none. -/
def in8Or (off lo hi : Nat) : Check := fun b => in8 off lo hi b || fieldN b off 1 == 0xFF

/-- A signed number in a range. -/
def inI8 (off : Nat) (lo hi : Int) : Check := fun b => decide (lo ≤ fieldI b off 1) && decide (fieldI b off 1 ≤ hi)

/-- A bound of an f32 field: the f32 value nearest to it (log entry 31). -/
def f32Near (q : Rat) : Rat :=
  if q = 0 then 0 else let u := f32Ulp q; ((q / u + 1 / 2).floor : Rat) * u

/-- An f32 field in a closed range. -/
def fIn (off : Nat) (lo hi : Rat) : Check := fun b =>
  match fieldF? b off with | some v => decide (f32Near lo ≤ v) && decide (v ≤ f32Near hi) | none => false

/-- An f32 field above 0 and up to a bound. -/
def fPosTo (off : Nat) (hi : Rat) : Check := fun b =>
  match fieldF? b off with | some v => decide (0 < v) && decide (v ≤ f32Near hi) | none => false

/-- n finite f32 fields. -/
def fFin (off n : Nat) : Check := fun b => (List.range n).all fun k => (fieldF? b (off + 4 * k)).isSome

/-- n positive f32 fields. -/
def fPos (off n : Nat) : Check := fun b =>
  (List.range n).all fun k => match fieldF? b (off + 4 * k) with | some v => decide (0 < v) | none => false

/-- n f32 fields of at least 0. -/
def fNonneg (off n : Nat) : Check := fun b =>
  (List.range n).all fun k => match fieldF? b (off + 4 * k) with | some v => decide (0 ≤ v) | none => false

/-- n reserved bytes (00 R11). -/
def zero (off n : Nat) : Check := fun b => (slice b off n).all (· == 0#8)

/-- A field of n bytes with no bit outside a mask. -/
def bitsOf (n off mask : Nat) : Check := fun b => fieldN b off n &&& mask == fieldN b off n

/-- Every check holds. -/
def allOf (cs : List Check) : Check := fun b => cs.all fun c => c b

/-- The head every payload begins with (03 R88), with its entry count in a range. -/
def headOk (lo : Nat) : Check := fun b => zero 1 1 b && zero 4 4 b && decide (lo ≤ fieldN b 2 2)

/-- The entries of a payload. -/
def entriesOf (fixed size : Nat) (b : Bytes) : List Bytes :=
  (List.range (fieldN b 2 2)).map fun n => slice b (8 + fixed + size * n) size

/-- Three f32 fields. -/
def fieldV3 (b : Bytes) (off : Nat) : V3 := ⟨fieldF b off, fieldF b (off + 4), fieldF b (off + 8)⟩

/-- n unsigned fields of m bytes each. -/
def fieldsN (b : Bytes) (off n m : Nat) : List Nat := (List.range n).map fun k => fieldN b (off + m * k) m

/-- No number appears twice. -/
def distinct (xs : List Nat) : Bool := xs.eraseDups.length == xs.length

/-! ## TWIL (01 R21) -/

def twilRec (b : Bytes) : List TwilEntry :=
  (entriesOf 0 16 b).map fun e =>
    ⟨fieldN e 0 2, fieldN e 2 1, fieldN e 3 1, fieldN e 4 4, fieldN e 8 2, fieldN e 10 1, fieldN e 11 1, fieldN e 12 2, fieldN e 14 1⟩

def twilOk : Check := fun b =>
  headOk 1 b && (entriesOf 0 16 b).all (allOf
    [in16 0 1 0xFFFE, in8 2 0 3, in8 3 0 15, bitsOf 4 4 0xFFFFF, in16 8 1 900, oneOf 1 10 [1, 2, 5, 10, 25, 50],
     fun e => decide (fieldN e 11 1 < fieldN e 10 1), bitsOf 1 14 0x03, zero 15 1])

/-! ## VMOD (07 R228) -/

def vmodRec (b : Bytes) : Vmod :=
  { refPointHull := fieldV3 b 0x08, m11 := fieldF b 0x14, m22 := fieldF b 0x18, m33 := fieldF b 0x1C, m23 := fieldF b 0x20,
    d11 := fieldF b 0x24, d22 := fieldF b 0x28, d33 := fieldF b 0x2C, d23 := fieldF b 0x30, d32 := fieldF b 0x34,
    dq := fieldV3 b 0x38, areaFront := fieldF b 0x44, areaLat := fieldF b 0x48, loa := fieldF b 0x4C,
    rhoAir := fieldN b 0x50 2, windRamp := fieldN b 0x52 2,
    cx := (List.range 19).map fun k => fieldI b (0x54 + 2 * k) 2, cy := (List.range 19).map fun k => fieldI b (0x7A + 2 * k) 2,
    cn := (List.range 19).map fun k => fieldI b (0xA0 + 2 * k) 2, observerType := fieldN b 0xC6 1, waveAdapt := fieldN b 0xC7 1,
    waveLo := fieldF b 0xC8, waveHi := fieldF b 0xCC, waveInit := fieldF b 0xD0, waveZeta := fieldF b 0xD4,
    notchZeta := fieldF b 0xD8, omegaC := fieldV3 b 0xDC, k4 := fieldV3 b 0xE8, biasRatio := fieldV3 b 0xF4,
    biasTc := fieldV3 b 0x100, qForce := fieldV3 b 0x10C, qBias := fieldV3 b 0x118, qWave := fieldV3 b 0x124,
    initSigmaVel := fieldV3 b 0x130, initSigmaBias := fieldV3 b 0x13C, drLimitPos := fieldN b 0x148 2,
    drLimitHdg := fieldN b 0x14A 2, drRatePos := fieldF b 0x14C, drRateHdg := fieldF b 0x150, originRadius := fieldF b 0x154,
    waveMinAmp := fieldF b 0x158, waveMinAmpHdg := fieldF b 0x15C, waveRate := fieldF b 0x160, resetK := fieldF b 0x164 }

/-- One degree of freedom: crossover at most half of wave_lo, bias ratio between 1 / bias_tc and the crossover. -/
def biasOk (lo w r tc : Rat) : Bool := decide (w ≤ lo / 2) && decide (1 < r * tc) && decide (r < w)

def vmodOk : Check := fun b =>
  let v := vmodRec b
  headOk 0 b && allOf
    [fFin 0x08 3, fPos 0x14 3, fFin 0x20 1, fPos 0x24 3, fFin 0x30 2, fNonneg 0x38 3, fNonneg 0x44 3, in16 0x50 1100 1400,
     in16 0x52 10 600, in8 0xC6 0 1, in8 0xC7 0 1, fIn 0xC8 (3 / 10) (16 / 10), fIn 0xCC (3 / 10) (16 / 10), fFin 0xD0 1,
     fIn 0xD4 (2 / 100) (3 / 10), fIn 0xD8 (3 / 10) 2, fFin 0xDC 3, fFin 0xE8 3, fFin 0xF4 3, fIn 0x100 100 10000,
     fIn 0x104 100 10000, fIn 0x108 100 10000] b && allOf
    [fFin 0x10C 15, in16 0x148 10 600, in16 0x14A 10 600, fIn 0x14C (1 / 1000) 1, fIn 0x150 (1 / 100000) (1 / 100),
     fIn 0x154 1000 50000, fIn 0x158 (5 / 1000) 1, fIn 0x15C (1 / 10000) (5 / 100), fIn 0x160 (1 / 1000) (1 / 10),
     fIn 0x164 1 10, zero 0x168 160] b &&
  decide (v.m23 * v.m23 < v.m22 * v.m33) && decide (v.waveLo < v.waveHi) && decide (v.waveLo ≤ v.waveInit) &&
  decide (v.waveInit ≤ v.waveHi) && decide (v.waveZeta < v.notchZeta) &&
  biasOk v.waveLo v.omegaC.x v.biasRatio.x v.biasTc.x && biasOk v.waveLo v.omegaC.y v.biasRatio.y v.biasTc.y &&
  biasOk v.waveLo v.omegaC.z v.biasRatio.z v.biasTc.z

/-! ## THRU (09 R267, R274, R289) -/

def thruRec (b : Bytes) : List Thru :=
  (entriesOf 0 128 b).map fun e =>
    { actuator := fieldN e 0 1, kind := fieldN e 1 1, flags := fieldN e 2 1, vertexCount := fieldN e 3 1,
      position := ⟨fieldF e 4, fieldF e 8⟩, mountAngle := fieldN e 0x0C 2, powerGroup := fieldN e 0x0E 1,
      coupledTo := fieldN e 0x0F 1, thrustModel := fieldN e 0x10 1, axisAngle := fieldN e 0x11 1, axisThrust := fieldN e 0x12 1,
      driveBus := fieldN e 0x13 1, kPos := fieldF e 0x14, kNeg := fieldF e 0x18, unitMax := fieldF e 0x1C,
      unitRate := fieldF e 0x20, azRate := fieldF e 0x24, pMax := fieldF e 0x28, weight := fieldF e 0x2C, tFloor := fieldF e 0x30,
      azHoldThrust := fieldF e 0x34, sectors := fieldsN e 0x38 4 2,
      vertices := (List.range 16).map fun k => (fieldI e (0x40 + 4 * k) 2, fieldI e (0x42 + 4 * k) 2) }

/-- Cross product of two vertices. -/
def crossV (p q : Int × Int) : Int := p.1 * q.2 - p.2 * q.1

/-- The upper half plane comes second in atan2's order (-180, 180]. -/
def upperHalf (p : Int × Int) : Bool := decide (0 ≤ p.2)

/-- q follows p, or stands level with it, in the order of atan2(f_b, f_a). -/
def atanUpTo (p q : Int × Int) : Bool :=
  if upperHalf p == upperHalf q then
    -- on the upper half, angle 0 (also of the null vector) comes first and 180 last
    if p.2 = 0 ∧ q.2 = 0 then decide (0 ≤ p.1) || decide (q.1 < 0)
    else decide (0 ≤ crossV p q)
  else upperHalf q

/-- The force region: order, convexity, the origin inside (09 R267). -/
def regionOk (kind : Nat) (vs : List (Int × Int)) : Bool :=
  let n := vs.length
  let vtx := fun k => nth (0, 0) vs (k % n)
  let pairs := List.range n
  let sub := fun (p q : Int × Int) => (p.1 - q.1, p.2 - q.2)
  if kind = 1 then
    decide (3 ≤ n) && (List.range (n - 1)).all (fun k => atanUpTo (vtx k) (vtx (k + 1))) &&
    pairs.all (fun k => decide (0 ≤ crossV (vtx k) (vtx (k + 1)))) &&
    pairs.all fun k => decide (0 ≤ crossV (sub (vtx (k + 1)) (vtx k)) (sub (vtx (k + 2)) (vtx (k + 1))))
  else
    n == 2 && vs.all (fun p => p.2 == 0) && atanUpTo (vtx 0) (vtx 1) && decide ((vtx 0).1 * (vtx 1).1 ≤ 0) &&
    decide (vtx 0 ≠ vtx 1)

/-- A sector is absent, or at most half a turn wide (09 R274). -/
def sectorOk (s e : Nat) : Bool :=
  (s == 0xFFFF && e == 0xFFFF) || (decide (s < 36000) && decide (e < 36000) && decide ((e + 36000 - s) % 36000 ≤ 18000))

/-- Two sectors do not overlap (09 R274). -/
def sectorsApart (ss : List Nat) : Bool :=
  match ss with
  | [a, b, c, d] =>
    a == 0xFFFF || c == 0xFFFF ||
      (decide ((b + 36000 - a) % 36000 ≤ (c + 36000 - a) % 36000) && decide ((d + 36000 - c) % 36000 ≤ (a + 36000 - c) % 36000))
  | _ => false

/-- What 09 R289 asks of an entry on its own. -/
def Thru.ok (t : Thru) : Bool :=
  let vs := t.vertices.take t.vertexCount
  regionOk t.kind vs && (t.vertices.drop t.vertexCount).all (fun p => p.1 == 0 && p.2 == 0) &&
  (match t.sectors with | [a, b, c, d] => sectorOk a b && sectorOk c d | _ => false) && sectorsApart t.sectors &&
  (t.kind == 1 || t.sectors.all (· == 0xFFFF)) &&
  (t.kind == 1 || decide (0 < t.kNeg) || vs.all fun p => decide (0 ≤ p.1)) &&
  (if 4 ≤ t.kind then t.coupledTo != 0xFF else t.coupledTo == 0xFF && t.thrustModel != 2) &&
  (t.kind != 1 || decide (0 < t.azRate))

def thruOk : Check := fun b =>
  headOk 1 b && distinct ((thruRec b).map (·.actuator)) && (thruRec b).all Thru.ok && (entriesOf 0 128 b).all (allOf
    [in8 0 0 23, in8 1 1 5, bitsOf 1 2 3, in8 3 2 16, fFin 4 2, in16 0x0C 0 35999, in8Or 0x0E 0 5, in8 0x10 0 2, fPos 0x14 1,
     fNonneg 0x18 1, fPos 0x1C 2, fNonneg 0x24 1, fPos 0x28 1, fIn 0x2C (1 / 10) 10, fNonneg 0x30 2])

/-! ## AXIS and LPMC (10 R301 to R309, R321) -/

def axesRec (b : Bytes) : List AxisRec :=
  (entriesOf 0 64 b).map fun e =>
    { axis := fieldN e 0 1, actuator := fieldN e 1 1, role := fieldN e 2 1, ratio := fieldN e 3 1, channel := fieldN e 4 1,
      link := fieldN e 5 1, outKind := fieldN e 6 1, analogOut := fieldN e 7 1, canField := fieldN e 8 1,
      safeAction := fieldN e 9 1, feLatch := fieldN e 0x0A 2, posScale := fieldF e 0x0C, posOffset := fieldF e 0x10,
      spMin := fieldF e 0x14, spMax := fieldF e 0x18, feLimit := fieldF e 0x1C, feTime := fieldN e 0x20 2,
      freezeTime := fieldN e 0x22 2, freezeRate := fieldF e 0x24, outZero := fieldF e 0x28, safeRate := fieldF e 0x2C,
      parkAngle := fieldF e 0x30 }

/-- What 10 R321 asks of an entry on its own. -/
def AxisRec.ok (a : AxisRec) : Bool :=
  (a.safeAction != 2 || a.role == 1 || a.role == 4) && (a.role == 1 || decide (a.spMin < a.spMax)) && decide (a.posScale ≠ 0) &&
  ((a.outKind &&& 1 == 1) == (a.analogOut != 0xFF)) && ((a.outKind &&& 2 == 2) == (a.canField != 0xFF)) &&
  (decide (a.channel ≤ 23) || (decide (0x80 ≤ a.channel) && decide (a.channel ≤ 0xBF)) || a.channel == 0xFF)

def axesOk : Check := fun b =>
  headOk 1 b && distinct ((axesRec b).map (·.axis)) && (axesRec b).all AxisRec.ok && (entriesOf 0 64 b).all (allOf
    [in8 0 0 71, in8 1 0 23, in8 2 1 4, oneOf 1 3 [1, 2, 4, 8, 16], in8Or 5 0 71, bitsOf 1 6 3, in8Or 7 0 15, in8Or 8 0 71, in8 9 0 2,
     in16 0x0A 0 600, fFin 0x0C 4, fPos 0x1C 1, in16 0x20 1 10000, in16 0x22 10 5000, fPos 0x24 1, fFin 0x28 1, fPos 0x2C 1,
     fFin 0x30 1, zero 0x34 12])

def lpmcRec (b : Bytes) : List Lpmc :=
  (entriesOf 0 200 b).map fun e =>
    { axis := fieldN e 0 1, opCount := fieldN e 1 1, feReg := fieldN e 2 1, rateReg := fieldN e 3 1, statusReg := fieldN e 4 1,
      words := (List.range 24).map fun n => slice e (8 + 8 * n) 8 }

/-- Words of an operation by its code; 0 for a reserved code (10 R302). -/
def opSize (op : Nat) : Nat :=
  if op = 0x0A then 10 else if op = 3 ∨ op = 4 ∨ op = 8 ∨ op = 9 ∨ op = 0x0B then 2 else if op ≤ 7 then 1 else 0

/-- Parameters of an operation (10 R302 to R305): its first word and the extension word after it. -/
def opParamsOk (op : Nat) (w x : Bytes) : Bool :=
  let imm := fieldF? w 4
  let p1 := fieldF? x 0
  let p2 := fieldF? x 4
  let within := fun (q : Option Rat) (lo hi : Rat) => match q with | some v => decide (lo ≤ v) && decide (v ≤ hi) | none => false
  match op with
  | 0x03 => imm.isSome && decide (fieldN x 0 1 ≤ 31) && zero 1 7 x
  | 0x04 => match p1, p2 with | some a, some b => decide (a < b) | _, _ => false
  | 0x05 => match imm with | some v => decide (0 < v) | none => false
  | 0x06 => match imm with | some v => decide (0 ≤ v) | none => false
  | 0x07 => within imm 0 30
  | 0x08 => imm.isSome && p1.isSome && p2.isSome
  | 0x09 => imm.isSome && within p1 0 100 && within p2 0 100
  | 0x0A => imm.isSome && (match p1, p2 with | some a, some b => decide (a < b) | _, _ => false)
  | 0x0B => imm.isSome && p1.isSome && (match p2 with | some v => decide (0 < v) | none => false)
  | 0 => true
  | _ => imm.isSome

/-- The operations of a program, walked word by word: number of OUT operations, none where one breaks 10 R309. -/
def walkOps (fuel : Nat) (ws : List Bytes) : Option Nat :=
  match fuel, ws with
  | _, [] => some 0
  | 0, _ :: _ => none
  | k + 1, w :: rest =>
    let op := fieldN w 0 1 % 128
    let n := opSize op
    let regs := op == 0 || (decide (8 ≤ fieldN w 1 1) && decide (fieldN w 1 1 ≤ 31) && decide (fieldN w 2 1 ≤ 31) &&
      decide (fieldN w 3 1 ≤ 31))
    if n = 0 ∨ rest.length + 1 < n ∨ regs = false ∨ (op = 0x0B ∧ fieldN w 1 1 ≠ 8) ∨ opParamsOk op w (rest.headD []) = false then
      none
    else (walkOps k (rest.drop (n - 1))).map fun m => if op = 0x0B then m + 1 else m

/-- What 10 R308 and R309 ask of a program. -/
def Lpmc.ok (p : Lpmc) : Bool :=
  decide (1 ≤ p.opCount) && decide (walkOps 24 (p.words.take p.opCount) = some 1) &&
  (p.words.drop p.opCount).all (fun w => w.all (· == 0#8)) &&
  [p.feReg, p.rateReg].all (fun r => r == 0xFF || (decide (8 ≤ r) && decide (r ≤ 31))) &&
  (p.statusReg == 0xFF || decide (p.statusReg ≤ 31))

def lpmcOk : Check := fun b =>
  headOk 1 b && distinct ((lpmcRec b).map (·.axis)) && (lpmcRec b).all Lpmc.ok &&
  (entriesOf 0 200 b).all (allOf [in8 0 0 71, zero 5 3])

/-! ## ALOC (09 R290) -/

def alocRec (b : Bytes) : Aloc :=
  { slackW := fieldV3 b 0x08, satTol := fieldV3 b 0x14, residualLimit := fieldF b 0x20, smoothW := fieldF b 0x24,
    fallbackAlarm := fieldN b 0x28 2, dualReset := fieldN b 0x2A 1, transitTimeout := fieldN b 0x2B 1, sectorHyst := fieldN b 0x2C 2,
    groups := (entriesOf 64 32 b).map fun e =>
      ⟨fieldN e 0 1, fieldN e 1 1, fieldN e 2 1, fieldN e 3 1, fieldF e 4, fieldF e 8, fieldF e 0x0C⟩ }

def alocOk : Check := fun b =>
  headOk 0 b && allOf
    [fIn 0x08 100 1000000, fIn 0x0C 100 1000000, fIn 0x10 (1 / 10) 1000, fNonneg 0x14 3, fIn 0x20 (1 / 10) 20, fIn 0x24 0 1,
     in16 0x28 5 500, in8 0x2A 1 50, in8 0x2B 10 250, in16 0x2C 0 3000, zero 0x2E 26] b &&
  distinct ((alocRec b).groups.map (·.group)) && (entriesOf 64 32 b).all (allOf
    [in8 0 0 5, in8 1 0 1, in8Or 2 0 15, in8Or 3 0 15, fPos 4 1, fFin 8 1, fNonneg 0x0C 1, zero 0x10 16,
     fun e => fieldN e 1 1 == 0 || fieldN e 2 1 != 0xFF])

/-! ## FBCH (11 R336, R351) -/

def fbchRec (b : Bytes) : List Fbch :=
  (entriesOf 0 48 b).map fun e =>
    { channel := fieldN e 0 1, mode := fieldN e 1 1, flags := fieldN e 2 1, supply := fieldN e 3 1, interp := fieldN e 4 2,
      ssiBits := fieldN e 6 1, ssiFormat := fieldN e 7 1, ssiClock := fieldN e 8 4, ssiPhase := fieldN e 0x0C 1,
      ssiMonoflop := fieldN e 0x0D 1, indexMode := fieldN e 0x0E 1, speedMethod := fieldN e 0x0F 1, modulus := fieldN e 0x10 4,
      indexValue := fieldI e 0x14 4, indexPeriod := fieldN e 0x18 4, indexTol := fieldN e 0x1C 2, speedWindow := fieldN e 0x1E 1,
      ampSamples := fieldN e 0x1F 1, periodTimeout := fieldN e 0x20 2, clearTime := fieldN e 0x22 2, ssiMiss := fieldN e 0x24 1,
      supplyOpenMa := fieldN e 0x25 1, maxStep := fieldN e 0x28 4 }

/-- What 11 R351 asks of an entry on its own; the SSI frame ends by 120 µs after the tick (11 R336). -/
def Fbch.ok (f : Fbch) : Bool :=
  let extra := b2n (f.ssiFormat.testBit 1) + b2n (f.ssiFormat.testBit 2)
  let isSsi := f.mode == 5
  (if f.mode = 1 then decide (4 ≤ f.interp) && decide (f.interp ≤ 4096) && 2 ^ f.interp.log2 == f.interp else f.interp == 0) &&
  (!isSsi || (decide (10 ≤ f.ssiBits) && decide (f.ssiBits ≤ 32) && f.indexMode == 0 && f.speedMethod == 0 &&
    decide ((f.ssiBits + extra + 2) * 1000000 ≤ (120 - f.ssiPhase - f.ssiMonoflop) * f.ssiClock) &&
    decide (f.ssiPhase + f.ssiMonoflop ≤ 120))) &&
  (!f.flags.testBit 1 || decide (f.mode < 5))

def fbchOk : Check := fun b =>
  headOk 0 b && distinct ((fbchRec b).map (·.channel)) && (fbchRec b).all Fbch.ok && (entriesOf 0 48 b).all (allOf
    [in8 1 1 7, bitsOf 1 2 0x0F, in8 3 0 2, bitsOf 1 7 7, in32 8 100000 2000000, in8 0x0C 0 100, in8 0x0D 10 60, in8 0x0E 0 2,
     in8 0x0F 0 1, in16 0x1C 1 4096, in8 0x1E 1 64, in8 0x1F 4 255, in16 0x20 1 1000, in16 0x22 10 10000, in8 0x24 1 16, in8 0x25 0 50,
     zero 0x26 2, zero 0x2C 4])

/-! ## REFS and SERP (06 R172 to R176, R197) -/

def refsRec (b : Bytes) : List RefRec :=
  (entriesOf 0 96 b).map fun e =>
    { refId := fieldN e 0 1, kind := fieldN e 1 1, source := fieldN e 2 1, format := fieldN e 3 1, talker := slice e 4 2,
      subtype := fieldN e 6 1, flags := fieldN e 7 1, leverArm := fieldV3 e 8, mount := fieldV3 e 0x14, depth := fieldF e 0x20,
      rangeA := fieldF e 0x24, rangeB := fieldF e 0x28, latency := fieldN e 0x2C 2, maxAge := fieldN e 0x2E 2,
      sigmaMin := fieldN e 0x30 2, varLimit := fieldN e 0x32 2, varWindow := fieldN e 0x34 1, predPersist := fieldN e 0x35 1,
      predK := fieldN e 0x36 2, freezeTime := fieldN e 0x38 2, freezeRes := fieldN e 0x3A 2, medianLimit := fieldN e 0x3C 2,
      medianPersist := fieldN e 0x3E 1, driftLimit := fieldN e 0x40 2, driftTc := fieldN e 0x42 2, returnTime := fieldN e 0x44 2,
      lostTime := fieldN e 0x46 2 }

/-- Format, kind and source go together (06 R172, R173, R197). -/
def RefRec.formOk (r : RefRec) : Bool :=
  let sentence := decide (1 ≤ r.format) && decide (r.format ≤ 5)
  let kindOf : Option Nat :=
    if r.format = 1 ∨ r.format = 2 ∨ r.format = 0x10 ∨ r.format = 0x11 ∨ r.format = 0x12 then some 1
    else if r.format = 3 ∨ r.format = 4 then some 2
    else if r.format = 0x13 then some 3
    else if r.format = 5 then some 4
    else none
  if r.source = 0x40 ∨ r.source = 0x41 then r.kind == 1 && r.format == 0x20 && r.leverArm == V3.zero
  else if r.source = 0x50 ∨ r.source = 0x51 then r.kind == 2 && r.format == 0x20 && r.leverArm == V3.zero
  else if r.source ≤ 11 then kindOf == some r.kind
  else decide (0x80 ≤ r.source) && decide (r.source ≤ 0x8F) && sentence && kindOf == some r.kind

/-- What tells two references apart (06 R173). -/
def RefRec.same (a b : RefRec) : Bool :=
  a.source == b.source && a.format == b.format && a.talker == b.talker && a.subtype == b.subtype

def refsOk : Check := fun b =>
  let rs := refsRec b
  headOk 1 b && distinct (rs.map (·.refId)) && rs.all RefRec.formOk && rs.all (fun r => decide (r.maxAge ≤ r.lostTime)) &&
  rs.all (fun r => (rs.filter r.same).length == 1) && (entriesOf 0 96 b).all (allOf
    [in8 0 0 25, in8 1 1 4, bitsOf 1 7 0x0F, fFin 8 9, in16 0x2C 0 5000, in16 0x2E 20 5000, in16 0x30 1 65535, in8 0x34 2 60,
     in16 0x38 200 60000, in16 0x3A 1 65535, in8 0x3E 1 250, zero 0x3F 1, in16 0x42 10 600, in16 0x44 1 300, in16 0x46 100 30000,
     zero 0x48 24, fun e => fieldN e 3 1 == 0x11 || zero 6 1 e, fun e => fieldN e 3 1 == 0x12 || (fieldF e 0x20 == 0),
     fun e => decide (3 ≤ fieldN e 1 1) || (in8 0x35 1 250 e && in16 0x36 200 1000 e)])

def serpRec (b : Bytes) : List Serp :=
  (entriesOf 0 32 b).map fun e => ⟨fieldN e 0 1, fieldN e 1 1, fieldN e 2 1, fieldN e 3 1, fieldN e 4 4, fieldN e 8 1⟩

def serpOk : Check := fun b =>
  headOk 0 b && distinct ((serpRec b).map (·.port)) && (entriesOf 0 32 b).all (allOf
    [in8 0 0 11, in8 1 0 1, in8 2 0 2, bitsOf 1 3 7, fun e => decide (fieldN e 3 1 % 4 ≤ 2), in32 4 1200 921600, in8 8 0 1, zero 9 23])

/-! ## GNSS (05 R161, R169, R170) -/

def gnssRec (b : Bytes) : GnssRec :=
  { systems := fieldN b 8 1, bands := fieldN b 9 1, elevationMask := fieldN b 0x0A 1, cn0Min := fieldN b 0x0B 1,
    cn0Drop := fieldN b 0x0C 1, coldSums := fieldN b 0x0D 1, weakSums := fieldN b 0x0E 1, solutionModes := fieldN b 0x0F 1,
    weights := fieldsN b 0x10 5 1, sbasPrn := fieldN b 0x15 1, rtcmSource := fieldN b 0x16 1, rtkAgeMax := fieldN b 0x18 2,
    ratioMin := fieldN b 0x1A 2, residualK := fieldN b 0x1C 2, crossAntLimit := fieldN b 0x1E 2, crossLaneLimit := fieldN b 0x20 2,
    crossLaneSig := fieldN b 0x22 2, dopplerLimit := fieldN b 0x24 2, clockStepLimit := fieldN b 0x26 2,
    clockDriftLimit := fieldN b 0x28 2, cn0High := fieldN b 0x2A 1, cn0Jump := fieldN b 0x2B 1, noiseJump := fieldN b 0x2C 1,
    aoaLimit := fieldN b 0x2D 1, readmitTime := fieldN b 0x2E 2, offsetLimit := fieldN b 0x30 2, offsetPersist := fieldN b 0x32 2,
    pllBw := fieldN b 0x34 2, dllBw := fieldN b 0x36 2, ephMaxAge := fieldN b 0x38 2,
    antennas := (entriesOf 128 32 b).map fun e =>
      ⟨fieldN e 0 1, fieldN e 1 1, fieldN e 2 1, fieldN e 3 1, fieldV3 e 4, fieldN e 0x10 2, fieldN e 0x12 2,
       fieldI e 0x14 2, fieldI e 0x16 2⟩ }

/-- Baseline of a lane's two antennas (numbers 2·lane and 2·lane + 1): in [0.5 m, 50 m] (05 R161). -/
def baselineOk (ants : List AntennaRec) (lane : Nat) : Bool :=
  match ants.find? (fun a => a.antenna == 2 * lane), ants.find? (fun a => a.antenna == 2 * lane + 1) with
  | some p, some q =>
    let d := V3.sub p.position q.position
    let l2 := d.x * d.x + d.y * d.y + d.z * d.z
    decide (1 / 4 ≤ l2) && decide (l2 ≤ 2500)
  | _, _ => true

def gnssOk : Check := fun b =>
  let g := gnssRec b
  headOk 0 b && allOf
    [bitsOf 1 8 0x1F, bitsOf 1 9 3, in8 0x0A 0 30, in8 0x0B 20 40, in8 0x0C 15 30, in8 0x0D 1 10, in8 0x0E 1 10, bitsOf 1 0x0F 3,
     in8 0x10 1 10, in8 0x11 1 10, in8 0x12 1 10, in8 0x13 1 10, in8 0x14 1 10, zero 0x17 1, in16 0x18 1 60, in16 0x1A 200 1000,
     in16 0x1C 300 800, in16 0x1E 50 2000, in16 0x20 100 5000, in16 0x22 200 5000, in16 0x24 100 2000] b && allOf
    [in16 0x26 20 1000, in16 0x28 10 500, in8 0x2A 45 65, in8 0x2B 3 20, in8 0x2C 2 20, in8 0x2D 1 30, in16 0x2E 1 120, in16 0x30 10 200,
     in16 0x32 10 600, in16 0x34 50 300, in16 0x36 10 200, in16 0x38 30 720, zero 0x3A 78] b &&
  decide (g.cn0Drop < g.cn0Min) && (g.sbasPrn == 0 || (decide (120 ≤ g.sbasPrn) && decide (g.sbasPrn ≤ 158))) &&
  (decide (g.rtcmSource ≤ 11) || (decide (0x80 ≤ g.rtcmSource) && decide (g.rtcmSource ≤ 0x83)) || g.rtcmSource == 0xFF) &&
  distinct (g.antennas.map (·.antenna)) && baselineOk g.antennas 0 && baselineOk g.antennas 1 && (entriesOf 128 32 b).all (allOf
    [in8 0 0 3, in8 1 0 1, in8 2 0 1, in8 3 20 150, fFin 4 3, zero 0x18 8])

/-! ## CANB and CANP (12 R356, R377 to R379) -/

def canbRec (b : Bytes) : List Canb :=
  (entriesOf 0 272 b).map fun e =>
    ⟨fieldN e 0 1, fieldN e 1 1, fieldN e 2 1, fieldN e 3 1, fieldN e 4 1, fieldN e 5 1, fieldN e 6 1, fieldN e 7 1, fieldN e 8 1,
     fieldN e 9 1, fieldN e 0x0A 1, fieldN e 0x0B 1,
     (List.range 32).map fun k => ⟨fieldN e (0x10 + 8 * k) 4, fieldN e (0x14 + 8 * k) 4⟩⟩

/-- A rate of 40 MHz / (brp × tq per bit) in [lo, hi] bit/s with its sample point in [60 %, 90 %] (12 R356). -/
def timingOk (lo hi brp t1 t2 sjw : Nat) : Bool :=
  let tq := 1 + t1 + t2
  decide (lo * brp * tq ≤ 40000000) && decide (40000000 ≤ hi * brp * tq) && decide (6 * tq ≤ 10 * (1 + t1)) &&
  decide (10 * (1 + t1) ≤ 9 * tq) && decide (sjw ≤ t2)

def Canb.ok (c : Canb) : Bool :=
  timingOk 125000 1000000 c.nomBrp c.nomTseg1 c.nomTseg2 c.nomSjw &&
  timingOk 500000 5000000 c.dataBrp c.dataTseg1 c.dataTseg2 c.dataSjw &&
  decide (c.dataBrp * (1 + c.dataTseg1 + c.dataTseg2) ≤ c.nomBrp * (1 + c.nomTseg1 + c.nomTseg2))

def canbOk : Check := fun b =>
  headOk 0 b && distinct ((canbRec b).map (·.bus)) && (canbRec b).all Canb.ok && (entriesOf 0 272 b).all (allOf
    [in8 0 0 3, bitsOf 1 1 0x1F, in8 2 1 32, in8 3 2 255, in8 4 1 128, in8 6 1 32, in8 7 1 31, in8 8 1 16, in8 0x0A 0 127, zero 0x0C 4,
     fun e => (List.range 32).all fun k => bitsOf 4 (0x10 + 8 * k) 0xBFFFFFFF e && bitsOf 4 (0x14 + 8 * k) 0x3FFFFFFF e])

def canpRec (b : Bytes) : Canp :=
  { profile := fieldN b 8 1, laneMarks := fieldN b 9 1, laneMarkId := fieldN b 0x0C 4, driveTimeout := fieldN b 0x10 2,
    statusTimeout := fieldN b 0x12 2, commandSlot := fieldN b 0x14 1, statusSlot := fieldN b 0x15 1,
    frames := (entriesOf 32 64 b).map fun e =>
      { frame := fieldN e 0 1, direction := fieldN e 1 1, bus := fieldN e 2 1, flags := fieldN e 3 1, identifier := fieldN e 4 4,
        length := fieldN e 8 1, timeout := fieldN e 0x0A 2, frameMask := fieldN e 0x0C 4,
        fields := (List.range (min 6 (fieldN e 9 1))).map fun k =>
          ⟨fieldN e (0x10 + 8 * k) 1, fieldN e (0x11 + 8 * k) 1, fieldN e (0x12 + 8 * k) 1, fieldN e (0x13 + 8 * k) 1,
           fieldF e (0x14 + 8 * k)⟩ } }

/-- Bytes a field takes in the data (12 R379): none where it takes a bit or nothing. -/
def CanField.width (f : CanField) : Nat :=
  if f.kind = 3 then 4
  else if f.kind = 1 ∨ f.kind = 2 ∨ f.kind = 4 then
    (let t := f.type % 8; if t = 0 ∨ t = 3 then 4 else if t = 1 ∨ t = 2 then 2 else 1)
  else if f.kind = 5 ∨ f.kind = 6 then 1 else 0

/-- Valid data lengths (12 R379). -/
def canLengths : List Nat := [0, 1, 2, 3, 4, 5, 6, 7, 8, 12, 16, 20, 24, 32, 48, 64]

/-- A field on its own in a frame of a direction. -/
def CanField.ok (f : CanField) (dir length : Nat) : Bool :=
  decide (f.kind ≤ 6) && decide (f.offset + f.width ≤ length) && (f.kind == 0 || f.type &&& 0x78 == 0) && decide (f.type % 8 ≤ 4) &&
  (match f.kind with
   | 1 => dir == 1 && decide (f.index ≤ 71)
   | 2 => dir == 2 && decide (f.index ≤ 63)
   | 3 => dir == 1 && f.index == 0
   | 4 => f.index == 0
   | 5 | 6 => dir == 2 && decide (f.index ≤ 7)
   | _ => true)

/-- Two fields share no byte, but for two bits of one byte. -/
def CanField.apart (f g : CanField) : Bool :=
  decide (f.offset + f.width ≤ g.offset) || decide (g.offset + g.width ≤ f.offset) ||
  (decide (5 ≤ f.kind) && decide (5 ≤ g.kind) && f.index != g.index)

/-- Every pair of a list. -/
def pairwise {α : Type} (r : α → α → Bool) : List α → Bool
  | [] => true
  | x :: rest => rest.all (r x) && pairwise r rest

def CanFrameRec.ok (f : CanFrameRec) : Bool :=
  canLengths.contains f.length && (f.flags.testBit 1 || decide (f.length ≤ 8)) &&
  (f.flags.testBit 0 || decide (f.identifier < 2 ^ 11)) && f.fields.all (fun x => x.ok f.direction f.length) &&
  pairwise CanField.apart (f.fields.filter fun x => decide (0 < x.width))

def canpOk : Check := fun b =>
  headOk 1 b && allOf
    [in8 8 0 1, in8 9 0 1, zero 0x0A 2, bitsOf 4 0x0C 0x3FFFFFFF, in16 0x10 2 100, in16 0x12 20 1000, in8 0x14 0 19, in8 0x15 0 19,
     zero 0x16 18] b &&
  distinct ((canpRec b).frames.map (·.frame)) && (canpRec b).frames.all CanFrameRec.ok && (entriesOf 32 64 b).all (allOf
    [in8 0 0 127, in8 1 1 2, in8 2 0 3, bitsOf 1 3 7, bitsOf 4 4 0x1FFFFFFF, in8 9 0 6, bitsOf 4 0x0C 0xFFFFF,
     fun e => (List.range 6).all fun k => fFin (0x14 + 8 * k) 1 e,
     fun e => fieldN e 1 1 == 2 || zero 0x0A 2 e, fun e => fieldN e 1 1 == 1 || zero 0x0C 4 e])

/-! ## SAFE (13 R404, R405) -/

def safeRec (b : Bytes) : SafeRec :=
  { inputMode := fieldsN b 8 12 1, inputFilter := fieldsN b 0x14 12 1, discTime := fieldsN b 0x20 12 2, outputsUsed := fieldN b 0x38 1,
    testPulses := fieldN b 0x3A 2,
    insts := (entriesOf 64 16 b).map fun e =>
      ⟨fieldN e 0 1, fieldN e 1 1, fieldN e 2 1, fieldN e 3 1, fieldN e 4 1, fieldN e 5 1, fieldN e 6 1, fieldN e 8 2⟩,
    hash := sha256 b }

/-- Input modes a function takes (13 R405). -/
def SafeInst.modes (i : SafeInst) : List Nat := if i.function = 3 then [2] else if i.function = 4 then [3] else [1, 2]

/-- Safety inputs of an instance, other than its reset input. -/
def SafeInst.inputs (i : SafeInst) : List Nat := if i.function = 3 then [i.inputA, i.inputB] else [i.inputA]

def SafeRec.ok (r : SafeRec) : Bool :=
  distinct (r.insts.map (·.inst)) && distinct (r.insts.flatMap SafeInst.inputs) &&
  (r.insts.all fun i =>
    i.inputs.all (fun n => decide (n ≤ 11) && i.modes.contains (nth 0 r.inputMode n)) && (i.function == 3 || i.inputB == 0xFF) &&
    nth 0 r.inputMode i.resetInput == 4 && ((i.function != 1 && i.function != 3) || i.flags == 0) &&
    i.outputs &&& r.outputsUsed == i.outputs) &&
  (List.range 12).all fun n =>
    let m := nth 0 r.inputMode n
    let f := nth 0 r.inputFilter n
    (m == 0 || (decide (8 ≤ f) && decide (f ≤ if m = 3 then 24 else 48))) &&
    ((m != 1 && m != 2 && m != 4) || r.testPulses.testBit n)

def safeOk : Check := fun b =>
  headOk 1 b && (safeRec b).ok && allOf
    ((List.range 12).map (fun n => in8 (8 + n) 0 4) ++ (List.range 12).map (fun n => in16 (0x20 + 2 * n) 10 1000) ++
     [zero 0x39 1, bitsOf 2 0x3A 0x0FFF, zero 0x3C 12]) b && (entriesOf 64 16 b).all (allOf
    [in8 0 0 23, in8 1 1 4, in8 2 0 11, in8Or 3 0 11, in8 4 1 255, in8 5 0 11, bitsOf 1 6 3, zero 7 1, zero 0x0A 6,
     fun e => fieldN e 1 1 != 3 || in16 8 100 500 e])

/-! ## ANIN and ANOU (14 R412, R413, R421, R423, R426) -/

def aninRec (b : Bytes) : List Anin :=
  (entriesOf 0 64 b).map fun e =>
    { channel := fieldN e 0 1, range := fieldN e 1 1, cicR := fieldN e 2 2, firD := fieldN e 4 1, coeffSet := fieldN e 5 1,
      altSet := fieldN e 6 1, flags := fieldN e 7 1, xLo := fieldF e 8, xHi := fieldF e 0x0C, engLo := fieldF e 0x10,
      engHi := fieldF e 0x14, dcFc := fieldF e 0x18, dcFreeze := fieldF e 0x1C, oorSamples := fieldN e 0x20 2,
      clearTime := fieldN e 0x22 2, loLimit := fieldF e 0x24, hiLimit := fieldF e 0x28 }

/-- The D a built-in set is designed for; any for a custom set (14 R413). -/
def setFits (slot d : Nat) : Bool :=
  if slot = 0 then d == 4 else if slot = 1 then d == 2 else if slot = 2 then d == 8 else decide (slot ≤ 7)

def Anin.ok (a : Anin) : Bool :=
  [1000, 2000, 4000, 8000].any (fun f => f * a.cicR * a.firD == 8000000) && setFits a.coeffSet a.firD &&
  (a.altSet == 0xFF || setFits a.altSet a.firD) && decide (a.xLo < a.xHi) && decide (a.loLimit < a.hiLimit)

def aninOk : Check := fun b =>
  headOk 0 b && distinct ((aninRec b).map (·.channel)) && (aninRec b).all Anin.ok && (entriesOf 0 64 b).all (allOf
    [in8 0 0 15, in8 1 1 2, oneOf 2 2 [125, 250, 500, 1000], oneOf 1 4 [1, 2, 4, 8], in8 5 0 7, in8Or 6 0 7, bitsOf 1 7 3, fFin 8 4,
     fIn 0x18 (1 / 100) 10, fNonneg 0x1C 1, in16 0x20 1 8000, in16 0x22 10 10000, fFin 0x24 2, zero 0x2C 20])

def anouRec (b : Bytes) : List Anou :=
  (entriesOf 0 32 b).map fun e =>
    ⟨fieldN e 0 1, fieldN e 1 1, fieldN e 2 1, fieldF e 4, fieldF e 8, fieldF e 0x0C, fieldN e 0x10 2, fieldN e 0x12 2⟩

def anouOk : Check := fun b =>
  headOk 0 b && distinct ((anouRec b).map (·.output)) && (anouRec b).all (fun a => decide (a.scale ≠ 0)) &&
  (entriesOf 0 32 b).all (allOf
    [in8 0 0 15, in8 1 1 2, in8 2 1 2, zero 3 1, fFin 4 3, in16 0x10 20 10000, in16 0x12 10 1000, zero 0x14 12])

/-! ## NETW and TIME (15 R438, R452) -/

def netwRec (b : Bytes) : Netw :=
  { ctrlIpA := fieldN b 8 4, ctrlIpB := fieldN b 0x0C 4, ctrlMaskLen := fieldN b 0x10 1, nodeForget := fieldN b 0x12 2,
    ctrlGateway := fieldN b 0x14 4, svcIpA := fieldN b 0x18 4, svcIpB := fieldN b 0x1C 4, svcMaskLen := fieldN b 0x20 1,
    sessionTimeout := fieldN b 0x22 2,
    streams := (List.range 16).map fun n =>
      ⟨fieldN b (0x30 + 12 * n) 1, fieldN b (0x32 + 12 * n) 2, fieldN b (0x34 + 12 * n) 4, slice b (0x38 + 12 * n) 2,
       fieldN b (0x3A + 12 * n) 2⟩ }

/-- The subnet of an IPv4 address as the image stores it (little-endian field, first octet most significant; log entry 31). -/
def subnet (ip len : Nat) : Nat := ip / 2 ^ (32 - len)

/-- Two addresses lie in one subnet, by the shorter of their masks (DEDUCED: log entry 31). -/
def sameSubnet (ip1 l1 ip2 l2 : Nat) : Bool := let l := min l1 l2; subnet ip1 l == subnet ip2 l

def netwOk : Check := fun b =>
  let n := netwRec b
  headOk 0 b && allOf
    [in8 0x10 8 30, zero 0x11 1, in16 0x12 10 600, in8 0x20 8 30, zero 0x21 1, in16 0x22 5 60, zero 0x24 12, zero 0xF0 24,
     fun b => (List.range 16).all fun k => in8 (0x30 + 12 * k) 0 2 b && zero (0x31 + 12 * k) 1 b] b &&
  n.ctrlIpA != n.ctrlIpB && n.svcIpA != n.svcIpB &&
  !(sameSubnet n.ctrlIpA n.ctrlMaskLen n.svcIpA n.svcMaskLen || sameSubnet n.ctrlIpB n.ctrlMaskLen n.svcIpB n.svcMaskLen) &&
  (n.streams.drop 4).all (fun s => s.kind != 2) && n.streams.all (fun s => s.kind != 1 || decide (s.sourceNumber ≤ 9999)) &&
  pairwise (fun s t => s.kind == 0 || s.kind != t.kind || s.address != t.address || s.port != t.port) n.streams

def timeRec (b : Bytes) : TimeRec :=
  { sourceOrder := fieldsN b 8 3 1, ptpRole := fieldN b 0x0B 1, ptpDomain := fieldN b 0x0C 1, ptpDelay := fieldN b 0x0D 1,
    priority1 := fieldN b 0x0E 1, priority2 := fieldN b 0x0F 1, logAnnounce := fieldI b 0x10 1, logSync := fieldI b 0x11 1,
    logMinDelayReq := fieldI b 0x12 1, announceTimeout := fieldN b 0x13 1, ppsIn := fieldN b 0x14 1, ptpTransport := fieldN b 0x15 1,
    ppsInDelay := [fieldI b 0x16 2, fieldI b 0x18 2],
    pulses := (List.range 4).map fun g => ⟨fieldN b (0x20 + 8 * g) 1, fieldN b (0x21 + 8 * g) 1, fieldN b (0x24 + 8 * g) 4⟩ }

def timeOk : Check := fun b =>
  let t := timeRec b
  headOk 0 b && allOf
    [in8 8 0 3, in8 9 0 3, in8 0x0A 0 3, in8 0x0B 0 1, in8 0x0C 0 127, in8 0x0D 0 1, inI8 0x10 0 4, inI8 0x11 (-4) 1, inI8 0x12 (-4) 5,
     in8 0x13 2 10, bitsOf 1 0x14 0x0F, in8 0x15 0 1, zero 0x1A 6, zero 0x40 8,
     fun b => (List.range 4).all fun g => oneOf 1 (0x20 + 8 * g) [0, 2, 3] b && in8 (0x21 + 8 * g) 0 1 b && zero (0x22 + 8 * g) 2 b] b &&
  distinct (t.sourceOrder.filter (· != 0)) && (t.ptpRole == 0 || t.priority1 != 255) &&
  t.pulses.all fun p => p.mode != 3 || decide (p.width ≤ 500000000)

/-! ## MODE, GAIN, FGRP (08 R241, R259 to R261) -/

def modeRec (b : Bytes) : ModeRec :=
  { joystickSource := fieldN b 9 1, joystickAi := fieldsN b 0x0A 3 1, joystickDeadband := fieldN b 0x0D 1,
    joystickTimeout := fieldN b 0x0E 2, joystickScale := fieldV3 b 0x10, consMargin := fieldN b 0x1C 2, consPersist := fieldN b 0x1E 1,
    targetRef := fieldN b 0x1F 1, consTol := fieldV3 b 0x20, gwDo := fieldN b 0x2C 1, gwMinRefs := fieldN b 0x2D 1,
    trackSpeedMax := fieldF b 0x30, trackXteMax := fieldF b 0x34, targetSpeedMax := fieldF b 0x38, targetLostTime := fieldN b 0x3C 2,
    biasReleaseTime := fieldN b 0x3E 2,
    modes := (entriesOf 64 32 b).map fun e =>
      ⟨fieldN e 0 1, fieldN e 1 1, fieldN e 2 1, fieldN e 3 1, (List.range 7).map fun k => fieldF e (4 + 4 * k)⟩ }

/-- Parameters a mode uses (08 R261). -/
def paramsUsed (mode : Nat) : Nat :=
  match mode with | 3 => 2 | 4 => 4 | 5 => 2 | 6 => 5 | 7 => 4 | 8 => 7 | _ => 0

/-- Ranges of a mode's parameters; an unused one is 0 (08 R261). -/
def modeParamsOk (e : Bytes) : Bool :=
  let m := fieldN e 0 1
  fFin 4 7 e && ((List.range 7).drop (paramsUsed m)).all (fun k => fieldF e (4 + 4 * k) == 0) &&
  (match m with
   | 4 => fIn 4 2 500 e && fIn 8 (1 / 10) (9 / 10) e
   | 5 => fIn 8 1 50 e
   | 6 => [(0 : Rat), 1, 2].contains (fieldF e 4) && [(0 : Rat), 1].contains (fieldF e 12)
   | 7 => fIn 8 10 600 e && fIn 12 1 30 e
   | _ => true)

def modeOk : Check := fun b =>
  let m := modeRec b
  headOk 1 b && allOf
    [zero 8 1, in8 9 0 1, in8Or 0x0A 0 15, in8Or 0x0B 0 15, in8Or 0x0C 0 15, in8 0x0D 0 20, in16 0x0E 40 2000, fFin 0x10 3,
     in16 0x1C 100 200, in8 0x1E 1 10, in8Or 0x1F 0 25, fNonneg 0x20 3, in8Or 0x2C 0 7, in8 0x2D 1 12, zero 0x2E 2,
     fIn 0x30 (1 / 10) 3, fIn 0x34 1 100, fIn 0x38 (1 / 10) 5, in16 0x3C 500 30000, in16 0x3E 5 300, zero 0x40 8] b &&
  distinct (m.modes.map (·.mode)) && [0, 1].all (fun n => m.modes.any fun e => e.mode == n && e.enabled == 1) &&
  (m.joystickSource == 0 || m.joystickAi.all (· != 0xFF)) && (entriesOf 64 32 b).all (allOf
    [in8 0 0 8, in8 1 0 1, in8Or 2 0 3, bitsOf 1 3 1, modeParamsOk])

def gainRec (b : Bytes) : List GainBank :=
  (entriesOf 0 256 b).map fun e =>
    { bank := fieldN e 0 1, name := slice e 2 14, kp := fieldV3 e 0x10, kd := fieldV3 e 0x1C, ki := fieldV3 e 0x28,
      eKnee := fieldV3 e 0x34, kneeRatio := fieldV3 e 0x40, integMax := fieldV3 e 0x4C, demandMax := fieldV3 e 0x58,
      demandRate := fieldV3 e 0x64, windFf := fieldV3 e 0x70, biasFf := fieldV3 e 0x7C, accelFf := fieldF e 0x88,
      refOmega := fieldV3 e 0x8C, refSpeedMax := ⟨fieldF e 0x98, fieldF e 0x9C⟩, refAccelMax := ⟨fieldF e 0xA0, fieldF e 0xA4⟩ }

def gainOk : Check := fun b =>
  headOk 1 b && (gainRec b).map (·.bank) == List.range (gainRec b).length && (entriesOf 0 256 b).all (allOf
    [zero 1 1, fNonneg 0x10 9, fPos 0x34 3, fPosTo 0x40 1, fPosTo 0x44 1, fPosTo 0x48 1, fPos 0x4C 9,
     fun e => (List.range 7).all fun k => fIn (0x70 + 4 * k) 0 1 e,
     fun e => (List.range 3).all fun k => fIn (0x8C + 4 * k) (1 / 100) (1 / 2) e,
     fPosTo 0x98 3, fPosTo 0x9C 5, fPos 0xA0 2, zero 0xA8 88])

def fgrpRec (b : Bytes) : List FailGroup :=
  (entriesOf 0 16 b).map fun e => ⟨fieldN e 0 1, fieldN e 1 1, fieldN e 2 2, fieldN e 4 4, fieldN e 8 1, fieldN e 9 1⟩

def fgrpOk : Check := fun b =>
  headOk 0 b && distinct ((fgrpRec b).map (·.group)) && (fgrpRec b).all (fun g => g.actuators != 0 || g.powerGroups != 0) &&
  (entriesOf 0 16 b).all (allOf [in8 0 0 39, in8 1 1 4, bitsOf 4 4 0xFFFFFF, bitsOf 1 8 0x3F, in8 9 0 100, zero 0x0A 6])

/-! ## ROLE, LARD, CANV (02 R72, 03 R92, R93; 16 R471; 17 R492) -/

def roleRec (b : Bytes) : RoleRec :=
  { homeLane := fieldN b 8 1, partnerRole := fieldN b 9 1, revertHoldoff := fieldN b 0x0A 2, shadowPosLimit := fieldN b 0x0C 2,
    shadowHeadingLimit := fieldN b 0x0E 2, partnerAuto := fieldN b 0x10 1, partnerDi := fieldN b 0x11 1, partnerDo := fieldN b 0x12 1,
    writeTimeout := fieldN b 0x14 2,
    stations := (entriesOf 16 16 b).map fun e => ⟨fieldN e 0 1, fieldN e 1 1, fieldN e 2 2, fieldN e 4 4, fieldN e 8 4⟩ }

def roleOk : Check := fun b =>
  headOk 1 b && allOf
    [in8 8 0 1, in8 9 0 2, in16 0x0A 10 600, in16 0x0C 10 1000, in16 0x0E 10 1000, in8 0x10 0 1, in8Or 0x11 0 15, in8Or 0x12 0 7,
     zero 0x13 1, in16 0x14 10 300, zero 0x16 2] b &&
  distinct ((roleRec b).stations.map (·.station)) && distinct ((roleRec b).stations.map (·.keyId)) &&
  (entriesOf 16 16 b).all (allOf
    [in8 0 1 16, in8 1 1 2, fun e => if fieldN e 1 1 = 1 then bitsOf 2 2 0x3F e else bitsOf 2 2 0x1700 e, in32 4 1 0xFFFFFFFE, zero 0x0C 4])

/-- Instances of a Larder item; none for a number that names none (16 R469). -/
def itemInstances (item : Nat) : Option Nat :=
  match item with
  | 0x01 => some 6 | 0x02 => some 6 | 0x03 => some 24 | 0x04 => some 6 | 0x05 => some 2 | 0x10 => some 72 | 0x11 => some 2
  | 0x12 => some 1 | 0x13 => some 1 | _ => none

def lardRec (b : Bytes) : LardRec :=
  { floodWindow := fieldN b 8 2,
    sels := (entriesOf 32 16 b).map fun e => ⟨fieldN e 0 1, fieldN e 1 1, fieldN e 2 1, fieldF e 4, fieldF e 8⟩,
    crc := crc32c b }

/-- Instances a record selects, of histograms or of extremes (16 R471). -/
def LardRec.selected (r : LardRec) (hist : Bool) : Nat :=
  sumN ((r.sels.filter fun s => decide (s.item < 0x10) == hist).map (·.count))

def lardOk : Check := fun b =>
  let r := lardRec b
  headOk 0 b && in16 8 1 3600 b && zero 0x0A 30 b && (entriesOf 32 16 b).all (allOf [zero 3 1, fFin 4 2, zero 0x0C 4]) &&
  (r.sels.all fun s =>
    (match itemInstances s.item with | some n => decide (1 ≤ s.count) && decide (s.first + s.count ≤ n) | none => false) &&
    (if s.item < 0x10 then decide (0 < s.width) else s.lo == 0 && s.width == 0)) &&
  pairwise (fun s t => s.item != t.item || decide (s.first + s.count ≤ t.first) || decide (t.first + t.count ≤ s.first)) r.sels

def canvRec (b : Bytes) : CanvRec := ⟨fieldN b 8 1, fieldN b 9 1, fieldN b 0x0A 2, fieldN b 0x0C 1, fieldN b 0x0E 2⟩

def canvOk : Check := fun b =>
  headOk 0 b && allOf [in8 8 0 100, in8 9 1 5, in16 0x0A 10 1000, in8 0x0C 1 60, zero 0x0D 1, in16 0x0E 50 5000, zero 0x10 56] b

/-- Defaults of 17 R492. -/
def CanvRec.standard : CanvRec := ⟨60, 5, 100, 1, 200⟩

end Sys2Proof.Machine
end

