-- ==== Sys2Proof/Machine/Sign.lean ====
section
/-!
DEFINITION. The two algorithms chapter 03 names by their standards: Ed25519 verification by RFC 8032 (03 preamble, R87),
with the SHA-512 of FIPS 180-4 it needs, and AES key unwrap by RFC 3394 (R107) over AES-256 by FIPS 197, the
key-encryption key being a 32-byte session key. The algorithms stand in those standards, not in the manual
(PRESUMED; log entry 6).
-/

namespace Sys2Proof.Machine

/-! ## SHA-512 -/

/-- The 80 round constants: the first 64 fractional bits of the cube roots of the first 80 primes. -/
def sha5K : List (BitVec 64) :=
  [0x428a2f98d728ae22, 0x7137449123ef65cd, 0xb5c0fbcfec4d3b2f, 0xe9b5dba58189dbbc,
   0x3956c25bf348b538, 0x59f111f1b605d019, 0x923f82a4af194f9b, 0xab1c5ed5da6d8118,
   0xd807aa98a3030242, 0x12835b0145706fbe, 0x243185be4ee4b28c, 0x550c7dc3d5ffb4e2,
   0x72be5d74f27b896f, 0x80deb1fe3b1696b1, 0x9bdc06a725c71235, 0xc19bf174cf692694,
   0xe49b69c19ef14ad2, 0xefbe4786384f25e3, 0x0fc19dc68b8cd5b5, 0x240ca1cc77ac9c65,
   0x2de92c6f592b0275, 0x4a7484aa6ea6e483, 0x5cb0a9dcbd41fbd4, 0x76f988da831153b5,
   0x983e5152ee66dfab, 0xa831c66d2db43210, 0xb00327c898fb213f, 0xbf597fc7beef0ee4,
   0xc6e00bf33da88fc2, 0xd5a79147930aa725, 0x06ca6351e003826f, 0x142929670a0e6e70,
   0x27b70a8546d22ffc, 0x2e1b21385c26c926, 0x4d2c6dfc5ac42aed, 0x53380d139d95b3df,
   0x650a73548baf63de, 0x766a0abb3c77b2a8, 0x81c2c92e47edaee6, 0x92722c851482353b] ++
  [0xa2bfe8a14cf10364, 0xa81a664bbc423001, 0xc24b8b70d0f89791, 0xc76c51a30654be30,
   0xd192e819d6ef5218, 0xd69906245565a910, 0xf40e35855771202a, 0x106aa07032bbd1b8,
   0x19a4c116b8d2d0c8, 0x1e376c085141ab53, 0x2748774cdf8eeb99, 0x34b0bcb5e19b48a8,
   0x391c0cb3c5c95a63, 0x4ed8aa4ae3418acb, 0x5b9cca4f7763e373, 0x682e6ff3d6b2b8a3,
   0x748f82ee5defb2fc, 0x78a5636f43172f60, 0x84c87814a1f0ab72, 0x8cc702081a6439ec,
   0x90befffa23631e28, 0xa4506cebde82bde9, 0xbef9a3f7b2c67915, 0xc67178f2e372532b,
   0xca273eceea26619c, 0xd186b8c721c0c207, 0xeada7dd6cde0eb1e, 0xf57d4f7fee6ed178,
   0x06f067aa72176fba, 0x0a637dc5a2c898a6, 0x113f9804bef90dae, 0x1b710b35131c471b,
   0x28db77f523047d84, 0x32caab7b40c72493, 0x3c9ebe0a15c9bebc, 0x431d67c49c100d4c,
   0x4cc5d4becb3e42b6, 0x597f299cfc657e2a, 0x5fcb6fab3ad6faec, 0x6c44198c4a475817]

/-- The eight words of a SHA-512 state. -/
structure Sha5 where
  a : BitVec 64
  b : BitVec 64
  c : BitVec 64
  d : BitVec 64
  e : BitVec 64
  f : BitVec 64
  g : BitVec 64
  h : BitVec 64
  deriving DecidableEq, Repr

/-- The initial value. -/
def sha5Init : Sha5 :=
  ⟨0x6a09e667f3bcc908, 0xbb67ae8584caa73b, 0x3c6ef372fe94f82b, 0xa54ff53a5f1d36f1,
   0x510e527fade682d1, 0x9b05688c2b3e6c1f, 0x1f83d9abfb41bd6b, 0x5be0cd19137e2179⟩

/-- One round with its message word and constant. -/
def sha5Round (s : Sha5) (w k : BitVec 64) : Sha5 :=
  let s1 := s.e.rotateRight 14 ^^^ s.e.rotateRight 18 ^^^ s.e.rotateRight 41
  let ch := (s.e &&& s.f) ^^^ (~~~s.e &&& s.g)
  let t1 := s.h + s1 + ch + k + w
  let s0 := s.a.rotateRight 28 ^^^ s.a.rotateRight 34 ^^^ s.a.rotateRight 39
  let mj := (s.a &&& s.b) ^^^ (s.a &&& s.c) ^^^ (s.b &&& s.c)
  ⟨t1 + (s0 + mj), s.a, s.b, s.c, s.d + t1, s.e, s.f, s.g⟩

/-- The rounds, the sixteen message words in hand held oldest first. -/
def sha5Rounds (s : Sha5) (win : List (BitVec 64)) : List (BitVec 64) → Sha5
  | [] => s
  | k :: ks =>
    let w := win.getD 0 0
    let x15 := win.getD 1 0
    let x2 := win.getD 14 0
    let s0 := x15.rotateRight 1 ^^^ x15.rotateRight 8 ^^^ (x15 >>> 7)
    let s1 := x2.rotateRight 19 ^^^ x2.rotateRight 61 ^^^ (x2 >>> 6)
    let next := w + s0 + win.getD 9 0 + s1
    sha5Rounds (sha5Round s w k) (win.drop 1 ++ [next]) ks

/-- The number a byte string holds, most significant byte first. -/
def beNat (bs : Bytes) : Nat := leNat bs.reverse

/-- n 64-bit words of a byte string, each most significant byte first. -/
def beWords64 : Nat → Bytes → List (BitVec 64)
  | 0, _ => []
  | n + 1, bs => BitVec.ofNat 64 (beNat (bs.take 8)) :: beWords64 n (bs.drop 8)

/-- One 128-byte block. -/
def sha5Block (s : Sha5) (blk : Bytes) : Sha5 :=
  let r := sha5Rounds s (beWords64 16 blk) sha5K
  ⟨s.a + r.a, s.b + r.b, s.c + r.c, s.d + r.d, s.e + r.e, s.f + r.f, s.g + r.g, s.h + r.h⟩

/-- The blocks of a padded message. -/
def sha5Blocks (s : Sha5) : Nat → Bytes → Sha5
  | 0, _ => s
  | n + 1, bs => sha5Blocks (sha5Block s (bs.take 128)) n (bs.drop 128)

/-- SHA-512 of a byte string: 64 bytes (PRESUMED: log entry 6). -/
def sha512 (bs : Bytes) : Bytes :=
  let n := bs.length
  let padded := bs ++ 0x80#8 :: zeros ((239 - n % 128) % 128) ++ (leBytes 16 (8 * n)).reverse
  let r := sha5Blocks sha5Init (padded.length / 128) padded
  [r.a, r.b, r.c, r.d, r.e, r.f, r.g, r.h].flatMap fun w => (leBytes 8 w.toNat).reverse

/-! ## Ed25519 (RFC 8032 section 5.1) -/

/-- The field prime. -/
def edP : Nat := 2 ^ 255 - 19

/-- The order of the base point. -/
def edL : Nat := 2 ^ 252 + 27742317777372353535851937790883648493

/-- The curve constant d of -x² + y² = 1 + d x² y². -/
def edD : Nat := 0x52036cee2b6ffe738cc740797779e89800700a4d4141d8ab75eb4dca135978a3

/-- A point in extended coordinates: x = X/Z, y = Y/Z, x y = T/Z. -/
structure EdPoint where
  x : Nat
  y : Nat
  z : Nat
  t : Nat
  deriving DecidableEq, Repr

/-- The point of affine coordinates x, y. -/
def edAffine (x y : Nat) : EdPoint := ⟨x, y, 1, x * y % edP⟩

/-- The base point. -/
def edBase : EdPoint :=
  edAffine 0x216936d3cd6e53fec0a4e231fdd6dc5c692cc7609525a7b2c9562d608f25d51a
    0x6666666666666666666666666666666666666666666666666666666666666658

/-- The neutral point. -/
def edZero : EdPoint := ⟨0, 1, 1, 0⟩

/-- Difference in the field. -/
def edSub (a b : Nat) : Nat := (a + (edP - b % edP)) % edP

/-- Sum of two points (RFC 8032 section 5.1.4). -/
def edAdd (p q : EdPoint) : EdPoint :=
  let a := edSub p.y p.x * edSub q.y q.x % edP
  let b := (p.y + p.x) * (q.y + q.x) % edP
  let c := p.t * 2 * edD % edP * q.t % edP
  let d := p.z * 2 * q.z % edP
  let e := edSub b a
  let f := edSub d c
  let g := (d + c) % edP
  let h := (b + a) % edP
  ⟨e * f % edP, g * h % edP, f * g % edP, e * h % edP⟩

/-- The n low bits of a scalar times a point, by doubling and adding. -/
def edMul : Nat → Nat → EdPoint → EdPoint
  | 0, _, _ => edZero
  | n + 1, k, p =>
    let r := edMul n (k / 2) (edAdd p p)
    if k % 2 = 1 then edAdd r p else r

/-- A power in the field, over the n low bits of the exponent. -/
def edPow : Nat → Nat → Nat → Nat
  | 0, _, _ => 1
  | n + 1, b, e =>
    let r := edPow n (b * b % edP) (e / 2)
    if e % 2 = 1 then r * b % edP else r

/-- Whether two points are the same point. -/
def edSame (p q : EdPoint) : Bool :=
  decide (p.x * q.z % edP = q.x * p.z % edP) && decide (p.y * q.z % edP = q.y * p.z % edP)

/-- The point 32 bytes encode (RFC 8032 section 5.1.3); none where they encode none. -/
def edDecode (bs : Bytes) : Option EdPoint :=
  let v := leNat bs
  let sign := v / 2 ^ 255 % 2
  let y := v % 2 ^ 255
  if edP ≤ y then none
  else
    let u := edSub (y * y) 1
    let w := (edD * (y * y % edP) + 1) % edP
    let w3 := w * w % edP * w % edP
    let w7 := w3 * w3 % edP * w % edP
    let r := u * w3 % edP * edPow 255 (u * w7 % edP) ((edP - 5) / 8) % edP
    let rr := w * (r * r % edP) % edP
    let root := if rr = u then some r
      else if rr = edSub 0 u then some (r * edPow 255 2 ((edP - 1) / 4) % edP) else none
    root.bind fun x =>
      if x = 0 ∧ sign = 1 then none
      else some (edAffine (if x % 2 = sign then x else edP - x) y)

/-- Ed25519 verification (RFC 8032 section 5.1.7): public key, message, signature. The group equation is checked with
the cofactor 8, the form the standard states; its sufficient form without the cofactor is not required (log entry 6). -/
def ed25519Verify (key msg sig : Bytes) : Bool :=
  let s := leNat (slice sig 32 32)
  match decide (key.length = 32 ∧ sig.length = 64 ∧ s < edL), edDecode (sig.take 32), edDecode key with
  | true, some r, some a =>
    let k := leNat (sha512 (sig.take 32 ++ key ++ msg)) % edL
    edSame (edMul 4 8 (edMul 253 s edBase)) (edMul 4 8 (edAdd r (edMul 253 k a)))
  | _, _, _ => false

/-! ## AES-256, decryption (FIPS 197) -/

/-- Product with x in the field of AES. -/
def aesX (a : Byte) : Byte := if a.getLsbD 7 then (a <<< 1) ^^^ 0x1B#8 else a <<< 1

/-- Product in the field of AES over the n low bits of the second factor. -/
def aesMulBits : Nat → Byte → Byte → Byte
  | 0, _, _ => 0
  | n + 1, a, b => (if b.getLsbD 0 then a else 0) ^^^ aesMulBits n (aesX a) (b >>> 1)

/-- Product in the field of AES. -/
def aesMul (a b : Byte) : Byte := aesMulBits 8 a b

/-- The inverse in the field of AES, 0 for 0: the power 254. -/
def aesInv (a : Byte) : Byte :=
  let a2 := aesMul a a
  let a3 := aesMul a2 a
  let a6 := aesMul a3 a3
  let a12 := aesMul a6 a6
  let a15 := aesMul a12 a3
  let a30 := aesMul a15 a15
  let a60 := aesMul a30 a30
  let a63 := aesMul a60 a3
  let a126 := aesMul a63 a63
  let a127 := aesMul a126 a
  aesMul a127 a127

/-- The S-box. -/
def aesSub (a : Byte) : Byte :=
  let b := aesInv a
  b ^^^ b.rotateLeft 1 ^^^ b.rotateLeft 2 ^^^ b.rotateLeft 3 ^^^ b.rotateLeft 4 ^^^ 0x63#8

/-- The inverse S-box. -/
def aesInvSub (a : Byte) : Byte :=
  aesInv (a.rotateLeft 1 ^^^ a.rotateLeft 3 ^^^ a.rotateLeft 6 ^^^ 0x05#8)

/-- Exclusive or of two byte strings. -/
def xorBytes (a b : Bytes) : Bytes := List.zipWith (· ^^^ ·) a b

/-- Further words of the key schedule, of eight words in hand: words to make, index of the next, round constant. -/
def aesSchedule : Nat → Nat → Byte → List Bytes → List Bytes
  | 0, _, _, _ => []
  | n + 1, i, rc, win =>
    let last := win.getD 7 []
    let t := if i % 8 = 0 then xorBytes ((last.drop 1 ++ last.take 1).map aesSub) [rc, 0, 0, 0]
      else if i % 8 = 4 then last.map aesSub else last
    let w := xorBytes (win.getD 0 []) t
    w :: aesSchedule n (i + 1) (if i % 8 = 0 then aesX rc else rc) (win.drop 1 ++ [w])

/-- The sixty words of the key schedule of a 32-byte key. -/
def aesKeyWords (key : Bytes) : List Bytes :=
  let first := (List.range 8).map fun i => slice key (4 * i) 4
  first ++ aesSchedule 52 8 0x01#8 first

/-- The round key of a round. -/
def aesRoundKey (ws : List Bytes) (r : Nat) : Bytes := ((ws.drop (4 * r)).take 4).flatten

/-- The inverse row shift followed by the inverse S-box; bytes stand column by column. -/
def aesUnshift (s : Bytes) : Bytes :=
  (List.range 16).map fun i => aesInvSub (s.getD (4 * ((i / 4 + 4 - i % 4) % 4) + i % 4) 0)

/-- The inverse column mix of one column. -/
def aesUnmixColumn (c : Bytes) : Bytes :=
  (List.range 4).map fun r =>
    aesMul (c.getD r 0) 0x0E#8 ^^^ aesMul (c.getD ((r + 1) % 4) 0) 0x0B#8 ^^^
      aesMul (c.getD ((r + 2) % 4) 0) 0x0D#8 ^^^ aesMul (c.getD ((r + 3) % 4) 0) 0x09#8

/-- The inverse column mix. -/
def aesUnmix (s : Bytes) : Bytes := (List.range 4).flatMap fun c => aesUnmixColumn (slice s (4 * c) 4)

/-- The rounds from the given one down to 1, then round 0. -/
def aesUnrounds (ws : List Bytes) : Nat → Bytes → Bytes
  | 0, s => xorBytes (aesUnshift s) (aesRoundKey ws 0)
  | r + 1, s => aesUnrounds ws r (aesUnmix (xorBytes (aesUnshift s) (aesRoundKey ws (r + 1))))

/-- The inverse cipher on one 16-byte block. -/
def aesDecrypt (ws : List Bytes) (blk : Bytes) : Bytes := aesUnrounds ws 13 (xorBytes blk (aesRoundKey ws 14))

/-! ## AES key unwrap (RFC 3394 section 2.2.2, index form) -/

/-- The steps t down to 1 over n registers of eight bytes: the integrity register and the registers left. -/
def unwrapSteps (ws : List Bytes) (n : Nat) : Nat → Bytes × List Bytes → Bytes × List Bytes
  | 0, ar => ar
  | t + 1, ar =>
    let i := t % n
    let b := aesDecrypt ws (xorBytes ar.1 (leBytes 8 (t + 1)).reverse ++ ar.2.getD i [])
    unwrapSteps ws n t (b.take 8, ar.2.set i (b.drop 8))

/-- AES key unwrap: key-encryption key, wrapped key; none when its integrity check fails (PRESUMED: log entry 6). -/
def aesUnwrap (kek wrapped : Bytes) : Option Bytes :=
  let n := wrapped.length / 8 - 1
  if kek.length ≠ 32 ∨ wrapped.length % 8 ≠ 0 ∨ n < 2 then none
  else
    let regs := (List.range n).map fun i => slice wrapped (8 * (i + 1)) 8
    let r := unwrapSteps (aesKeyWords kek) n (6 * n) (wrapped.take 8, regs)
    if r.1 = List.replicate 8 0xA6#8 then some r.2.flatten else none

end Sys2Proof.Machine
end

