-- ==== Sys2Proof/Machine/Twill.lean ====
section
/-!
DEFINITION. The slice catalogue of resident firmware edition 2 (01 R523) and where a slice runs (01 R21, R22).
-/

namespace Sys2Proof.Machine

/-- The 22 slices (01 R523); `wcet` is the catalogue's figure, the most an entry may carry. -/
def catalogue : List TwilEntry :=
  [⟨0x0101, 0, 0, 0x00001, 180, 1, 0, 0, 0x02⟩, ⟨0x0102, 0, 1, 0x00001, 220, 1, 0, 0, 0x02⟩,
   ⟨0x0103, 0, 0, 0x00002, 260, 1, 0, 0, 0x02⟩, ⟨0x0104, 0, 0, 0x00004, 240, 1, 0, 0, 0x02⟩,
   ⟨0x0105, 0, 0, 0x00008, 120, 1, 0, 0, 0x00⟩, ⟨0x0106, 0, 0, 0x00080, 200, 1, 0, 0, 0x02⟩,
   ⟨0x0107, 0, 0, 0x00100, 600, 50, 0, 0, 0x00⟩, ⟨0x0111, 1, 0, 0x00001, 120, 1, 0, 50, 0x01⟩] ++
  [⟨0x0112, 1, 0, 0x00008, 350, 1, 0, 0, 0x00⟩, ⟨0x0113, 1, 0, 0x00010, 20, 1, 0, 100, 0x01⟩,
   ⟨0x0114, 1, 0, 0x00020, 300, 1, 0, 0, 0x02⟩, ⟨0x0115, 1, 0, 0x00300, 400, 1, 0, 0, 0x00⟩,
   ⟨0x0116, 1, 0, 0x00400, 200, 1, 0, 100, 0x01⟩, ⟨0x0117, 1, 0, 0x00800, 100, 1, 0, 0, 0x02⟩,
   ⟨0x0118, 1, 0, 0x01000, 300, 50, 49, 0, 0x00⟩, ⟨0x0119, 1, 0, 0x06000, 500, 50, 49, 0, 0x02⟩] ++
  [⟨0x011A, 1, 0, 0x08000, 200, 1, 0, 100, 0x01⟩, ⟨0x0121, 2, 0, 0xFFFFF, 450, 1, 0, 0, 0x02⟩,
   ⟨0x0122, 2, 1, 0x00100, 300, 1, 0, 0, 0x00⟩, ⟨0x0123, 2, 1, 0x00200, 400, 50, 0, 0, 0x00⟩,
   ⟨0x0131, 3, 0, 0xFFFFF, 350, 1, 0, 0, 0x00⟩, ⟨0x0132, 3, 1, 0xFFFFF, 150, 1, 0, 0, 0x02⟩]

/-- Whether an entry runs in a frame slot at a motion index (01 R21). -/
def TwilEntry.runsAt (e : TwilEntry) (slot motion : Nat) : Bool := e.frameMask.testBit slot && motion % e.period == e.phase

/-- Slices scheduled in a frame, in the order of the catalogue. -/
def scheduled (slot motion : Nat) : List Nat := (catalogue.filter fun e => e.runsAt slot motion).map (·.sliceId)

/-- An entry of a TWIL record is the catalogue's, with its own wcet of at most the catalogue's figure (01 R22 rule 6). -/
def TwilEntry.fits (e row : TwilEntry) : Bool := decide ({ e with wcet := row.wcet } = row) && decide (e.wcet ≤ row.wcet)

/-- The rules of 01 R22 on a TWIL record: each slice of the catalogue in exactly one entry and no other. Every other field is
fixed by the catalogue, whose figures keep rules 1 to 5. -/
def twilRules (es : List TwilEntry) : Bool :=
  es.length == catalogue.length && catalogue.all fun row => (es.filter fun e => e.fits row).length == 1

end Sys2Proof.Machine
end

