-- ==== Sys2Proof/Machine/Loader.lean ====
section
/-!
DEFINITION. The loader: what a bank must hold to be valid (03 R83 to R91, R94), in the order of R94, with its reasons.
-/

namespace Sys2Proof.Machine

/-! ## The record catalogue (03 R89) -/

/-- A row of the catalogue. -/
structure RecordRow where
  tag : String
  fixed : Nat
  size : Nat
  most : Nat
  needed : Bool
  ok : Check

def recordRows : List RecordRow :=
  [⟨"TWIL", 0, 16, 256, true, twilOk⟩, ⟨"VMOD", 512, 0, 0, true, vmodOk⟩, ⟨"THRU", 0, 128, 24, true, thruOk⟩,
   ⟨"AXIS", 0, 64, 72, true, axesOk⟩, ⟨"LPMC", 0, 200, 72, true, lpmcOk⟩, ⟨"ALOC", 64, 32, 6, true, alocOk⟩,
   ⟨"FBCH", 0, 48, 24, true, fbchOk⟩, ⟨"REFS", 0, 96, 26, true, refsOk⟩, ⟨"GNSS", 128, 32, 4, true, gnssOk⟩,
   ⟨"CANB", 0, 272, 4, true, canbOk⟩, ⟨"CANP", 32, 64, 128, true, canpOk⟩, ⟨"SAFE", 64, 16, 24, true, safeOk⟩] ++
  [⟨"ANIN", 0, 64, 16, false, aninOk⟩, ⟨"ANOU", 0, 32, 16, false, anouOk⟩, ⟨"SERP", 0, 32, 12, false, serpOk⟩,
   ⟨"NETW", 256, 0, 0, true, netwOk⟩, ⟨"TIME", 64, 0, 0, true, timeOk⟩, ⟨"MODE", 64, 32, 9, true, modeOk⟩,
   ⟨"GAIN", 0, 256, 4, true, gainOk⟩, ⟨"FGRP", 0, 16, 40, false, fgrpOk⟩, ⟨"ROLE", 16, 16, 16, true, roleOk⟩,
   ⟨"LARD", 32, 16, 64, false, lardOk⟩, ⟨"CANV", 64, 0, 0, false, canvOk⟩]

def rowOf (tag : Bytes) : Option RecordRow := recordRows.find? fun r => ascii r.tag == tag

/-! ## Layout (03 R83 to R87; checks 2 to 6) -/

/-- The header of an image. -/
def headerOf (b : Bytes) : ImageHeader :=
  ⟨fieldN b 8 4, fieldN b 0x0C 4, slice b 0x10 16, fieldN b 0x20 8, fieldN b 0x28 1, fieldN b 0x29 1, fieldN b 0x2A 2, fieldN b 0x30 4⟩

/-- Check 2. -/
def headerOk (b : Bytes) : Bool :=
  slice b 0 4 == ascii "AQCL" && crc32c (slice b 0 0x3C) == fieldN b 0x3C 4 && fieldN b 6 2 == 0x40 && fieldN b 0x2C 4 == 0x40 &&
  decide (17 ≤ fieldN b 0x2A 2) && decide (fieldN b 0x2A 2 ≤ 23) && decide (fieldN b 0x20 8 < 2 ^ 48)

/-- A directory entry. -/
structure DirEntry where
  tag : Bytes
  offset : Nat
  length : Nat
  version : Nat
  deriving DecidableEq, Repr, Inhabited

def directoryOf (b : Bytes) : List DirEntry :=
  (List.range (fieldN b 0x2A 2)).map fun n =>
    let e := slice b (0x40 + 16 * n) 16
    ⟨slice e 0 4, fieldN e 4 4, fieldN e 8 4, fieldN e 12 2⟩

/-- The next multiple of 8. -/
def align8 (n : Nat) : Nat := (n + 7) / 8 * 8

/-- Check 6 along the directory: each record begins where the one before ended, padding is 0; where the trailer begins. -/
def layoutTail (b : Bytes) : Nat → List DirEntry → Option Nat
  | pos, [] => some pos
  | pos, e :: rest =>
    let stop := e.offset + e.length
    if e.offset = pos ∧ 16 ≤ e.length ∧ stop ≤ b.length ∧ slice b e.offset 4 = e.tag ∧
        (slice b stop (align8 stop - stop)).all (· == 0#8) = true then layoutTail b (align8 stop) rest
    else none

/-- Check 6; where the trailer begins. -/
def layoutOk (b : Bytes) : Option Nat :=
  let dir := directoryOf b
  let first := align8 (0x40 + 16 * dir.length)
  match layoutTail b first dir with
  | some pos =>
    if pos + 104 = b.length ∧ slice b pos 4 = ascii "AQSG" ∧ (dir.map (·.tag)).eraseDups.length = dir.length then some pos else none
  | none => none

/-- The bytes of a record, and its payload. -/
def DirEntry.bytes (e : DirEntry) (b : Bytes) : Bytes := slice b e.offset e.length
def DirEntry.payload (e : DirEntry) (b : Bytes) : Bytes := slice b (e.offset + 12) (e.length - 16)

/-- Check 7: tag known, versions 1 and equal. -/
def versionsOk (b : Bytes) (e : DirEntry) : Bool :=
  let r := e.bytes b
  (rowOf e.tag).isSome && e.version == 1 && fieldN r 8 2 == 1 && fieldN r 12 1 == 1

/-- Check 9: CRC and payload length. -/
def framingOk (b : Bytes) (e : DirEntry) : Bool :=
  let r := e.bytes b
  let n := fieldN r 4 4
  crcOk r && n + 16 == e.length && decide (8 ≤ n) &&
  (match rowOf e.tag with | some row => n == 8 + row.fixed + fieldN (e.payload b) 2 2 * row.size | none => false)

/-! ## The image a bank holds -/

/-- Payload of a record; none where it is absent. -/
def payloadOf (b : Bytes) (dir : List DirEntry) (tag : String) : Option Bytes :=
  (dir.find? fun e => e.tag == ascii tag).map fun e => e.payload b

/-- Payload of a required record. -/
def payloadReq (b : Bytes) (dir : List DirEntry) (tag : String) : Bytes := (payloadOf b dir tag).getD []

/-- The records of an image as the lane runs them. -/
def imageOf (b : Bytes) (pos : Nat) : Image :=
  let dir := directoryOf b
  let req := payloadReq b dir
  let opt := payloadOf b dir
  { header := headerOf b, twil := twilRec (req "TWIL"), vmod := vmodRec (req "VMOD"), thru := thruRec (req "THRU"),
    axes := axesRec (req "AXIS"), lpmc := lpmcRec (req "LPMC"), aloc := alocRec (req "ALOC"), fbch := fbchRec (req "FBCH"),
    refs := refsRec (req "REFS"), gnss := gnssRec (req "GNSS"), canb := canbRec (req "CANB"), canp := canpRec (req "CANP"),
    safe := safeRec (req "SAFE"), anin := ((opt "ANIN").map aninRec).getD [], anou := ((opt "ANOU").map anouRec).getD [],
    serp := ((opt "SERP").map serpRec).getD [], netw := netwRec (req "NETW"), time := timeRec (req "TIME"), mode := modeRec (req "MODE"),
    gain := gainRec (req "GAIN"), fgrp := (opt "FGRP").map fgrpRec, role := roleRec (req "ROLE"), lard := (opt "LARD").map lardRec,
    canv := ((opt "CANV").map canvRec).getD CanvRec.standard, hash := slice b (pos + 8) 32 }

/-! ## Capacities (03 R90; 00 R2; check 12) -/

def Image.capacityOk (i : Image) (v : Variant) : Bool :=
  let fitted := v.channels
  let kind := fun n => (i.refs.filter fun r => r.kind == n).length
  decide ((i.thru.filter fun t => decide (t.kind ≤ 3)).length ≤ 16) && decide ((i.thru.filter fun t => decide (4 ≤ t.kind)).length ≤ 8) &&
  decide (kind 1 ≤ 12) && decide (kind 2 ≤ 6) && decide (kind 3 ≤ 4) && decide (kind 4 ≤ 4) &&
  i.canb.all (fun c => decide (c.filterCount ≤ 32)) && i.lpmc.all (fun p => decide (p.opCount ≤ 24)) &&
  decide (i.fbch.length ≤ fitted) &&
  i.fbch.all (fun f => decide (f.channel < fitted) && (decide (v = .x) || decide (f.mode < 6))) &&
  i.axes.all (fun a => decide (a.channel < fitted) || decide (0x80 ≤ a.channel)) &&
  (match i.lard with | some l => decide (l.selected true ≤ 44) && decide (l.selected false ≤ 80) | none => true)

/-! ## Rules between records (check 13) -/

def Image.thru? (i : Image) (n : Nat) : Option Thru := i.thru.find? fun t => t.actuator == n
def Image.axis? (i : Image) (n : Nat) : Option AxisRec := i.axes.find? fun a => a.axis == n
def Image.bus? (i : Image) (n : Nat) : Option Canb := i.canb.find? fun c => c.bus == n

/-- Axes, actuators, channels, outputs and status fields (09 R289, R290; 10 R309, R321; 11 R351; 14 R423). -/
def Image.axesResolve (i : Image) : Bool :=
  let used := fun (f : AxisRec → Nat) => (i.axes.map f).filter (· != 0xFF)
  (i.axes.all fun a => i.lpmc.any fun p => p.axis == a.axis) && (i.lpmc.all fun p => (i.axis? p.axis).isSome) &&
  distinct (used (·.analogOut)) && distinct (used (·.canField)) &&
  (i.axes.all fun a =>
    (i.thru? a.actuator).isSome && (a.link == 0xFF || (i.axis? a.link).isSome) &&
    (if a.channel < 0x80 then i.fbch.any fun f => f.channel == a.channel
     else if a.channel = 0xFF then true
     else if i.canp.profile = 1 then (i.thru? ((a.channel - 0x80) / 3)).isSome && decide (a.channel - 0x80 < 63)
     else i.canp.frames.any fun f => f.direction == 2 && f.fields.any fun x => x.kind == 2 && x.index == a.channel - 0x80) &&
    (a.analogOut == 0xFF || i.anou.any fun o => o.output == a.analogOut && o.source == 1) &&
    (a.canField == 0xFF || i.canp.profile == 1 ||
      i.canp.frames.any fun f => f.direction == 1 && f.fields.any fun x => x.kind == 1 && x.index == a.canField)) &&
  (i.anou.all fun o => o.source == 2 || i.axes.any fun a => a.analogOut == o.output) &&
  i.thru.all fun t =>
    (t.axisAngle == 0xFF || (match i.axis? t.axisAngle with
      | some a => a.actuator == t.actuator && a.role == (if t.kind = 1 then 1 else 4) | none => false)) &&
    (t.axisThrust == 0xFF || (match i.axis? t.axisThrust with
      | some a => a.actuator == t.actuator && ((t.thrustModel == 0 && a.role == 2) || (t.thrustModel == 1 && a.role == 3)) | none => false)) &&
    (decide (t.kind < 4) || (match i.thru? t.coupledTo with | some u => decide (u.kind ≤ 3) | none => false)) &&
    (t.powerGroup == 0xFF || i.aloc.groups.any fun g => g.group == t.powerGroup) &&
    (i.canp.profile != 1 || (match i.bus? t.driveBus with | some c => c.flags.testBit 0 && c.flags.testBit 1 | none => false))

/-- Inputs and references (05 R159, R169; 06 R173, R176; 08 R260; 09 R290; 14 R427). -/
def Image.inputsResolve (i : Image) : Bool :=
  let anin := fun n => i.anin.any fun a => a.channel == n
  let port := fun n fr => i.serp.any fun p => p.port == n && p.framing == fr
  let stream := fun n k => (nth default i.netw.streams n).kind == k
  (i.refs.all fun r =>
    if r.source ≤ 11 then port r.source (if 0x10 ≤ r.format then 1 else 0)
    else if 0x80 ≤ r.source then stream (r.source - 0x80) 1 else true) &&
  (if i.gnss.rtcmSource = 0xFF then true
   else if i.gnss.rtcmSource ≤ 11 then port i.gnss.rtcmSource 2 else stream (i.gnss.rtcmSource - 0x80) 2) &&
  (i.aloc.groups.all fun g => g.source == 0 || anin g.analogIn) &&
  (i.mode.joystickSource == 0 || i.mode.joystickAi.all anin) &&
  distinct (((i.aloc.groups.map (·.breakerDi)) ++ [i.role.partnerDi]).filter (· != 0xFF)) &&
  (i.mode.gwDo == 0xFF || i.mode.gwDo != i.role.partnerDo) &&
  (i.mode.targetRef == 0xFF || i.refs.any fun r => r.refId == i.mode.targetRef && r.format == 0x11) &&
  (!(i.mode.modes.any fun m => m.mode == 6 && m.enabled == 1) || i.mode.targetRef != 0xFF) &&
  (i.mode.modes.all fun m => m.gainBank == 0xFF || i.gain.any fun b => b.bank == m.gainBank) &&
  ((i.fgrp.getD []).all fun g =>
    (List.range 24).all (fun n => !g.actuators.testBit n || (i.thru? n).isSome) &&
    (List.range 6).all fun n => !g.powerGroups.testBit n || i.aloc.groups.any fun p => p.group == n)

/-! ### Transmit budgets (12 R357, R369, R376, R379) -/

/-- Worst-case time of a frame in ns, every stuff bit and the intermission (ISO 11898-1 formats; log entry 31). -/
def frameNs (c : Canb) (fd brs ext : Bool) (length : Nat) : Nat :=
  let nom := 25 * c.nomBrp * (1 + c.nomTseg1 + c.nomTseg2)
  let dat := if brs && c.flags.testBit 2 then 25 * c.dataBrp * (1 + c.dataTseg1 + c.dataTseg2) else nom
  if fd then
    let arb := if ext then 36 else 17
    let k := 5 + 8 * length
    let crc := 4 + (if length ≤ 16 then 17 else 21)
    (arb + (arb - 1) / 4 + 13) * nom + (k + (k + 3) / 4 + crc + (crc + 3) / 4) * dat
  else
    let bits := (if ext then 54 else 34) + 8 * length
    (bits + (bits - 1) / 4 + 13) * nom

/-- Transmit entries on a bus: frame mask and time. -/
def Image.transmits (i : Image) (c : Canb) : List (Nat × Nat) :=
  if i.canp.profile = 1 then
    (i.thru.filter fun t => t.driveBus == c.bus).map fun _ => (2 ^ i.canp.commandSlot, frameNs c true true false 16)
  else (i.canp.frames.filter fun f => f.direction == 1 && f.bus == c.bus).map fun f =>
    (f.frameMask, frameNs c (f.flags.testBit 1) (f.flags.testBit 2) (f.flags.testBit 0) f.length)

/-- Frames of consecutive slots within the budget B(k) = d - F(d) for every k from 2 to 40 (12 R369). -/
def budgetFrom (k total : Nat) : List Nat → Bool
  | [] => true
  | cost :: rest =>
    let t := total + cost
    let d := k * 1000000 - 118000
    (decide (k < 2) || decide (t + 1000000 * (d / 2000000) + min (d % 2000000) 1000000 ≤ d)) && budgetFrom (k + 1) t rest

/-- One bus: at most 32 frames in a slot, and the budgets of the ordinary lists and of those after a takeover (12 R376)
(DEDUCED: log entry 31). -/
def Image.busBudget (i : Image) (c : Canb) : Bool :=
  let tx := i.transmits c
  let mark := if i.canp.laneMarks = 1 then frameNs c (c.flags.testBit 1) true (i.canp.laneMarkId.testBit 29) 8 else 0
  let slotCost := fun s => mark + sumN ((tx.filter fun e => e.1.testBit (s % 20)).map (·.2))
  let all := mark + sumN (tx.map (·.2))
  (List.range 20).all fun j =>
    decide ((tx.filter fun e => e.1.testBit j).length ≤ 32) &&
    budgetFrom 1 0 ((List.range 40).map fun n => slotCost (j + n)) &&
    budgetFrom 1 0 (all :: mark :: mark :: (List.range 37).map fun n => slotCost (j + 3 + n)) &&
    budgetFrom 1 0 (mark :: mark :: (List.range 38).map fun n => slotCost (j + n)) &&
    budgetFrom 1 0 (mark :: (List.range 39).map fun n => slotCost (j + n))

/-- Frames and buses (12 R370, R377, R379). -/
def Image.busesOk (i : Image) : Bool :=
  i.canp.frames.all (fun f =>
    match i.bus? f.bus with
    | some c => (!f.flags.testBit 1 || c.flags.testBit 1)
    | none => false) && i.canb.all i.busBudget

/-- Check 13: the rules of TWIL, references between records, ranges (DEDUCED: log entry 55). -/
def rulesOk (b : Bytes) (dir : List DirEntry) (i : Image) : Bool :=
  dir.all (fun e => match rowOf e.tag with | some row => row.ok (e.payload b) && zero 10 2 (e.bytes b) | none => false) &&
  (List.range dir.length).all (fun n => zero (0x40 + 16 * n + 14) 2 b) && zero 0x34 8 b &&
  twilRules i.twil && i.axesResolve && i.inputsResolve && i.busesOk

/-! ## A bank (03 R94) -/

/-- The outcome of a check: the reason, 0 where the bank is valid; the image hash as far as it is known; the image. -/
structure BankCheck where
  reason : Nat
  hash : Bytes
  image : Option Image
  deriving DecidableEq, Repr, Inhabited

def BankCheck.bad (reason : Nat) : BankCheck := ⟨reason, zeros 32, none⟩

/-- Checks 6 to 13, on the bytes of the image (DEDUCED: log entry 55). -/
def checkImage (v : Variant) (signers : List SignerKey) (b : Bytes) : BankCheck :=
  match layoutOk b with
  | none => .bad 0x06
  | some pos =>
    let dir := directoryOf b
    let hash := slice b (pos + 8) 32
    let i := imageOf b pos
    let bad := fun r => (⟨r, hash, none⟩ : BankCheck)
    if dir.all (versionsOk b) = false then bad 0x07
    else if (recordRows.all fun r => !r.needed || dir.any fun e => e.tag == ascii r.tag) = false then bad 0x08
    else if dir.all (framingOk b) = false then bad 0x09
    else if sha256 (b.take pos) ≠ hash then bad 0x0A
    else
      match signers.find? fun s => s.keyId == fieldN b (pos + 4) 4 with
      | none => bad 0x0C
      | some s =>
        if ed25519Verify s.key (slice b pos 40) (slice b (pos + 40) 64) = false then bad 0x0C
        else if (dir.all fun e => match rowOf e.tag with | some r => decide (fieldN (e.payload b) 2 2 ≤ r.most) | none => false) = false then
          bad 0x0B
        else if i.capacityOk v = false then bad 0x0B
        else if rulesOk b dir i = false then bad 0x0D
        else ⟨0, hash, some i⟩

/-- Checks 2 to 13, with what reads the bank. -/
def checkBank (v : Variant) (signers : List SignerKey) (read : Nat → Nat → Bytes) : BankCheck :=
  let h := read 0 64
  let n := fieldN h 8 4
  if headerOk h = false then .bad 0x02
  else if fieldN h 4 2 ≠ 1 ∨ fieldN h 0x29 1 ≠ 2 then .bad 0x03
  else if n < 2936 ∨ 16777216 < n then .bad 0x04
  else if fieldN h 0x28 1 ≠ (if v = .s then 0 else 1) then .bad 0x05
  else checkImage v signers (read 0 n)

end Sys2Proof.Machine
end

