-- ==== Sys2Proof/Machine/Cellar.lean ====
section
/-!
DEFINITION. The cellar side of a lane: bank choice at start, protection, the write transaction, the key store (03 R80, R95
to R103, R106, R107).
-/

namespace Sys2Proof.Machine

/-! ## Banks -/

def CellarState.bank (c : CellarState) (n : Nat) : BankState := if n = 0 then c.bank0 else c.bank1
def CellarState.setBank (c : CellarState) (n : Nat) (b : BankState) : CellarState :=
  if n = 0 then { c with bank0 := b } else { c with bank1 := b }

/-- What a check records of a bank (03 R102). -/
def BankCheck.state (b : BankCheck) : BankState := ⟨if b.reason = 0 then 0 else 1, b.reason, b.hash⟩

/-- A bank may not be written: it runs, or it is selected and was valid when last checked (03 R97). -/
def CellarState.protected (c : CellarState) (bank : Nat) : Bool :=
  c.running == bank || (c.selected == bank && (c.bank bank).state == 0)

/-- A bank checked on a key. -/
def Key.check (k : Key) (v : Variant) (signers : List SignerKey) (bank : Nat) : BankCheck :=
  checkBank v signers fun off n => k.read (bankBase bank + off) n

/-- The check of the key at a start (03 R82, R94, R95): the lane's cellar after it, the image it runs, the codes and, where
nothing runs, the cause. A bank whose write a restart aborted keeps its reason until it is checked (03 R99). -/
def CellarState.start (c : CellarState) (k : Option Key) (v : Variant) (signers : List SignerKey) :
    CellarState × Option Image × List AlarmOp × Nat :=
  match k with
  | some key =>
    if key.readable then
      let f := key.select
      let first := key.check v signers f.selected
      let base : CellarState := { c with selected := f.selected, keyPresent := true, generation := f.generation, tie := f.tie,
                                         flipSlot := f.flipSlot, write := none }
      let c1 := base.setBank f.selected first.state
      let tie := AlarmOp.ifOn f.tie ⟨.cl, 2⟩ 0 0
      match first.image with
      | some i => ({ c1 with running := f.selected, runningHash := first.hash }, some i, tie, 0)
      | none =>
        let other := key.check v signers (1 - f.selected)
        let c2 := c1.setBank (1 - f.selected) other.state
        match other.image with
        | some i => ({ c2 with running := 1 - f.selected, runningHash := other.hash }, some i, tie ++ [.raise ⟨.cl, 4⟩ 0 0], 0)
        | none => ({ c2 with running := 0xFF, runningHash := zeros 32 }, none, tie ++ [.raise ⟨.cl, 3⟩ 0 0x0010], 0x0010)
    else (({ CellarState.blank with bank0 := ⟨1, 1, zeros 32⟩, bank1 := ⟨1, 1, zeros 32⟩ } : CellarState), none,
          [.raise ⟨.cl, 1⟩ 0 0x0011], 0x0011)
  | none => (({ CellarState.blank with bank0 := ⟨1, 1, zeros 32⟩, bank1 := ⟨1, 1, zeros 32⟩ } : CellarState), none,
             [.raise ⟨.cl, 1⟩ 0 0x0011], 0x0011)

/-- Codes CL-014 at a start: one for each station whose key the store lacks (03 R107). -/
def missingKeys (i : Image) (a : AtticState) : List AlarmOp :=
  (i.role.stations.filter fun t => !(a.sessionKeys.any fun k => k.keyId == t.keyId)).map fun t => .raise ⟨.cl, 14⟩ t.station 0

/-! ## The write transaction (03 R97 to R100) -/

/-- The transaction ends without a valid bank (03 R99, R100). -/
def LaneState.abortWrite (x : LaneState) (reason : Nat) : LaneState :=
  match x.cellar.write with
  | some w =>
    let c : CellarState := { x.cellar with write := none }
    ({ x with cellar := c.setBank w.bank ⟨1, reason, zeros 32⟩ } : LaneState).raise ⟨.cl, 13⟩ w.bank reason
  | none => x

/-- The session that owns the transaction while chunks may arrive. -/
def LaneState.ownsWrite (x : LaneState) (session : Nat) : Bool :=
  match x.cellar.write with
  | some w => w.owner == session && !w.closing
  | none => false

/-- Session a message names. -/
def Msg.session (m : Msg) : Nat := match parseDatagram m.bytes with | some d => d.session | none => 0

/-- Key commands need a key (03 R80, R101). -/
def LaneState.needKey (x : LaneState) (rest : Option (Nat × Nat)) : Option (Nat × Nat) :=
  if x.cellar.keyPresent then rest else some (stNoKey, 0)

/-- Refusal of an open (03 R97, R98): BUSY comes before IN_USE (DEDUCED: log entry 56). -/
def LaneState.openRefused (x : LaneState) (bank length : Nat) (expected : Bytes) : Option (Nat × Nat) :=
  x.needKey (
    if x.cellar.write.isSome then some (stBusy, 0)
    else if 1 < bank ∨ length = 0 ∨ 16777216 < length ∨ expected.length ≠ 32 then some (stMalformed, 0)
    else if x.cellar.protected bank then some (stInUse, 0) else none)

/-- Refusal of a chunk (03 R98) (DEDUCED: log entry 56). -/
def LaneState.chunkRefused (x : LaneState) (session off : Nat) (data : Bytes) : Option (Nat × Nat) :=
  x.needKey (
    if !x.ownsWrite session then some (stNoWrite, 0)
    else match x.cellar.write with
      | some w =>
        if off ≠ w.next then some (stOrder, 0)
        else if data.isEmpty ∨ 1024 < data.length ∨ w.length < w.next + data.length then some (stMalformed, 0) else none
      | none => some (stNoWrite, 0))

/-- Refusal of a close or an abort (03 R98, R101) (DEDUCED: log entry 56). -/
def LaneState.ownerRefused (x : LaneState) (session : Nat) : Option (Nat × Nat) :=
  x.needKey (if x.ownsWrite session then none else some (stNoWrite, 0))

/-- Refusal of a flip (03 R98, R102). -/
def LaneState.flipRefused (x : LaneState) (bank : Nat) : Option (Nat × Nat) :=
  x.needKey (
    if x.cellar.write.isSome then some (stBusy, 0)
    else if 1 < bank then some (stMalformed, 0)
    else if bank = x.cellar.selected then none
    else if (x.cellar.bank bank).state ≠ 0 then some (stInvalidBank, 0) else none)

/-- The verification ends (03 R100): the bank's outcome, with the expected hash compared. -/
def LaneState.verify (x : LaneState) (key : Option Key) (v : Variant) (w : KeyWrite) : BankCheck :=
  match key with
  | some k =>
    if k.readable && x.cellar.keyPresent then
      let r := k.check v x.attic.signerKeys w.bank
      if r.reason = 0 ∧ r.hash ≠ w.expected then ⟨0x0A, r.hash, none⟩ else r
    else .bad 0x01
  | none => .bad 0x01

/-- The answer to the close, where the session is still there (DEDUCED: log entry 56). -/
def LaneState.answerClose (x : LaneState) (w : KeyWrite) (status reason : Nat) : LaneState :=
  match x.ses.find w.owner with
  | some s => { x with ses := x.ses.answer s 0x12 w.closeSeq [⟨status, reason, 0x1312, []⟩] [] }
  | none => x

/-- CELLAR_VERIFY_COMPLETE on a lane (03 R100, R101, R111) (DEDUCED: log entry 56). -/
def LaneState.verified (x : LaneState) (key : Option Key) (v : Variant) : LaneState :=
  match x.cellar.write with
  | some w =>
    if !w.closing then x
    else
      let r := x.verify key v w
      if r.reason ≠ 0 then (x.abortWrite r.reason).answerClose w stVerify r.reason
      else
        let old := (x.cellar.bank w.bank).hash.take 16
        let owner := match x.ses.find w.owner with | some s => s.keyId | none => 0
        let q := x.record 2 2 0x1312 owner old (r.hash.take 16)
        let c : CellarState := { q.1.cellar with write := none }
        let y : LaneState := { q.1 with cellar := c.setBank w.bank (if q.2 then r.state else ⟨3, 0, zeros 32⟩) }
        y.answerClose w (if q.2 then 0 else stLedger) 0
  | none => x

/-! ## The key store (03 R107) -/

/-- The session key a message's session signs with. -/
def LaneState.storeKeyOf (x : LaneState) (m : Msg) : Option Bytes :=
  (x.ses.find m.session).bind fun s => (x.attic.sessionKeys.find? fun k => k.keyId == s.keyId).map (·.key)

/-- The key a key store command delivers: a session key unwrapped under the installer's key (03 R107). -/
def LaneState.delivered (x : LaneState) (m : Msg) (signer : Bool) (key : Bytes) : Option Bytes :=
  if signer then some key else (x.storeKeyOf m).bind fun k => aesUnwrap k key

/-- Refusal of an addition; a key ID already there is replaced and takes no further place (DEDUCED: log entry 57). -/
def LaneState.addRefused (x : LaneState) (m : Msg) (signer : Bool) (keyId kind : Nat) (key : Bytes) : Option (Nat × Nat) :=
  let full := if signer then decide (8 ≤ (x.attic.signerKeys.filter fun k => k.keyId != keyId).length)
    else decide (16 ≤ (x.attic.sessionKeys.filter fun k => k.keyId != keyId).length)
  match x.delivered m signer key with
  | some k =>
    if k.length ≠ 32 ∨ keyId = 0 ∨ 0xFFFFFFFF ≤ keyId ∨ (signer = false ∧ ¬(kind = 1 ∨ kind = 2)) then some (stMalformed, 0)
    else if full then some (stFull, 0) else none
  | none => some (stMalformed, 0)

/-- A key enters the store (DEDUCED: log entry 57). -/
def AtticState.addKey (a : AtticState) (signer : Bool) (keyId kind : Nat) (key : Bytes) : AtticState :=
  if signer then { a with signerKeys := (a.signerKeys.filter fun k => k.keyId != keyId) ++ [⟨keyId, key⟩] }
  else { a with sessionKeys := (a.sessionKeys.filter fun k => k.keyId != keyId) ++ [⟨keyId, kind, key⟩] }

/-- A key leaves the store. -/
def AtticState.removeKey (a : AtticState) (signer : Bool) (keyId : Nat) : AtticState :=
  if signer then { a with signerKeys := a.signerKeys.filter fun k => k.keyId != keyId }
  else { a with sessionKeys := a.sessionKeys.filter fun k => k.keyId != keyId }

/-- Refusal of a removal: the last installer key, the last signer key, or a key the store lacks (DEDUCED: log entry 57). -/
def LaneState.removeRefused (x : LaneState) (signer : Bool) (keyId : Nat) : Option (Nat × Nat) :=
  let a := x.attic.removeKey signer keyId
  if signer then
    if !(x.attic.signerKeys.any fun k => k.keyId == keyId) then some (stRefused, 0)
    else if a.signerKeys.isEmpty then some (stLastKey, 0) else none
  else
    if !(x.attic.sessionKeys.any fun k => k.keyId == keyId) then some (stRefused, 0)
    else if (x.attic.sessionKeys.any fun k => k.kind == 2) && !(a.sessionKeys.any fun k => k.kind == 2) then some (stLastKey, 0) else none

end Sys2Proof.Machine
end

