-- ==== Sys2Proof/Machine/Ptp.lean ====
section
/-!
DEFINITION. The PTP ordinary clock of a lane (15 R443, R444).
-/

namespace Sys2Proof.Machine

/-! ## Foreign masters (15 R444) -/

/-- What the best master clock algorithm compares of a master. -/
def ForeignMaster.data (m : ForeignMaster) : List Nat := [m.identity, m.lan, m.clockClass, m.priority1, m.priority2]

/-- The data of the lane's own clock, a candidate where it may be master. -/
def ownData (t : TimeRec) : List (List Nat) := if t.ptpRole = 1 then [[0, 2, 0, t.priority1, t.priority2]] else []

/-- Index the algorithm selects among candidates; the only candidate where there is one (DESIGN CHOICE: log entry 14). -/
def bmca (cs : List (List Nat)) : Nat := if cs.length ≤ 1 then 0 else Config.bestMaster cs % cs.length

/-- The best master is selected; its change starts the Sync run again (DESIGN CHOICE: log entry 14). -/
def PtpState.select (t : TimeRec) (p : PtpState) : PtpState :=
  let k := bmca (p.masters.map (·.data) ++ ownData t)
  let ms := p.masters.mapIdx fun n m => { m with selected := n == k }
  let now := (ms.find? (·.selected)).map (·.identity)
  let p : PtpState := { p with masters := ms, isMaster := t.ptpRole == 1 && decide (p.masters.length ≤ k) }
  if now = p.syncFrom then p else { p with syncFrom := now, haveDelay := false, syncIngress := none }

/-- An Announce: an entry is refreshed or added; a ninth master is ignored. -/
def PtpState.announce (t : TimeRec) (p : PtpState) (m : ForeignMaster) : PtpState × List AlarmOp :=
  if p.masters.any fun q => q.identity == m.identity && q.lan == m.lan then
    (({ p with masters := p.masters.map fun (q : ForeignMaster) =>
        if q.identity == m.identity && q.lan == m.lan then { m with selected := q.selected } else q } : PtpState).select t, [])
  else if 8 ≤ p.masters.length then (p, [.raise ⟨.tm, 30⟩ 0 0])
  else (({ p with masters := p.masters ++ [m] } : PtpState).select t, [])

/-- Announce time-out in frames: announce_timeout intervals of 2^log_announce seconds. -/
def announceFrames (t : TimeRec) : Nat := t.announceTimeout * 2 ^ t.logAnnounce.toNat * 1000

/-- An entry ages out. -/
def PtpState.ageOut (t : TimeRec) (identity : Nat) (p : PtpState) : PtpState × List AlarmOp :=
  let stay := p.masters.filter fun m => !(m.identity == identity && decide (announceFrames t ≤ m.age))
  if stay.length = p.masters.length then (p, [])
  else (({ p with masters := stay } : PtpState).select t, [.clear ⟨.tm, 30⟩ 0])

/-! ## Event messages (15 R443) -/

/-- An offset from the master, from the difference ingress less origin in ns. -/
def PtpState.takeSync (p : PtpState) (diff : Int) : PtpState := { p with offset := diff - p.delay }

/-- A measured path delay; the offset follows it (DEDUCED: log entry 83). -/
def PtpState.takeDelay (p : PtpState) (delay : Int) : PtpState :=
  { p with offset := p.offset + p.delay - delay, delay := delay, haveDelay := true,
           delayVar := if p.haveDelay then (delay - p.delay).natAbs / 2 else 0 }

/-- Whether a message comes from the selected master. -/
def PtpState.follows (p : PtpState) (identity : Nat) : Bool := p.masters.any fun m => m.selected && m.identity == identity

/-- A count of stamped frames wraps. -/
def OneStep.stamped (o : OneStep) (on : Bool) : OneStep := if on then { o with count := (o.count + 1) % 2 ^ 32 } else o

/-- Time of the last event message the lane sent, ns. -/
def PtpState.sentTotal (p : PtpState) : Nat := p.sentS * 1000000000 + p.sentNs

/-- The model's rendering of a message the lane sends: type, sequence, time, residence (DEDUCED: log entry 83). -/
def ptpBytes (type seq t : Nat) (residence : Int) : Bytes :=
  leBytes 1 type ++ leBytes 2 seq ++ leBytes 6 (t / 1000000000) ++ leBytes 4 (t % 1000000000) ++ leInt 8 residence

/-- An event message leaves with its egress time; without one-step it carries no time. -/
def PtpState.send (p : PtpState) (type : Nat) (stamp : Bool) (t : Nat) : PtpState :=
  let seq := (p.seq + 1) % 65536
  { p with seq := seq, sentS := t / 1000000000, sentNs := t % 1000000000, sent := ptpBytes type seq (if stamp then t else 0) 0 }

/-- A received message at time `now`: whether the ingress unit stamps it, and the clock after (DESIGN CHOICE: log entry 18). -/
def PtpState.receive (t : TimeRec) (lan now : Nat) (m : PtpIn) (p : PtpState) : PtpState × Bool × List AlarmOp :=
  match m with
  | .announce identity c p1 p2 =>
    let r := p.announce t ⟨identity, lan, c, p1, p2, 0, false⟩
    (r.1, false, r.2)
  | .sync identity _ diff => (if p.follows identity then p.takeSync (-diff) else p, true, [])
  | .sync2 identity seq ingress =>
    (if p.follows identity then { p with syncSeq := seq, syncIngress := some ingress } else p, true, [])
  | .followUp identity seq origin =>
    match p.syncIngress with
    | some i => (if p.follows identity && seq == p.syncSeq then { p.takeSync ((i : Int) - origin) with syncIngress := none } else p, false, [])
    | none => (p, false, [])
  | .delayResp identity seq receive =>
    (if p.follows identity && seq == p.seq && t.ptpDelay == 0 then
       p.takeDelay ((p.offset + p.delay + ((receive : Int) - p.sentTotal)) / 2) else p, false, [])
  | .pdelayResp _ seq turn ingress =>
    (if seq == p.seq && t.ptpDelay == 1 then p.takeDelay (((ingress : Int) - p.sentTotal - turn) / 2) else p, true, [])
  | .delayReq _ seq => (if p.isMaster && t.ptpDelay == 0 then { p with sent := ptpBytes 0x9 seq now 0 } else p, true, [])
  | .pdelayReq _ seq => (if t.ptpDelay == 1 then { p with sent := ptpBytes 0x3 seq now (Config.freshRat seq).floor } else p, true, [])
  | .other => ({ p with ignored := satInc 32 p.ignored }, false, [])

end Sys2Proof.Machine
end

