-- ==== Sys2Proof/Machine/CmdTime.lean ====
section
/-!
DEFINITION. Meanings of the commands of 15 that concern module time: clock registers, steps, timestamp units, PTP, time
sources, pulse generators.
-/

namespace Sys2Proof.Machine

def LaneState.withClock (x : LaneState) (f : ClockState → ClockState) : LaneState := { x with clock := f x.clock }

/-! ## Clock registers (15 R439 to R441) -/

/-- INCR_WRITE (15 R439): a write of INCR_FRAC_HI. -/
def execIncrWrite (lane : Lane) (value : Nat) (s : State) : Result := .next (s.onLane lane fun x => x.withClock fun c => c.loadIncr value)

/-- STEP_ARM (15 R440). -/
def execStepArm (lane : Lane) (s : State) : Result :=
  .next (s.onLane lane fun x => x.withClock fun c => { c with stepPending := true })

/-- The module times of references and their measurements moved by a step (15 R440). -/
def RefState.shiftTimes (r : RefState) (mv : Nat → Nat) : RefState :=
  let m := fun (q : Measurement) => { q with arrival := mv q.arrival, time := mv q.time }
  { r with waiting := r.waiting.map m, due := r.due.map m, measTime := mv r.measTime
           history := r.history.map (fun q => (mv q.1, q.2)), innovations := r.innovations.map (fun q => (mv q.1, q.2)) }

/-- The same for all references and the attitudes held for them (15 R440). -/
def RefsState.shiftTimes (r : RefsState) (mv : Nat → Nat) : RefsState :=
  { r with refs := r.refs.map fun q => q.shiftTimes mv
           attitudes := r.attitudes.map fun a => { a with time := mv a.time } }

/-- Module times the firmware holds move with a step (15 R440): the observer's history, measurement times of references and
of the target, time-source measurements under way. -/
def LaneState.shiftTimes (x : LaneState) (d : Int) : LaneState :=
  let mv := stepTime d
  { x with
    frame := { x.frame with cycleNs := mv x.frame.cycleNs }
    refs := x.refs.shiftTimes mv
    obs := { x.obs with history := x.obs.history.map fun h => { h with time := mv h.time } },
    ctrl := { x.ctrl with tracker := { x.ctrl.tracker with lastNs := mv x.ctrl.tracker.lastNs, times := x.ctrl.tracker.times.map mv } },
    ptp := { x.ptp with syncIngress := x.ptp.syncIngress.map mv, sentS := mv x.ptp.sentTotal / 1000000000,
                        sentNs := mv x.ptp.sentTotal % 1000000000 } }

def LaneState.order (x : LaneState) : List TimeSource := sourceOrder x.img.time.sourceOrder

/-- Generators pass from an old to a new time. -/
def LaneState.stepPulses (x : LaneState) (old new : Nat) : LaneState :=
  let r := x.pulses.map fun g => g.step old new
  ({ x with pulses := r.map (·.1) } : LaneState).codes (r.flatMap (·.2))

/-- A step is applied at the next whole second (15 R440; 01 R17) (DEDUCED: log entry 83). -/
def LaneState.applyStep (x : LaneState) : LaneState :=
  let d := x.clock.stepTotal
  let base := (x.clock.total + 999999999) / 1000000000 * 1000000000
  let c := x.clock.applyStep
  let y : LaneState := ({ x with clock := c, src := { x.src with lastStepS := x.clock.stepS, lastStepNs := x.clock.stepNs } } : LaneState)
  let y := (y.stepPulses base (stepTime d base)).shiftTimes d
  let y := y.alarm (.raise ⟨.tm, 20⟩ 0 0) (leInt 4 x.clock.stepS ++ leInt 4 x.clock.stepNs)
  let y := if c.tickOffset = 0 then y else y.raise ⟨.tm, 40⟩ 0 0
  let r := y.src.lock y.order false
  ({ y with src := r.1 } : LaneState).codes r.2

/-- STEP_APPLY (15 R440): acts while a step is armed. -/
def execStepApply (lane : Lane) (s : State) : Result :=
  .next (s.onLane lane fun x => if x.clock.stepPending then x.applyStep else x)

/-- SLEW_COMPLETE (15 R440; 01 R17): acts once TICK_OFFSET is 0. -/
def execSlewComplete (lane : Lane) (s : State) : Result :=
  .next (s.onLane lane fun x =>
    if x.clock.tickOffset = 0 then (x.withClock ClockState.slewDone).clear ⟨.tm, 40⟩ 0 else x)

/-- TIME_SNAPSHOT_READ (15 R441) (DEDUCED: log entry 86). -/
def execTimeSnapshotRead (lane : Lane) (s : State) : Result :=
  .next (s.onLane lane fun x => x.withClock fun c => c.snapshot x.frame.number)

/-! ## Timestamp units (15 R442) -/

def LaneState.onStamp (x : LaneState) (k : Nat) (f : StampUnit → StampUnit) : LaneState := { x with stamps := modNth x.stamps k f }

/-- TIMESTAMP_CAPTURE (15 R442): an event at a unit other than 5, `ns` after the last frame tick; 6 and 7 are reserved. -/
def execTimestampCapture (lane : Lane) (unit ns : Nat) (s : State) : Result :=
  .next (if unit < 5 then s.onLane lane fun x => x.onStamp unit fun u => u.capture (x.nowNs + ns) else s)

/-- CAPTURE_NOW (15 R442): unit 5. -/
def execCaptureNow (lane : Lane) (ns : Nat) (s : State) : Result :=
  .next (s.onLane lane fun x => x.onStamp 5 fun u => u.capture (x.nowNs + ns))

/-- CAPTURE_RELEASE (15 R442): a read of CAP_NS. -/
def execCaptureRelease (lane : Lane) (unit : Nat) (s : State) : Result :=
  .next (s.onLane lane fun x => x.onStamp unit fun u => { u with valid := false, locked := false })

/-- CAPTURE_VALID_READ (15 R442): a read of the unit's first register. -/
def execCaptureValidRead (lane : Lane) (unit : Nat) (s : State) : Result :=
  .next (s.onLane lane fun x => x.onStamp unit fun u => { u with locked := u.locked || u.valid })

/-! ## PTP (15 R443, R444) -/

/-- PTP_MESSAGE_RECEIVED (15 R443, R444): `ns` after the last frame tick. -/
def execPtpMessageReceived (lane : Lane) (lan : Nat) (message : PtpIn) (ns : Nat) (s : State) : Result :=
  .next (s.onLane lane fun x =>
    let r := x.ptp.receive x.img.time lan (x.nowNs + ns) message
    ({ x with ptp := r.1, oneStep := modNth x.oneStep lan fun o => o.stamped (r.2.1 && o.ingress) } : LaneState).codes r.2.2)

/-- PTP_SYNC_SEND (15 R443): a master sends a Sync. -/
def execPtpSyncSend (lane : Lane) (lan ns : Nat) (s : State) : Result :=
  .next (s.onLane lane fun x =>
    if x.ptp.isMaster then
      let on := (nth default x.oneStep lan).enable
      { x with ptp := x.ptp.send 0x0 on (x.nowNs + ns), oneStep := modNth x.oneStep lan fun o => o.stamped on }
    else x)

/-- PTP_DELAY_REQUEST (15 R443): a lane that follows a master asks for its delay. -/
def execPtpDelayRequest (lane : Lane) (lan ns : Nat) (s : State) : Result :=
  .next (s.onLane lane fun x =>
    if x.ptp.masters.any fun m => m.selected && m.lan == lan then
      let on := (nth default x.oneStep lan).enable
      { x with ptp := x.ptp.send (if x.img.time.ptpDelay = 1 then 0x2 else 0x1) on (x.nowNs + ns),
               oneStep := modNth x.oneStep lan fun o => o.stamped on }
    else x)

/-- FOREIGN_MASTER_AGE_OUT (15 R444): acts once announce_timeout intervals have passed. -/
def execForeignMasterAgeOut (lane : Lane) (identity : Nat) (s : State) : Result :=
  .next (s.onLane lane fun x =>
    let r := x.ptp.ageOut x.img.time identity
    ({ x with ptp := r.1 } : LaneState).codes r.2)

/-! ## Time sources (15 R445 to R449) -/

/-- The other lane serves as a time source (15 R445). -/
def State.otherTime (s : State) (l : Lane) : Bool :=
  let q := (s.lane l.other).src.quality
  (s.lane l).hears && (q == .locked || q == .holdover)

/-- The error estimate a lane reports, ns. -/
def LaneState.timeError (x : LaneState) : Option Nat := x.src.error x.cal.sinceSet

/-- What a source adds to the estimate (15 R447) (DEDUCED: log entry 83). -/
def State.sourceAdds (s : State) (l : Lane) : TimeSource → Nat
  | .gnss => 50
  | .ptp => (s.lane l).ptp.delayVar
  | .other => ((s.lane l.other).timeError.getD 0) + 1000
  | _ => 0

/-- A change of the source in use: its offset is taken up (15 R449). -/
def LaneState.takeUp (x : LaneState) (offset : Int) (adds : Nat) : LaneState :=
  let c := x.clock.takeOffset offset
  let r := (x.src.measured offset (if c.stepPending then 0 else c.slewLeft) adds).lock x.order c.stepPending
  ({ x with clock := c, src := r.1 } : LaneState).codes r.2

/-- SOURCE_QUALIFIED (15 R445, R446, R449): acts once the source has met its condition long enough. -/
def execSourceQualified (lane : Lane) (source : TimeSource) (offset : Int) (s : State) : Result :=
  let x := s.lane lane
  .next (if x.src.ready (s.otherTime lane) source then
      let r := (x.src.qualify source).choose x.order
      let y := ({ x with src := r.1 } : LaneState).codes r.2
      s.setLane lane (if r.1.source = x.src.source then y else y.takeUp offset (s.sourceAdds lane r.1.source))
    else s)

/-- HOLDOVER_ENTRY (15 R447): acts after 2 s without a qualified source, from LOCKED. -/
def execHoldoverEntry (lane : Lane) (s : State) : Result :=
  .next (s.onLane lane fun x =>
    let r := x.src.holdover x.order
    ({ x with src := r.1 } : LaneState).codes r.2)

/-- FREERUN_ENTRY (15 R447): acts in HOLDOVER once the estimate passes 10 µs. -/
def execFreerunEntry (lane : Lane) (s : State) : Result :=
  .next (s.onLane lane fun x =>
    let r := x.src.freerun
    ({ x with src := r.1 } : LaneState).codes r.2)

/-! ## Pulses (15 R450, R451, R462) -/

def LaneState.onPulse (x : LaneState) (g : Nat) (f : PulseGen → PulseGen × List AlarmOp) : LaneState :=
  let r := f (nth default x.pulses g)
  ({ x with pulses := x.pulses.set g r.1 } : LaneState).codes r.2

/-- PULSE_ARM (15 R450, R451): the write lies `ns` after the last frame tick. -/
def execPulseArm (lane : Lane) (generator ns : Nat) (s : State) : Result :=
  .next (s.onLane lane fun x => x.onPulse generator fun g => g.arm (x.nowNs + ns))

/-- PULSE_EDGE (15 R450): an edge of a running generator falls due. -/
def execPulseEdge (lane : Lane) (generator : Nat) (s : State) : Result :=
  .next (s.onLane lane fun x => x.onPulse generator PulseGen.edge)

/-- PULSE_WIDTH_END (15 R450). -/
def execPulseWidthEnd (lane : Lane) (generator : Nat) (s : State) : Result :=
  .next (s.onLane lane fun x => x.onPulse generator fun g => g.fall x.nowNs)

/-- Refusal of time.pulse (15 R450, R462). -/
def LaneState.pulseRefused (x : LaneState) (l : Lane) (output : Nat) (p : PulseIn) : Option (Nat × Nat) :=
  if 4 ≤ output ∨ ¬(p.mode = 1 ∨ p.mode = 2) ∨ 1000000000 ≤ p.startNs ∨ p.width < 100 ∨ 500000000 < p.width ∨
      (p.mode = 2 ∧ (p.period < 1000 ∨ 1000000000000 < p.period ∨ p.period ≤ p.width)) then some (stMalformed, 0)
  else if output / 2 ≠ l.code ∨ (nth default x.img.time.pulses output).mode ≠ 2 then some (stRefused, 0) else none

/-- TIME_PULSE (15 R462): the generator's settings are written and armed. -/
def execTimePulse (lane : Lane) (msg : Msg) (output : Nat) (pulse : PulseIn) (s : State) : Result :=
  let x := s.lane lane
  let old := nth default x.pulses (output % 2)
  .next (s.command lane msg
    (askInstaller 0x6020 0x400 (leBytes 1 output ++ leBytes 1 old.actMode ++ leBytes 8 old.actStart) (x.pulseRefused lane output pulse))
    fun t => t.onLane lane fun y => y.onPulse (output % 2) fun g =>
      { g with mode := pulse.mode, startS := pulse.startS, startNs := pulse.startNs, period := pulse.period,
               width := pulse.width }.arm y.nowNs)

end Sys2Proof.Machine
end

