-- ==== Sys2Proof/Machine/Net.lean ====
section
/-!
DEFINITION. Ports, policer, PRP duplicate discard and network streams of a lane (15 R432 to R437).
-/

namespace Sys2Proof.Machine

/-! ## Ports (15 R432, R433) -/

/-- Port 0 LAN-A, 1 LAN-B, 2 service, 3 partner fibre. -/
def NetState.port (n : NetState) : Nat → Port
  | 0 => n.lanA
  | 1 => n.lanB
  | 2 => n.service
  | _ => n.partner

def NetState.setPort (n : NetState) (k : Nat) (p : Port) : NetState :=
  match k with
  | 0 => { n with lanA := p }
  | 1 => { n with lanB := p }
  | 2 => { n with service := p }
  | _ => { n with partner := p }

/-- The policer (15 R433): 100 Mbit/s with a burst of 64 KiB; PTP and supervision frames pass ahead of it. -/
def Port.police (p : Port) (length : Nat) (special : Bool) : Port × Bool :=
  if special then ({ p with framesIn := satInc 32 p.framesIn }, true)
  else if length ≤ p.tokens then ({ p with framesIn := satInc 32 p.framesIn, tokens := p.tokens - length }, true)
  else ({ p with drops := satInc 32 p.drops, dropping := true }, false)

/-- A frame of time: 12 500 bytes are admitted again; NT-010 lasts while drops continue. -/
def Port.frame (p : Port) : Port := { p with tokens := min 65536 (p.tokens + 12500), dropping := false }

/-- Codes of the links (15 R434, R437). -/
def NetState.linkCodes (n : NetState) : List AlarmOp :=
  [.whileOn (!n.lanA.link) ⟨.nt, 1⟩ 0 0, .whileOn (!n.lanB.link) ⟨.nt, 1⟩ 1 0, .whileOn (!n.lanA.link && !n.lanB.link) ⟨.nt, 2⟩ 0 0,
   .whileOn (!n.service.link) ⟨.nt, 3⟩ 0 0, .whileOn (!n.partner.link) ⟨.nt, 4⟩ 0 0]

/-! ## PRP (15 R434, R435; the drop window of IEC 62439-3) -/

/-- Distance from a to b in sequence numbers of 16 bits (PRESUMED: log entry 15). -/
def seqDist (a b : Nat) : Nat := (b % 65536 + 65536 - a % 65536) % 65536

/-- Whether a sequence number lies in a drop window (PRESUMED: log entry 15). -/
def inWindow (start expect seq : Nat) : Bool := decide (seqDist start seq < seqDist start expect)

/-- A new source heard on one LAN (PRESUMED, DESIGN CHOICE: log entries 15, 82). -/
def NodeEntry.new (source lan seq : Nat) : NodeEntry :=
  if lan = 0 then ⟨source, 0, 0, seq, (seq + 1) % 65536, 0, 0⟩ else ⟨source, 0, 0, 0, 0, seq, (seq + 1) % 65536⟩

/-- A frame of a known source on one LAN: whether it is a duplicate, and the windows after (PRESUMED: log entry 15). -/
def NodeEntry.hear (e : NodeEntry) (lan seq : Nat) : NodeEntry × Bool :=
  let next := (seq + 1) % 65536
  if lan = 0 then
    if inWindow e.startB e.expectB seq then ({ e with ageA := 0, startA := next, expectA := next, startB := next }, true)
    else ({ e with ageA := 0, startA := if seq = e.expectA then e.startA else seq, expectA := next, startB := e.expectB }, false)
  else
    if inWindow e.startA e.expectA seq then ({ e with ageB := 0, startB := next, expectB := next, startA := next }, true)
    else ({ e with ageB := 0, startB := if seq = e.expectB then e.startB else seq, expectB := next, startA := e.expectA }, false)

/-- Frames since a source was last heard (DESIGN CHOICE: log entry 82). -/
def NodeEntry.age (e : NodeEntry) : Nat := min e.ageA e.ageB

/-- The table without its least recently heard entry. -/
def dropOldest (ns : List NodeEntry) : List NodeEntry :=
  let oldest := ns.foldl (fun m e => max m e.age) 0
  match ns.findIdx? fun e => e.age == oldest with
  | some k => ns.eraseIdx k
  | none => ns

/-- A frame with a redundancy trailer on a LAN: the state, whether it is discarded, codes (PRESUMED: log entry 15). -/
def NetState.prp (n : NetState) (lan source seq : Nat) : NetState × Bool × List AlarmOp :=
  match n.nodes.find? fun e => e.source == source with
  | some e =>
    let r := e.hear lan seq
    ({ n with nodes := n.nodes.map fun q => if q.source == source then r.1 else q }, r.2, [])
  | none =>
    if n.nodes.length < 256 then ({ n with nodes := n.nodes ++ [NodeEntry.new source lan seq] }, false, [])
    else ({ n with nodes := dropOldest n.nodes ++ [NodeEntry.new source lan seq] }, false, [.raise ⟨.nt, 11⟩ 0 0])

/-- A source heard on one LAN only for 10 s (15 R434) (DESIGN CHOICE: log entry 82). -/
def NodeEntry.oneSided (e : NodeEntry) : Bool :=
  (decide (10000 ≤ e.ageA) && decide (e.ageB < 10000)) || (decide (10000 ≤ e.ageB) && decide (e.ageA < 10000))

/-- A frame of time at the ports and in the node table. -/
def NetState.frame (n : NetState) : NetState × List AlarmOp :=
  let drop := fun (k : Nat) => AlarmOp.whileOn (n.port k).dropping ⟨.nt, 10⟩ k 0
  let ns := n.nodes.map fun e => { e with ageA := satInc 32 e.ageA, ageB := satInc 32 e.ageB }
  ({ n with lanA := n.lanA.frame, lanB := n.lanB.frame, service := n.service.frame, partner := n.partner.frame, nodes := ns },
   [drop 0, drop 1, drop 2, drop 3, .whileOn (ns.any NodeEntry.oneSided) ⟨.nt, 5⟩ 0 0])

/-! ## IEC 61162-450 datagrams (15 R436, R438) -/

/-- The six characters of a stream's source. -/
def StreamRec.tag (r : StreamRec) : Bytes :=
  fit 2 r.sourceId ++ ([1000, 100, 10, 1].map fun k => BitVec.ofNat 8 (48 + r.sourceNumber / k % 10))

/-- A line without its TAG block, and the source the block names. -/
def tagLine (line : Bytes) : Option Bytes × Bytes :=
  match line with
  | b :: rest =>
    if b = 0x5C#8 then
      let block := rest.takeWhile (· != 0x5C#8)
      let fields := splitAtByte 0x2C (block.takeWhile (· != 0x2A#8))
      ((fields.find? fun f => f.take 2 == ascii "s:").map (·.drop 2), rest.drop (block.length + 1))
    else (none, line)
  | [] => (none, [])

/-- The sentences of a datagram, where its header and its source are right. -/
def streamSentences (r : StreamRec) (payload : Bytes) : Option (List Bytes) :=
  if payload.take 6 = ascii "UdPbC" ++ [0] then
    let lines := (splitAtByte 0x0A (payload.drop 6)).filter fun l => !l.isEmpty
    match lines with
    | first :: _ => if (tagLine first).1 = some r.tag then some (lines.map fun l => (tagLine l).2 ++ [0x0A#8]) else none
    | [] => none
  else none

end Sys2Proof.Machine
end

