-- ==== Sys2Proof/Machine/Objects.lean ====
section
/-!
DEFINITION. Values of the published objects whose layout the manual gives; every other object has a free value.
-/

namespace Sys2Proof.Machine

/-! ## f64 (07 R229; 05 R160) -/

/-- The 64 bits of a number as f64; one f64 does not hold is taken to a neighbour (the free value `Config.roundsUp`)
(DESIGN CHOICE: log entry 7). -/
def f64Bits (q : Rat) : Nat :=
  if q = 0 then 0
  else
    let a := absQ q
    let e := max (floorLog2 a.num.natAbs a.den) (-1022)
    let u : Rat := if e - 52 < 0 then 1 / ((2 ^ (e - 52).natAbs : Nat) : Rat) else ((2 ^ (e - 52).natAbs : Nat) : Rat)
    let k := (a / u).floor.toNat
    let m := if (k : Rat) * u = a then k else if Config.roundsUp q then k + 1 else k
    let sgn : Nat := if q < 0 then 2 ^ 63 else 0
    if m < 2 ^ 52 then sgn + m else sgn + (e + 1023).toNat * 2 ^ 52 + (m - 2 ^ 52)

def leF64 (q : Rat) : Bytes := leBytes 8 (f64Bits q)

def leV3 (v : V3) : Bytes := leF32 v.x ++ leF32 v.y ++ leF32 v.z
def u8 (n : Nat) : Bytes := leBytes 1 n
def u16 (n : Nat) : Bytes := leBytes 2 n
def u32 (n : Nat) : Bytes := leBytes 4 n
/-- A signed value saturated to its field. -/
def i32sat (v : Int) : Bytes := leInt 4 (clampI (-2147483648) 2147483647 v)

/-! ## Supply, key, GNSS (03 R102; 04 R119; 05 R153 to R162) -/

/-- cellar.status (03 R102). -/
def CellarState.bytes (c : CellarState) : Bytes :=
  let w := match c.write with | none => 0 | some k => if k.closing then 3 else 1 + k.bank
  u8 c.selected ++ u8 c.running ++ u8 (b2n c.keyPresent) ++ u8 w ++ u8 c.bank0.state ++ u8 c.bank0.reason ++ u8 c.bank1.state ++
  u8 c.bank1.reason ++ u32 c.generation ++ fit 16 c.bank0.hash ++ fit 16 c.bank1.hash ++ fit 32 c.runningHash

/-- power.a and power.b (04 R119). -/
def LaneState.powerBytes (x : LaneState) : Bytes :=
  let p := x.power
  withCrc (u8 (b2n p.feed1.good + 2 * b2n p.feed2.good + 4 * b2n x.attic.claim1 + 8 * b2n x.attic.claim2) ++
    u8 (b2n p.ocxoWarming + 2 * b2n (hasAlarm x.alarms ⟨.pw, 20⟩ 0) + 4 * b2n p.railLimit) ++ u16 p.feed1.reading ++
    u16 p.feed2.reading ++ u16 p.inputDw ++ u16 p.holdup ++ leInt 2 p.plateTemp ++ u16 p.losses ++ zeros 2 ++ u32 p.opHours ++
    u32 x.attic.powerCycles ++ zeros 4)

/-- A navigation message record (05 R153). -/
def NavRecord.bytes (r : NavRecord) : Bytes :=
  withCrc (u32 r.seq ++ u8 r.antenna ++ u8 r.signal ++ u8 r.svid ++ u8 r.kind ++ leBytes 6 r.timeS ++ u32 r.timeNs ++
    u16 r.bitCount ++ u8 r.status ++ u8 r.corrected ++ u16 r.wordMask ++ fit 80 r.bits)

/-- An entry of the measurements of an antenna (05 R156). -/
def GnssSlot.bytes (n : Nat) (g : GnssSlot) : Bytes :=
  u8 n ++ u8 g.signal ++ u8 g.svid ++ u8 g.state ++ leF64 (if g.state = 2 then 0 else g.pseudorange) ++ leF64 g.carrier ++
  leF32 g.doppler ++ u16 g.cn0 ++ u16 (min 65535 (g.lockMs / 100)) ++ leInt 1 g.elevation ++ u8 g.reason ++ u16 g.azimuth ++
  u8 g.flags ++ leInt 1 g.gloChannel ++ zeros 2

/-- gnss.ant0.meas to gnss.ant3.meas (05 R156). -/
def GnssState.measBytes (g : GnssState) (antenna : Nat) : Bytes :=
  let a := if antenna % 2 = 0 then g.ant0 else g.ant1
  let es := (a.meas.mapIdx fun n q => (n, q)).filter fun q => decide (2 ≤ q.2.state)
  leBytes 6 g.pvt.epochS ++ u32 g.pvt.epochNs ++ u8 antenna ++ u8 es.length ++ u16 a.measOut ++ u8 (min 255 a.noiseHigh) ++
  u8 (min 255 a.noiseLow) ++ es.flatMap fun q => q.2.bytes q.1

/-- gnss.a.pvt and gnss.b.pvt (05 R160). -/
def Pvt.bytes (p : Pvt) : Bytes :=
  withCrc (leBytes 6 p.epochS ++ u32 p.epochNs ++ u8 p.mode ++ u8 p.flags ++ leF64 p.latitude ++ leF64 p.longitude ++
    leF32 p.height ++ leV3 p.velocity ++ leF32 p.sigmaH ++ leF32 p.sigmaV ++ leF64 p.clockBias ++ leF32 p.clockDrift ++
    u16 p.hdop ++ u8 p.signalsUsed ++ u8 p.satellitesUsed ++ u16 p.corrAge ++ u16 p.baseId ++ leBytes 8 p.frameNumber ++
    u8 p.excluded ++ zeros 3)

/-- gnss.a.heading and gnss.b.heading (05 R162). -/
def GnssHeading.bytes (h : GnssHeading) : Bytes :=
  withCrc (leBytes 6 h.epochS ++ u32 h.epochNs ++ u8 h.status ++ u8 h.signals ++ leF32 h.heading ++ leF32 h.pitch ++
    leF32 h.sigmaHeading ++ leF32 h.sigmaPitch ++ leInt 2 h.lengthError ++ zeros 2)

/-! ## References, observer, control (06 R199; 07 R229; 08 R263) -/

/-- refs.a.state.n and refs.b.state.n (06 R199). -/
def LaneState.refBytes (x : LaneState) (n : Nat) : Bytes :=
  let r := nth default x.refs.refs n
  let k := x.img.refs.find? fun q => q.refId == n
  let needs := match k with | some q => 50 * q.returnTime | none => 0
  let left := if r.mode = .qualifying then (needs - r.qualCycles) / 5 else 0
  let noLocal := r.noFrame
  withCrc (u8 n ++ u8 r.mode.code ++ u8 r.reason ++
    u8 (b2n r.selected + 2 * b2n r.candidate + 4 * b2n r.driftAbove + 8 * b2n r.anchored + 16 * b2n r.msgTime +
        32 * b2n (match k with | some q => (q.flags.testBit 2 || q.format == 0x20) && decide (0 < r.srcSigma) | none => false) + 64 * b2n noLocal) ++
    leBytes 6 (r.measTime / 1000000000) ++ u32 (r.measTime % 1000000000) ++ u16 (min 65535 r.ageMs) ++
    leV3 (if noLocal then V3.zero else r.value) ++ leF32 r.innovation.x ++ leF32 r.innovation.y ++ leF32 r.sigma ++
    u16 r.share ++ u16 (min 65535 left) ++ leF32 r.medianDist ++ leF32 (driftShown ((k.map (·.kind)).getD 0) r.drift) ++ leF32 r.varSigma ++ u16 r.superseded ++ u16 r.refused)

/-- vessel.a.estimate and vessel.b.estimate (07 R229). -/
def LaneState.estimateBytes (x : LaneState) : Bytes :=
  let o := x.obs
  let g := nth 0 o.sigmas
  withCrc (leBytes 6 o.epochS ++ u32 o.epochNs ++ u8 o.status ++
    u8 (b2n o.drPos + 2 * b2n o.drHdg + 4 * b2n o.limitPos + 8 * b2n o.limitHdg + 16 * b2n o.floating + 32 * b2n o.resetNow +
        64 * b2n o.pending.isSome + 128 * b2n (decide (0 < o.age))) ++
    leBytes 8 o.epochFrame ++ leF64 o.est.eta.x ++ leF64 o.est.eta.y ++ leF32 (wrap360 (degQ o.est.eta.z)) ++
    leF32 o.est.nu.x ++ leF32 o.est.nu.y ++ leF32 (degQ o.est.nu.z) ++ leV3 o.est.b ++ leV3 o.wind ++
    leF32 o.est.xi2.x ++ leF32 o.est.xi2.y ++ leF32 (degQ o.est.xi2.z) ++ leV3 o.omega0 ++ leV3 ⟨o.sigmaPose.x, o.sigmaPose.y, degQ o.sigmaPose.z⟩ ++
    leF32 (g 3) ++ leF32 (g 4) ++ leF32 (degQ (g 5)) ++ leF32 (g 6) ++ leF32 (g 7) ++ leF32 (g 8) ++
    u16 (min 65535 (o.drPosT / 5)) ++ u16 (min 65535 (o.drHdgT / 5)) ++ u8 (min 255 o.age) ++ u8 x.img.vmod.observerType ++
    u16 o.originGen ++ leV3 o.thrust)

/-- ctrl.status (08 R263). -/
def LaneState.ctrlBytes (x : LaneState) : Bytes :=
  let c := x.ctrl
  let late := match c.stickAge with | some n => decide (x.img.mode.joystickTimeout ≤ n) | none => true
  withCrc (u8 c.mode ++ u8 c.requested ++ u8 c.bank ++
    u8 (b2n (decide (0 < c.releaseLeft)) + 2 * b2n c.frozen.x + 4 * b2n c.frozen.y + 8 * b2n c.frozen.z + 16 * b2n c.following +
        32 * b2n c.gwDo + 64 * b2n late) ++
    u8 c.fallbackCause ++ u8 c.refuseReason ++ u8 c.verdict ++ zeros 1 ++ leF64 c.target.x ++ leF64 c.target.y ++
    leF32 c.target.z ++ leF32 c.xd.z ++ leV3 c.err ++ leV3 c.prev ++ u16 c.originGen ++ zeros 2)

/-! ## Allocation, loop, feedback (09 R291, R292; 10 R322; 11 R352) -/

/-- Force published for an actuator. -/
def LaneState.published (x : LaneState) (i : Nat) : V2 := (nth default x.alloc.acts i).f0

/-- Power of an actuator at its published force (09 R273). -/
def LaneState.actPower (x : LaneState) (i : Nat) : Rat :=
  match x.img.thru.find? fun t => t.actuator == i with
  | some t => t.coeff * pow32 (hypotQ (x.published i).x (x.published i).y)
  | none => 0

/-- alloc.status (09 R291). -/
def LaneState.allocBytes (x : LaneState) : Bytes :=
  let a := x.alloc
  let inMask := sumN ((List.range 24).map fun i =>
    match (nth default a.acts i).mode.code with | 1 => 2 ^ i | 2 => 2 ^ i | _ => 0)
  withCrc (leBytes 8 a.setup.frame ++ leBytes 6 a.setup.epochS ++ u32 a.setup.epochNs ++ u8 a.kind ++
    u8 (b2n a.saturated.x + 2 * b2n a.saturated.y + 4 * b2n a.saturated.z + 8 * b2n a.resetMain + 16 * b2n a.vectorFailed) ++
    leV3 a.setup.demand ++ leV3 a.achieved ++ leF32 (a.result.residual.getD 0) ++ u16 a.result.worst ++ u16 (min 65535 a.fallbacks) ++
    leF32 (sumQ ((List.range 24).map x.actPower)) ++ u32 inMask)

/-- alloc.actuators (09 R292). -/
def LaneState.actuatorBytes (x : LaneState) : Bytes :=
  withCrc ((List.range 24).flatMap fun i =>
    let a := nth default x.alloc.acts i
    u8 i ++ u8 a.mode.code ++ u8 a.cause ++ u8 (a.arc.getD 0xFF) ++ leF32 a.f0.x ++ leF32 a.f0.y ++ leF32 a.measured.x ++
    leF32 a.measured.y ++ u16 (100 * wrap360 a.angle).floor.toNat ++
    u8 (b2n a.rateRow + 2 * b2n a.polyRow + 4 * b2n a.wedgeRow + 8 * b2n a.powerRow + 16 * b2n a.held + 32 * b2n a.exclusion) ++
    zeros 1 ++ leF32 a.thrust ++ leF32 (x.actPower i))

/-- One entry of loop.a.axes (10 R322). -/
def LaneState.axisBytes (x : LaneState) (n : Nat) : Bytes :=
  let a := nth default x.loop.axes n
  let v := fun k => nth 0 a.v k
  let r := (x.img.axes.find? fun q => q.axis == n).getD default
  let p := (x.img.lpmc.find? fun q => q.axis == n).getD default
  u8 n ++ u8 a.mode.code ++ u8 (lowestCause a.causes) ++
  u8 (b2n (decide (a.sp.dir ≠ 0)) + 2 * b2n a.atLimit + 4 * b2n (decide (0 < a.feRun)) + 8 * b2n (decide (0 < a.freezeRun)) +
      16 * b2n (a.causes.testBit 1) + 32 * b2n (a.causes.testBit 2) + 64 * b2n (a.causes.testBit 3) + 128 * b2n (a.causes.testBit 4)) ++
  leF32 (v 0) ++ leF32 (if r.role = 1 then wrap360 (v 2) else v 2) ++ leF32 (v 3) ++ leF32 (v p.statusReg) ++ leF32 (v p.feReg) ++
  leF32 a.out ++ u16 (min 65535 (a.latchLeft / 100)) ++ u16 a.sp.seq

/-- loop.a.axes and loop.b.axes. -/
def LaneState.axesBytes (x : LaneState) : Bytes := withCrc ((List.range 72).flatMap x.axisBytes)

/-- fb.a.status and fb.b.status (11 R352). -/
def LaneState.fbBytes (x : LaneState) : Bytes :=
  withCrc ((List.range 24).flatMap fun n =>
    let f := nth FbChan.blank x.fb.chans n
    let mode := match fbRec x.img.fbch n with | some r => r.mode | none => 0
    u8 n ++ u8 mode ++ u16 f.status ++ leInt 4 f.latch.count ++ leF32 f.latch.speed ++ leInt 4 f.capture ++ leInt 4 f.disc ++
    u16 f.phaseErrors ++ u8 (min 255 f.disagrees) ++ u8 (min 255 f.ssiInvalid) ++ u16 f.ampMin ++ u16 f.supplyMa ++ u16 f.losses ++ zeros 2)

/-! ## Safety, analog inputs, time (13 R406; 14 R429; 15 R461) -/

/-- safety.a, safety.b and safety.baize (13 R406). -/
def voterBytes (who : Unit3) (lost hashEqual : Bool) (r : SafeRec) (v : Voter) : Bytes :=
  let bits := fun (p : SafeInput → Bool) => sumN (v.inputs.mapIdx fun n i => if p i then 2 ^ n else 0)
  withCrc (u8 who.index ++ u8 (b2n (!lost) + 2 * b2n hashEqual + 4 * b2n v.missedLast) ++ u16 (bits (·.on)) ++
    u16 (bits SafeInput.fault) ++ u16 v.votes ++ u16 v.terminals ++ u8 v.outFault ++ zeros 1 ++ fit 4 r.hash ++
    (List.range 24).flatMap fun n =>
      let i := nth default v.insts n
      let f := match r.insts.find? fun q => q.inst == n with | some q => q.function | none => 0
      u8 i.mode.code ++ u8 i.cause ++ u16 (min 65535 (i.time / 100)) ++ u8 (b2n i.startDone + 2 * b2n i.joined) ++ u8 f ++ u8 n ++ zeros 1)

/-- an.a.inputs and an.b.inputs (14 R429). -/
def LaneState.inputsBytes (x : LaneState) : Bytes :=
  withCrc ((List.range 16).flatMap fun n =>
    let a := nth default x.analog.chans n
    let e := match aninOf x.img.anin n with | some r => a.eng r | none => 0
    u8 n ++ u8 (b2n (decide (x.analog.causeOf n = 0)) + 2 * b2n (decide (0 < a.oorRun)) + 4 * b2n (a.frozen || x.analog.fault) + 8 * b2n a.alt) ++
    u8 (x.analog.causeOf n) ++
    u8 a.set ++ leF32 a.value ++ leF32 e ++ u32 a.sampleNs)

/-- time.a and time.b (15 R461). -/
def LaneState.timeBytes (x : LaneState) : Bytes :=
  let s := x.src
  let c := x.clock
  let run := max s.gnssRun (max s.ptpRun s.pulseRun)
  let qualifying := decide (0 < run ∧ run < 10000)
  let err := match s.error x.cal.sinceSet with | some e => min (2 ^ 32 - 1) e | none => 2 ^ 32 - 1
  withCrc (u8 s.quality.code ++ u8 s.source.code ++
    u8 (b2n c.stepPending + 2 * b2n (decide (c.tickSlew ≠ 0)) + 4 * b2n (decide (86400000 ≤ s.warmFrames)) + 8 * b2n qualifying) ++
    u8 x.cal.leap ++ leBytes 6 c.s ++ u32 c.ns ++ zeros 2 ++ u32 err ++ i32sat s.lastOffset ++
    i32sat (((c.incr : Int) - 8 * 2 ^ 40) * 125000000000 / 2 ^ 40) ++ i32sat c.tickOffsetNs ++ u32 (s.sinceMeas / 1000) ++
    i32sat s.lastStepS ++ i32sat s.lastStepNs ++ u16 (if qualifying then (10000 - run) / 100 else 0) ++
    u8 x.ptp.masters.length ++ zeros 1 ++ u32 (min (2 ^ 32 - 1) (s.lockedFrames / 1000)) ++ zeros 8)

/-! ## The value of an object -/

/-- What ledger.a.head holds (03 R113): newest seq, entries held, wraps, entries with a bad CRC. -/
def LedgerState.head (g : LedgerState) : Bytes :=
  u32 (match g.ring with | e :: _ => e.seq | [] => 0) ++ u16 g.ring.length ++ u16 g.wraps ++ u16 g.badCrc

/-- A status, and the value where it is 0. -/
abbrev ObjectRead := Nat × Bytes

/-- A ring entry read by seq: GONE where the ring no longer holds it (03 R113). -/
def ringRead (v : Option Bytes) : ObjectRead := match v with | some b => (0, b) | none => (0x11, [])

/-- Value of a lane's own object, by its identifier as lane A has it; none where the manual gives no layout
(DEDUCED: log entry 60). -/
def LaneState.ownObject (x : LaneState) (l : Lane) (lost : Bool) (id index : Nat) : Option ObjectRead :=
  match id with
  | 0x1100 => some (0, x.health.report)
  | 0x1400 => some (0, x.powerBytes)
  | 0x2110 => some (0, x.estimateBytes)
  | 0x3400 => some (0, x.axesBytes)
  | 0x4010 => some (0, x.gnss.pvt.bytes)
  | 0x4020 => some (0, x.gnss.heading.bytes)
  | 0x4100 => some (0, x.gnss.measBytes (2 * l.code))
  | 0x4101 => some (0, x.gnss.measBytes (2 * l.code + 1))
  | 0x4110 => some (ringRead ((x.gnss.navRing.find? fun r => r.seq == index).map NavRecord.bytes))
  | 0x5000 => some (0, x.inputsBytes)
  | 0x5200 => some (0, x.fbBytes)
  | 0x6000 => some (0, x.src.published)
  | 0x7000 => some (0, x.larder.head)
  | 0x7100 => some (if index < 12288 then (0, x.larder.read index) else (0x10, []))
  | 0x7200 => some (0, x.ledger.head)
  | 0x7201 => some (ringRead ((x.ledger.ring.find? fun e => e.seq == index).map LedgerEntry.bytes))
  | 0x8000 => some (0, voterBytes (.lane l) lost (x.voter.baizeHash == x.image.map fun i => i.safe.hash) x.img.safe x.voter)
  | _ => none

/-- Identifier of a lane object of lane B as lane A has it. -/
def asLaneA (id : Nat) : Nat :=
  match id with
  | 0x1200 => 0x1100 | 0x1402 => 0x1400 | 0x1411 => 0x1410 | 0x2111 => 0x2110 | 0x3401 => 0x3400 | 0x4011 => 0x4010
  | 0x4021 => 0x4020 | 0x4102 => 0x4100 | 0x4103 => 0x4101 | 0x4111 => 0x4110 | 0x4131 => 0x4130 | 0x5001 => 0x5000
  | 0x5201 => 0x5200 | 0x5301 => 0x5300 | 0x5311 => 0x5310 | 0x5321 => 0x5320 | 0x6001 => 0x6000 | 0x6011 => 0x6010
  | 0x6101 => 0x6100 | 0x6201 => 0x6200 | 0x7001 => 0x7000 | 0x7101 => 0x7100 | 0x7300 => 0x7200 | 0x7301 => 0x7201
  | 0x8001 => 0x8000 | n => n

/-- Value of an object of the module or of the active lane, read at a lane. -/
def State.blockObject (s : State) (l : Lane) (id : Nat) : Option ObjectRead :=
  let x := s.lane l
  match id with
  | 0x1300 => some (0, x.cellar.bytes)
  | 0x2101 => some (0, leF64 x.obs.est.eta.x)
  | 0x2102 => some (0, leF64 x.obs.est.eta.y)
  | 0x2103 => some (0, leF32 (wrap360 (degQ x.obs.est.eta.z)))
  | 0x2105 => some (0, leF32 x.obs.est.nu.x ++ leF32 x.obs.est.nu.y ++ leF32 (degQ x.obs.est.nu.z))
  | 0x2200 => some (0, x.ctrlBytes)
  | 0x3000 => some (0, x.allocBytes)
  | 0x3100 => some (0, x.actuatorBytes)
  | 0x8002 =>
    some (0, voterBytes .baize (!s.baize.powered || !s.baize.coresAgree || s.baize.safe.isNone || s.baize.voter.watchdog) true
      (s.baize.safe.getD default) s.baize.voter)
  | _ => none

/-- Whether a lane answers a read of an object (15 R458; 07 R230) (DEDUCED: log entry 60). -/
def State.answers (s : State) (l : Lane) (o : Owner) : Bool :=
  match o with
  | .block => true
  | .lane k => k == l
  | .active => (s.lane l).active
  | .vessel => decide (s.activeLane.getD s.home = l)

/-- A read of an object at a lane (15 R458, R459): an object the other lane owns is unknown here
(DESIGN CHOICE, DEDUCED: log entries 13, 60). -/
def State.readObject (s : State) (l : Lane) (id index : Nat) : ObjectRead :=
  match objectRow id with
  | none => (0x0D, [])
  | some r =>
    if r.wt then (0x0E, [])
    else if !s.answers l r.owner then (if r.owner = .lane l.other then (0x0D, []) else (0x0C, []))
    else
      let x := s.lane l
      match refObject id with
      | some (_, n) => (0, x.refBytes n)
      | none =>
        let v := match r.owner with
          | .lane _ => x.ownObject l (x.life.state == LaneLife.failed || x.voter.watchdog || !x.power.regulated) (asLaneA id) index
          | _ => s.blockObject l id
        v.getD (0, Config.objectValue l.code id s.fresh)

end Sys2Proof.Machine
end

