-- ==== Sys2Proof/Machine/CmdNet.lean ====
section
/-!
DEFINITION. Meanings of the commands of 15 that concern the network ports and the operator protocol's sessions.
-/

namespace Sys2Proof.Machine

/-! ## Ports and streams (15 R433 to R437) -/

/-- A datagram on a stream's port is handled by the stream's kind (15 R436). -/
def LaneState.stream (x : LaneState) (n : Nat) (r : StreamRec) (f : NetFrame) (arrival : Nat) : LaneState :=
  if r.kind = 1 ∧ f.udpPort = r.port ∧ f.destination = r.address then
    match streamSentences r f.payload with
    | some ls => ls.foldl (fun (y : LaneState) b => y.sentence (0x80 + n) b arrival) x
    | none => { x with net := { x.net with streamDiscards := satInc 32 x.net.streamDiscards } }
  else if r.kind = 2 ∧ f.udpPort = r.port ∧ (r.address = 0 ∨ f.source = r.address) ∧ x.img.gnss.rtcmSource = 0x80 + n then
    { x with gnss := x.gnss.rtcm f.payload }
  else x

/-- A frame past the policer and the duplicate discard. -/
def LaneState.deliver (x : LaneState) (f : NetFrame) (arrival : Nat) : LaneState :=
  if x.intake then
    (x.img.netw.streams.mapIdx fun n r => (n, r)).foldl (fun (y : LaneState) q => y.stream q.1 q.2 f arrival) x
  else x

/-- A frame at a port of a lane. -/
def LaneState.networkFrame (x : LaneState) (port : Nat) (f : NetFrame) (arrival : Nat) : LaneState :=
  let r := (x.net.port port).police f.length f.special
  let y : LaneState := { x with net := x.net.setPort port r.1 }
  if !r.2 then y.codes [.hold ⟨.nt, 10⟩ port 0]
  else if 2 ≤ port then y
  else match f.prp with
    | some (source, seq) =>
      let q := y.net.prp port source seq
      let z := ({ y with net := q.1 } : LaneState).codes q.2.2
      if q.2.1 then
        let p := z.net.port port
        { z with net := z.net.setPort port { p with duplicates := satInc 32 p.duplicates } }
      else z.deliver f arrival
    | none => y.deliver f arrival

/-- NETWORK_FRAME_RECEIVED (15 R433 to R436). -/
def execNetworkFrameReceived (lane : Lane) (port : Nat) (frame : NetFrame) (arrival : Nat) (s : State) : Result :=
  .next (s.onLane lane fun x => x.networkFrame port frame arrival)

/-- PRP_SUPERVISION (15 R434): a supervision frame on both LANs, every 2 s. -/
def execPrpSupervision (lane : Lane) (s : State) : Result :=
  .next (s.onLane lane fun x =>
    let sent := fun (p : Port) => if p.link then { p with framesOut := satInc 32 p.framesOut } else p
    { x with net := { x.net with supervision := satInc 32 x.net.supervision, prpSeq := (x.net.prpSeq + 1) % 65536,
                                 lanA := sent x.net.lanA, lanB := sent x.net.lanB } })

/-- LINK_CHANGE (15 R434, R437). -/
def execLinkChange (lane : Lane) (port : Nat) (up : Bool) (s : State) : Result :=
  .next (s.onLane lane fun x =>
    let n := x.net.setPort port { x.net.port port with link := up }
    ({ x with net := n } : LaneState).codes n.linkCodes)

/-- NODE_FORGET (15 R435): acts once the source has not been heard for node_forget. -/
def execNodeForget (lane : Lane) (source : Nat) (s : State) : Result :=
  .next (s.onLane lane fun x =>
    let ns := x.net.nodes.filter fun e => !(e.source == source && decide (1000 * x.img.netw.nodeForget ≤ e.age))
    ({ x with net := { x.net with nodes := ns } } : LaneState).codes (if ns.length < 256 then [.clear ⟨.nt, 11⟩ 0] else []))

/-! ## Sessions (15 R453, R456; 03 R108) -/

/-- The station and the session key of an OPEN that meets 03 R108 and carries a valid tag. -/
def LaneState.openStation (x : LaneState) (m : Msg) (d : Datagram) : Option (Station × SessionKey) :=
  match x.role.stations.find? fun t => t.keyId == d.keyId && t.station == fieldN d.body 0 1,
        x.attic.sessionKeys.find? fun k => k.keyId == d.keyId with
  | some t, some k =>
    if t.kind = k.kind ∧ m.port + 1 = t.kind ∧ (t.address = 0 ∨ t.address = m.address) ∧ tagOk k.key m.bytes = true then some (t, k)
    else none
  | _, _ => none

/-- An OPEN discarded without reply is counted; ten from one address within 60 s raise NT-020. -/
def LaneState.badOpen (x : LaneState) (address : Nat) : LaneState :=
  let fs : List FailedOpen := ⟨address, 0⟩ :: (x.ses.failed.filter fun f => decide (f.age < 60000))
  let y : LaneState := { x with ses := { x.ses with failed := fs, badOpens := satInc 32 x.ses.badOpens } }
  if 10 ≤ (fs.filter fun f => f.address == address).length then y.raise ⟨.nt, 20⟩ 0 0 else y

/-- The next session number: not zero, not in use. -/
def SessionState.nextNumber (x : SessionState) : Nat :=
  ((List.range 5).map fun k => (x.lastNumber + k) % 65535 + 1).find? (fun n => !x.sessions.any fun s => s.number == n) |>.getD 1

/-- Body of an OPENED (DESIGN CHOICE: log entry 16). -/
def openedBody (status session : Nat) (nonce : Bytes) (timeout : Nat) : Bytes :=
  leBytes 1 status ++ leBytes 1 0 ++ leBytes 2 session ++ fit 16 nonce ++ leBytes 2 timeout

/-- An OPEN at a lane, with the lane nonce its random source draws (DEDUCED: log entry 59). -/
def LaneState.open (x : LaneState) (m : Msg) (nonce : Bytes) : LaneState :=
  match parseDatagram m.bytes with
  | none => x.badOpen m.address
  | some d =>
    if d.type ≠ 0x01 ∨ d.session ≠ 0 ∨ d.body.length ≠ 20 then x.badOpen m.address
    else match x.openStation m d with
      | none => x.badOpen m.address
      | some (t, k) =>
        let timeout := x.img.netw.sessionTimeout
        if 4 ≤ x.ses.sessions.length then
          let a : Answer := ⟨0, k.keyId, k.key, m.address, m.udpPort, 0x02, d.seq, [], openedBody stBusy 0 [] timeout⟩
          ({ x with ses := { x.ses with answers := x.ses.answers ++ [a] } } : LaneState).raise ⟨.nt, 21⟩ 0 0
        else
          let n := x.ses.nextNumber
          let key := hmac k.key (ascii "TPS1" ++ slice d.body 4 16 ++ nonce ++ leBytes 2 n)
          let s : Session := ⟨n, t.station, t.kind, t.rights, k.keyId, key, m.address, m.udpPort, d.seq, [], 0, 0, [], [], 0, 0⟩
          let a : Answer := ⟨n, k.keyId, k.key, m.address, m.udpPort, 0x02, d.seq, [], openedBody 0 n nonce timeout⟩
          { x with ses := { x.ses with sessions := x.ses.sessions ++ [s], lastNumber := n, answers := x.ses.answers ++ [a] } }

/-- OPEN (15 R453, R456) (DESIGN CHOICE: log entry 16). -/
def execOpenSession (lane : Lane) (msg : Msg) (s : State) : Result :=
  .next ((s.onLane lane fun x => if x.image.isSome && x.life.powered then x.open msg ((List.range 16).map fun k => Config.freshByte s.fresh k) else x).tick)

/-- A session ends: its telemetry stops, and a key write it owns is aborted (15 R453, R460; 03 R99). -/
def LaneState.endSession (x : LaneState) (n : Nat) : LaneState :=
  let y := if x.ownsWrite n then x.abortWrite 0x02 else x
  { y with ses := { y.ses with sessions := y.ses.sessions.filter fun s => s.number != n,
                               telemetry := y.ses.telemetry.filter fun a => a.session != n,
                               answers := y.ses.answers.filter fun a => !(a.session == n && a.kind == 0x21) } }

/-- Whether a session's sequence has reached its last value, the station's or the lane's (15 R453) (DEDUCED: log entry 59). -/
def Session.spent (q : Session) : Bool := q.newest == 0xFFFFFFFF || q.outSeq == 0xFFFFFFFF

/-- Sessions whose sequence is spent close (15 R453) (DEDUCED: log entry 59). -/
def LaneState.endSpent (x : LaneState) : LaneState :=
  (x.ses.sessions.filter Session.spent).foldl (fun y q => (y.endSession q.number).clear ⟨.nt, 21⟩ 0) x

/-- A message of a session other than a WRITE: what an accepted one of the given type does (DEDUCED: log entry 58). -/
def State.onMessage (s : State) (l : Lane) (m : Msg) (type : Nat) (f : State → Session → Datagram → State) : State :=
  let x := s.lane l
  match x.ses.enter m with
  | none => s.setLane l { x with ses := x.ses.discard m }
  | some (ses, q, d) =>
    let t := s.setLane l { x with ses := ses }
    if d.type = type then f t q d else t

/-- CLOSE (15 R453). -/
def execClose (lane : Lane) (msg : Msg) (s : State) : Result :=
  .next (s.onMessage lane msg 0x03 fun t q _ => t.onLane lane fun x => (x.endSession q.number).clear ⟨.nt, 21⟩ 0)

/-- KEEPALIVE (15 R455): answered with KEEPALIVE. -/
def execKeepalive (lane : Lane) (msg : Msg) (s : State) : Result :=
  .next (s.onMessage lane msg 0x04 fun t q d => t.onLane lane fun x => { x with ses := x.ses.answer q 0x04 d.seq [] [] })

/-- A reply of one status. -/
def LaneState.reply (x : LaneState) (q : Session) (d : Datagram) (items : List ReplyItem) : LaneState :=
  { x with ses := x.ses.answer q 0x12 d.seq items [] }

/-- The items of a READ body after its count: object, offset, index; none where the layout is wrong. -/
def readItems : Nat → Bytes → Option (List (Nat × Nat × Nat))
  | 0, rest => if rest.isEmpty then some [] else none
  | n + 1, bs =>
    match objectField bs with
    | some (object, rest) =>
      if rest.length < 6 then none
      else match readItems n (rest.drop 6) with
        | some q => some ((object, fieldN rest 0 2, fieldN rest 2 4) :: q)
        | none => none
    | none => none

/-- The answers to the items of a READ; values are cut to what one reply holds (DEDUCED: log entry 59). -/
def State.readAnswers (s : State) (l : Lane) : Nat → List (Nat × Nat × Nat) → List ReplyItem
  | _, [] => []
  | room, (object, offset, index) :: rest =>
    let r := s.readObject l object index
    let v := (r.2.drop offset).take (room - 6 * (rest.length + 1))
    ⟨r.1, 0, object, v⟩ :: s.readAnswers l (room - 6 - v.length) rest

/-- READ (15 R455, R458, R459). -/
def execRead (lane : Lane) (msg : Msg) (s : State) : Result :=
  .next ((s.onMessage lane msg 0x10 fun t q d =>
    let n := fieldN d.body 0 1
    t.onLane lane fun x =>
      match (if 1 ≤ n ∧ n ≤ 32 then readItems n (d.body.drop 1) else none) with
      | some is => x.reply q d (t.readAnswers lane 1420 is)
      | none => x.reply q d [⟨stMalformed, 0, 0, []⟩]).tick)

/-- The items of a SUBSCRIBE body after its count: object, period, phase. -/
def subItems : Nat → Bytes → Option (List SubItem)
  | 0, rest => if rest.isEmpty then some [] else none
  | n + 1, bs =>
    match objectField bs with
    | some (object, rest) =>
      if rest.length < 2 then none
      else match subItems n (rest.drop 2) with
        | some q => some (⟨object, fieldN rest 0 1, fieldN rest 1 1⟩ :: q)
        | none => none
    | none => none

/-- The status of the k-th subscription item (15 R459, R460) (DEDUCED: log entry 59). -/
def SubItem.judge (i : SubItem) (k : Nat) : Nat :=
  if 32 ≤ k then stFull
  else match objectRow i.object with
    | none => stUnknown
    | some r =>
      if r.wt then stAccess else if [1, 2, 5, 10, 25, 50].contains i.period && decide (i.phase < i.period) then 0 else stMalformed

/-- SUBSCRIBE (15 R460): the accepted items replace the session's subscription. -/
def execSubscribe (lane : Lane) (msg : Msg) (s : State) : Result :=
  .next (s.onMessage lane msg 0x20 fun t q d => t.onLane lane fun x =>
    match subItems (fieldN d.body 0 1) (d.body.drop 1) with
    | none => x.reply q d [⟨stMalformed, 0, 0, []⟩]
    | some is =>
      let js := is.mapIdx fun k i => (i, i.judge k)
      let q' : Session := { q with subs := (js.filter fun p => p.2 == 0).map (·.1), late := [] }
      ({ x with ses := x.ses.update q' } : LaneState).reply q' d (js.map fun p => ⟨p.2, 0, p.1.object, []⟩))

/-- SESSION_TIMEOUT (15 R453): acts once session_timeout has passed without a valid message (DESIGN CHOICE: log entry 21). -/
def execSessionTimeout (lane : Lane) (session : Nat) (s : State) : Result :=
  .next (s.onLane lane fun x =>
    match x.ses.find session with
    | some q => if 1000 * x.img.netw.sessionTimeout ≤ q.age then (x.endSession session).clear ⟨.nt, 21⟩ 0 else x
    | none => x)

end Sys2Proof.Machine
end

