-- ==== Sys2Proof/Machine/CmdSafe.lean ====
section
/-!
DEFINITION. Meanings of the commands of 13: watchdog expiry, test pulses, the SAFE record of the Baize, safety exchange;
and which voters are lost.
-/

namespace Sys2Proof.Machine

/-- The voter of a unit. -/
def State.voterOf (s : State) : Unit3 → Voter
  | .lane l => (s.lane l).voter
  | .baize => s.baize.voter

/-- Change one voter. -/
def State.onVoter (s : State) (u : Unit3) (f : Voter → Voter) : State :=
  match u with
  | .lane l => s.onLane l fun x => { x with voter := f x.voter }
  | .baize => s.onBaize fun b => { b with voter := f b.voter }

/-- Whether a voter is lost (13 R386). -/
def State.lost (s : State) (u : Unit3) : Bool :=
  match u with
  | .lane l =>
    let x := s.lane l
    !x.power.regulated || x.life.state == .failed || (x.life.state == .starting && !x.voter.evaluated) || x.voter.watchdog
  | .baize => !s.baize.powered || !s.baize.coresAgree || s.baize.safe.isNone || s.baize.voter.watchdog

/-- SF-030 follows the lost voters in a lane that runs (13 R386). -/
def State.lostCodes (s : State) : List AlarmOp :=
  [Unit3.lane .a, .lane .b, .baize].map fun u => AlarmOp.whileOn (s.lost u) ⟨.sf, 30⟩ u.index 0

def State.reportLost (s : State) : State :=
  let ops := s.lostCodes
  let f := fun (x : LaneState) => if x.runs then x.codes ops else x
  { s with laneA := f s.laneA, laneB := f s.laneB }

/-- VOTER_WATCHDOG_EXPIRY (13 R386): the voter's switches open, and it is lost (DEDUCED: log entry 80). -/
def execVoterWatchdogExpiry (voter : Unit3) (s : State) : Result :=
  .next (s.onVoter voter fun v => { v with watchdog := true, cmd := 0, cmdAge := List.replicate 16 0 }).reportLost

/-- The test-pulse generator pulses the inputs of the record the Baize holds; while the Baize is lost it keeps its mask
(13 R394). -/
def State.followMask (s : State) : State :=
  match s.baize.safe with
  | some r => if s.lost .baize then s else { s with pulse := { s.pulse with mask := r.testPulses } }
  | none => s

/-- The first lane that shows STANDBY in its heartbeats, the home lane where both do so first in one Baize frame; another is
taken where that lane is no longer heard (13 R387) (DESIGN CHOICE: log entry 48). -/
def BaizeState.pickSafe (b : BaizeState) (home : Lane) : BaizeState :=
  let shows := fun (l : Lane) => (b.view l).seenLast && (match (b.view l).last with | some h => h.state == 1 | none => false)
  match b.safe, b.safeFrom with
  | none, some l => if 3 ≤ (b.view l).missing then { b with safeFrom := none } else b
  | none, none => if shows home then { b with safeFrom := some home } else if shows home.other then { b with safeFrom := some home.other } else b
  | _, _ => b

/-- TEST_PULSE (13 R394): a source line goes low or high again. -/
def execTestPulse (second low : Bool) (s : State) : Result :=
  .next { s with pulse := if second then { s.pulse with t2Low := low } else { s.pulse with t1Low := low } }

/-- The SAFE record of the lane the Baize knows ACTIVE, where it differs from the Baize's (13 R387). -/
def State.newSafe (s : State) : Option (Lane × SafeRec) :=
  match s.baize.safe, s.baize.active with
  | some r, some l =>
    match (s.lane l).image with
    | some i => if (s.lane l).active && i.safe.hash != r.hash then some (l, i.safe) else none
    | none => none
  | _, _ => none

/-- Every instance of a voter goes to LOCKOUT with cause 4. -/
def Voter.lockAll (v : Voter) : Voter := { v with insts := v.insts.map InstState.lockChange, votes := 0 }

/-- The Baize adopts a changed SAFE record (13 R387). -/
def State.adoptSafe (s : State) : State :=
  match s.newSafe with
  | some (l, r) =>
    ({ s with baize := { s.baize with safe := some r, voter := s.baize.voter.lockAll },
              laneA := { s.laneA with voter := s.laneA.voter.lockAll },
              laneB := { s.laneB with voter := s.laneB.voter.lockAll } }.onLane l fun x => x.raise ⟨.sf, 41⟩ 0 0).followMask
  | none => s

/-- SAFE_RECORD_TRANSFER (13 R387): a Baize without a record takes that of the first lane that reaches STANDBY
(DESIGN CHOICE: log entry 48). -/
def execSafeRecordTransfer (lane : Lane) (s : State) : Result :=
  .next (match s.baize.powered && s.baize.ready && s.baize.safe.isNone && s.baize.safeFrom == some lane, (s.lane lane).image with
    | true, some i =>
      State.followMask { s with baize := { s.baize with safe := some i.safe, voter := { Voter.start i.safe with
                                                          fromA := s.baize.voter.fromA, fromB := s.baize.voter.fromB } } }
    | _, _ => s.adoptSafe)

/-- SAFE hash that a unit carries in its exchange frame (13 R387). -/
def State.safeHash (s : State) : Unit3 → Option Bytes
  | .lane l => (s.lane l).image.map fun i => i.safe.hash
  | .baize => s.baize.safe.map fun r => r.hash

/-- A lane's hash differs from the Baize hash it holds: SF-040 (13 R387). -/
def LaneState.compareSafe (x : LaneState) (l : Lane) : LaneState :=
  match x.image, x.voter.baizeHash with
  | some i, some h => x.codes [AlarmOp.whileOn (i.safe.hash != h) ⟨.sf, 40⟩ l.code 0]
  | _, _ => x

/-- SAFETY_EXCHANGE_RECEIVED (13 R387, R402): `dest` takes the frame of `source`, a different unit. -/
def execSafetyExchangeReceived (dest source : Unit3) (s : State) : Result :=
  .next (if dest = source then s
    else
      let e := (s.voterOf source).exchange (s.safeHash source)
      let t := s.onVoter dest fun v => v.receive dest source e
      match dest with
      | .lane l => t.onLane l fun x => x.compareSafe l
      | .baize => t.adoptSafe)

end Sys2Proof.Machine
end

