-- ==== Sys2Proof/Machine/Lanes.lean ====
section
/-!
DEFINITION. Lane life (02 R39 to R50, R58): heartbeat, status and abdication frames as bytes, readiness, entry into FAILED,
the restart latch, the start of a lane, and the image a lane runs.
-/

namespace Sys2Proof.Machine

/-! ## Frames (02 R43, R48) -/

/-- The 64 bytes of a heartbeat or abdication frame (02 R43). -/
def Heartbeat.bytes (h : Heartbeat) : Bytes :=
  withCrc (leBytes 1 h.kind ++ leBytes 1 h.lane ++ leBytes 1 h.state ++ leBytes 1 h.readiness ++ leBytes 8 h.frameNumber ++
    leBytes 1 h.frameSlot ++ leBytes 1 h.motionIndex ++ leBytes 1 h.takeoverSeq ++ leBytes 1 h.flags ++ fit 32 h.imageHash ++
    leBytes 2 h.cause ++ leBytes 1 h.overruns ++ leBytes 1 h.selftest ++ leBytes 4 h.copySeq ++ leInt 2 h.tickOffset ++ leBytes 2 0)

/-- A frame of this layout with a correct CRC and a valid type (02 R43). -/
def parseHeartbeat (bs : Bytes) : Option Heartbeat :=
  if bs.length = 64 ∧ crcOk bs = true ∧ (fieldN bs 0 1 = 1 ∨ fieldN bs 0 1 = 2) ∧ fieldN bs 1 1 ≤ 1 then
    some ⟨fieldN bs 0 1, fieldN bs 1 1, fieldN bs 2 1, fieldN bs 3 1, fieldN bs 4 8, fieldN bs 0x0C 1 % 20, fieldN bs 0x0D 1 % 50,
      fieldN bs 0x0E 1, fieldN bs 0x0F 1, slice bs 0x10 32, fieldN bs 0x30 2, fieldN bs 0x32 1, fieldN bs 0x33 1,
      fieldN bs 0x34 4, fieldI bs 0x38 2⟩
  else none

/-- Whether a receiver takes a heartbeat (02 R43): a greater frame number, or the comparison restarts. -/
def heartbeatValid (last : Option Heartbeat) (missing : Nat) (h : Heartbeat) : Bool :=
  match last with
  | some p => decide (p.frameNumber < h.frameNumber) || decide (3 ≤ missing) || h.state == 0
  | none => true

/-- An abdication frame is sent between two heartbeats: its frame number may equal the last one's (DEDUCED: log entry 42). -/
def abdicationValid (last : Option Heartbeat) (missing : Nat) (h : Heartbeat) : Bool :=
  heartbeatValid last missing h || (match last with | some p => p.frameNumber == h.frameNumber | none => true)

/-- The 16 bytes of a Baize status frame (02 R48). -/
def BaizeStatus.bytes (b : BaizeStatus) : Bytes :=
  withCrc (leBytes 1 0x10 ++ leBytes 1 b.flags ++ leBytes 1 b.activeLane ++ leBytes 1 b.order ++ leBytes 1 b.takeoverSeq ++
    zeros 3 ++ leBytes 4 b.baizeFrame)

/-- A valid status frame. -/
def parseStatus (bs : Bytes) : Option BaizeStatus :=
  if bs.length = 16 ∧ crcOk bs = true ∧ fieldN bs 0 1 = 0x10 then
    some ⟨fieldN bs 1 1, fieldN bs 2 1, fieldN bs 3 1, fieldN bs 4 1, fieldN bs 8 4⟩
  else none

/-! ## What a lane knows of the other lane (02 R47, R58, R66, R71) -/

/-- The other lane is ACTIVE, as its heartbeats or the Baize's status say. -/
def LaneState.seesActive (x : LaneState) (l : Lane) : Bool :=
  (x.hears && (match x.peer.last with | some h => h.state == 2 | none => false)) ||
  (!x.link.absent && (match x.link.last with | some b => b.activeLane == l.other.code | none => false))

/-- SHA-256 of the running image; zeros while none runs. -/
def LaneState.hash (x : LaneState) : Bytes := match x.image with | some i => i.hash | none => zeros 32

/-- The other lane is heard ACTIVE with another image (02 R40, R71). -/
def LaneState.imageDiffers (x : LaneState) : Bool :=
  x.hears && (match x.peer.last with | some h => h.state == 2 && h.imageHash != x.hash | none => false)

/-- The last complete copy, where its layout is the lane's own (02 R45) (DEDUCED: log entry 41). -/
def LaneState.usableCopy (x : LaneState) : Option StateCopy :=
  match x.copyNew with | some c => if c.layoutId = x.img.header.layoutId then some c else none | none => none

/-- A complete copy has come within the last 20 frames (02 R58) (DEDUCED: log entry 41). -/
def LaneState.hasCopy (x : LaneState) : Bool := x.usableCopy.isSome && decide (x.muslin.copyAge < 20)

/-- Limit of the tick offset in µs (02 R47): 600 while ticks slew in either lane. -/
def LaneState.offsetLimit (x : LaneState) : Nat :=
  if x.clock.tickOffset ≠ 0 ∨ (match x.peer.last with | some h => h.flags.testBit 5 | none => false) = true then 600 else 100

/-- The tick offset to the active lane exceeds its limit (02 R47). -/
def LaneState.offsetBad (x : LaneState) : Bool :=
  x.hears && (match x.peer.last with | some h => h.state == 2 | none => false) && decide (x.offsetLimit < x.muslin.tickOffset.natAbs)

/-! ## Self-test and readiness (02 R57, R58, R59) -/

/-- Enabled drive buses that are bus-off or silent for 1 s; the item runs in STANDBY and ISOLATED only (02 R57). -/
def LaneState.badBuses (x : LaneState) : Nat :=
  if x.life.state = .standby ∨ x.life.state = .isolated then
    (x.can.buses.filter fun b => b.enabled && (b.busOff || decide (1000 ≤ b.quiet))).length
  else 0

/-- A configured axis uses a channel of an index mode that is not referenced (11 R347). -/
def LaneState.unreferenced (x : LaneState) : Bool :=
  x.img.axes.any fun a => decide (a.channel < 24) &&
    (match fbRec x.img.fbch a.channel with
     | some r => (r.indexMode == 1 || r.indexMode == 2) && !(nth default x.fb.chans a.channel).referenced
     | none => false)

/-- An item that removes readiness has failed (02 R57; 04 R123, R127; 11 R347). -/
def LaneState.itemFailed (x : LaneState) : Bool :=
  x.life.startCode || x.life.holdupBad || x.health.loopback.failed || (x.health.vectors.any fun t => t.failed) ||
  decide (2 ≤ x.badBuses) || decide (x.health.busOk < 1000) || x.unreferenced

/-- The start self-test is not over. -/
def LaneState.startIncomplete (x : LaneState) : Bool :=
  x.life.state == .starting && (x.life.phase == .boot || x.life.phase == .key || x.life.phase == .selfTest)

/-- The bits of not_ready, 0 to 8 (02 R59). -/
def LaneState.notReadyBits (x : LaneState) : List Bool :=
  [x.startIncomplete, x.itemFailed, !x.frame.adopted, x.offsetBad, !x.hasCopy, x.imageDiffers, !x.eligible, x.life.latched,
   x.muslinFailed]

def bitsToNat (bs : List Bool) : Nat := bs.foldr (fun b n => b2n b + 2 * n) 0

/-- BZ-002 holds: this lane alone sees the Baize absent (02 R66). -/
def LaneState.linkFailed (x : LaneState) : Bool :=
  x.link.absent && x.hears && (match x.peer.last with | some h => h.flags.testBit 1 | none => false)

/-- Readiness (02 R43, R58, R65; 04 R130): 0 ready, 1 not ready, 2 ready without copy (DEDUCED: log entry 47). -/
def LaneState.readiness (x : LaneState) (l : Lane) : Nat :=
  match x.life.state with
  | .active => 0
  | .starting | .failed => 1
  | .standby | .isolated =>
    let b := x.notReadyBits
    if nth false b 0 || nth false b 1 || nth false b 2 || nth false b 3 || nth false b 5 || nth false b 6 || nth false b 7 ||
        x.linkFailed then 1
    else if x.hasCopy then 0
    else if x.muslinFailed || !x.seesActive l then 2
    else 1

/-- Ready apart from its image (02 R71): the copy condition falls with a differing layout. -/
def LaneState.readyButImage (x : LaneState) : Bool :=
  let b := x.notReadyBits
  !(nth false b 0 || nth false b 1 || nth false b 2 || nth false b 3 || nth false b 6 || nth false b 7 || x.linkFailed) &&
  (x.hasCopy || x.muslinFailed || (match x.copyNew with | some c => c.layoutId != x.img.header.layoutId | none => true))

/-- Overruns of the last 20 frames (01 R27). -/
def FrameState.recent (f : FrameState) : List Nat := f.overruns.filter fun n => decide (f.number < n + 20)

/-- The flags of a heartbeat (02 R43). -/
def State.heartbeatFlags (s : State) (l : Lane) : Nat :=
  let x := s.lane l
  bitsToNat [x.peer.missing == 0 && x.peer.last.isSome, !x.link.absent, s.unrefereed, x.homeLane == l, s.baize.suspended,
    x.clock.tickOffset != 0]

/-- The heartbeat (kind 1) or abdication frame (kind 2) a lane sends (02 R43). -/
def State.heartbeat (s : State) (l : Lane) (kind : Nat) : Heartbeat :=
  let x := s.lane l
  { kind := kind, lane := l.code, state := x.life.state.code, readiness := x.readiness l, frameNumber := x.frame.number,
    frameSlot := x.frame.slot, motionIndex := x.frame.motion, takeoverSeq := x.attic.takeoverSeq, flags := s.heartbeatFlags l,
    imageHash := x.hash, cause := x.life.cause, overruns := satTo 8 x.frame.recent.length,
    selftest := if x.startIncomplete then 2 else b2n x.itemFailed, copySeq := x.muslin.copySeq,
    tickOffset := x.muslin.tickOffset }

/-! ## Entry into FAILED (02 R40, R41, R50) -/

/-- Calendar ticks of 600 s (DEDUCED: log entry 40). -/
def ticks600 : Nat := 600 * 32768

/-- Starts that count toward the restart latch (02 R41) (DEDUCED: log entry 40). -/
def LaneState.recentStarts (x : LaneState) : List Nat := x.attic.starts.filter fun t => decide (x.cal.ticks < t + ticks600)

/-- The latch, judged as the lane fails (02 R41) (DEDUCED: log entry 40). -/
def LaneState.judgeLatch (x : LaneState) : LaneState :=
  if 3 ≤ x.recentStarts.length ∧ x.power.powerUpNext = false then
    ({ x with life := { x.life with latched := true } } : LaneState).raise ⟨.ln, 7⟩ 0 0
  else x

/-- Output writes and command traffic stop (02 R40, R50): buffers not yet on the wire are cancelled. -/
def LaneState.stopOutputs (x : LaneState) : LaneState :=
  { x with can := { x.can with buses := x.can.buses.map fun b => { b.inhibit with inhibited := b.inhibited } } }

/-- A lane enters FAILED with a cause: LN-004 (DEDUCED: log entry 38). -/
def LaneState.enterFailed (x : LaneState) (cause : Nat) : LaneState :=
  let y : LaneState := x.stopOutputs
  (({ y with life := { y.life with state := .failed, cause := cause, orderTakeover := false, orderSwitch := false },
             voter := { y.voter with cmd := 0 } } : LaneState).raise ⟨.ln, 4⟩ 0 cause).judgeLatch

/-- A lane fails; its abdication frame is sent once it has had its first frame tick (02 R40, R50). -/
def State.fail (s : State) (l : Lane) (cause : Nat) : State :=
  if (s.lane l).life.state = .failed then s
  else
    let t := s.onLane l fun x => x.enterFailed cause
    if (s.lane l).frame.ticked then t.onLane l fun x => { x with hbOut := (t.heartbeat l 2).bytes } else t

/-! ## The start of a lane (02 R40, R41; 03 R99, R109; 04 R118, R120, R126) -/

/-- A claimed feed in LOST raises PW-001 (04 R118). -/
def LaneState.claimCodes (x : LaneState) : LaneState :=
  x.codes [AlarmOp.whileOn (x.attic.claim1 && !x.power.feed1.good) ⟨.pw, 1⟩ 1 0,
           AlarmOp.whileOn (x.attic.claim2 && !x.power.feed2.good) ⟨.pw, 1⟩ 2 0]

/-- A write in progress is aborted by a restart (03 R99). -/
def LaneState.abortAtStart (x : LaneState) : Option (Nat × BankState) :=
  match x.cellar.write with
  | some w => some (w.bank, ⟨1, 0x02, zeros 32⟩)
  | none => none

/-- A port keeps its link over a start. -/
def Port.restart (p : Port) : Port := { (default : Port) with link := p.link, tokens := 65536 }

/-- The lane as a start finds it: what lies in DRAM and registers is lost, what lies in FRAM and outside stays. A restart
keeps the staging table of the Larder (16 R473) (DESIGN CHOICE: log entry 28). -/
def LaneState.startOver (x : LaneState) (powerUp : Bool) : LaneState :=
  let cell := match x.abortAtStart with
    | some (bank, b) => if powerUp then CellarState.blank else CellarState.blank.setBank bank b
    | none => CellarState.blank
  let y : LaneState :=
    { LaneState.reset with
      power := { x.power with powerUpNext := false, onHoldup := false, writeProtected := false, regulated := true }
      cal := x.cal, attic := x.attic, cellar := cell
      maker := { x.maker with token := false, link := x.maker.link && !powerUp }
      ledger := x.ledger
      larder := { x.larder with staging := if powerUp then [] else x.larder.staging, insts := [], retry := [] }
      life := { (default : LifeState) with powered := true, cause := x.attic.bootCause,
                                            startFailed := if powerUp then [] else x.life.startFailed }
      muslin := { MuslinState.blank with serial0 := x.muslin.serial0, serial1 := x.muslin.serial1 }
      net := { NetState.blank with lanA := x.net.lanA.restart, lanB := x.net.lanB.restart, service := x.net.service.restart,
                                   partner := x.net.partner.restart } }
  let z := y.claimCodes
  match x.abortAtStart with
  | some (bank, _) => if powerUp then z else z.raise ⟨.cl, 13⟩ bank 0x02
  | none => z

/-- A start that counts toward the latch (02 R41) (DEDUCED: log entry 40). -/
def LaneState.countStart (x : LaneState) : LaneState :=
  { x with attic := { x.attic with starts := (x.cal.ticks :: x.attic.starts).take 8 } }

/-- A lane restarts (02 R41): a start that follows the loss of both feeds is a power-up (04 R120). Any start ends the
suspension of revert (02 R62) (DEDUCED: log entry 39). -/
def State.restart (s : State) (l : Lane) : State :=
  let x := s.lane l
  let up := x.power.powerUpNext
  let y := x.startOver up
  let z : LaneState :=
    if up then { y with attic := { y.attic with powerCycles := (y.attic.powerCycles + 1) % 2 ^ 32 }, power := { y.power with losses := 0 } }
    else y.countStart
  (s.setLane l z).onBaize fun b => { b with suspended := false }

/-! ## The image a lane runs (03 R95; 04 R126) -/

/-- Pulse generator k of a lane as its TIME entry sets it (15 R450, R452): off, for time.pulse, or whole seconds. -/
def PulseRec.start (r : PulseRec) (now : Nat) : PulseGen :=
  let g : PulseGen := { (default : PulseGen) with polarity := r.polarity, width := r.width }
  if r.mode = 3 then ({ g with mode := 3 }.load 3 0 1000000000 r.width now).1 else g

/-- Every part of the lane that the image configures starts with it (04 R126). -/
def LaneState.install (x : LaneState) (l : Lane) (i : Image) (otherRuns : Bool) (otherAnalog : Option (List AnChan)) : LaneState :=
  { x with
    image := some i, gnss := GnssState.blank.starting i.gnss l x.attic.ephs x.clock.s, refs := RefsState.blank i.refs i.mode.targetRef, obs := ObserverState.blank, ctrl := ControlState.blank,
    alloc := AllocState.blank i.thru, loop := LoopState.blank i.axes i.thru, fb := ⟨initChans i.fbch otherRuns, 0⟩, can := initCan i.canb,
    voter := Voter.start i.safe, analog := initAnalog i.anin x.attic.coeffs otherAnalog,
    pulses := [0, 1].map fun g => (nth default i.time.pulses (2 * l.code + g)).start x.nowNs }

/-! ## Partner command as a start finds it (02 R73, R75) -/

/-- A lane that starts beside a running lane takes its module's place in the DP-3 pair from it; alone, the main module is
in command. -/
def LaneState.startPartner (x : LaneState) (other : LaneState) : PartnerState :=
  if other.runs then { other.partner with last := none, missing := 0, seq := 0, out := [] }
  else { (default : PartnerState) with inCommand := x.role.partnerRole == 1 }

end Sys2Proof.Machine
end

