-- ==== Sys2Proof/Machine/Switch.lean ====
section
/-!
DEFINITION. Becoming ACTIVE and leaving it (02 R42, R54 to R56, R65), and what a standby takes from a state copy (02 R44 to
R46; 06 R196; 08 R234; 09 R275).
-/

namespace Sys2Proof.Machine

/-! ## Parts of a state copy -/

/-- The operation part: mode, setpoints, track and target progress, gain bank, footprint, gangway hold, bias hold (08 R234). -/
def ControlState.takeOperation (own copy : ControlState) : ControlState :=
  { own with
    mode := copy.mode, requested := copy.requested, bank := copy.bank, fallbackCause := copy.fallbackCause, target := copy.target
    hold := copy.hold, holdFrom := copy.holdFrom, releaseLeft := copy.releaseLeft, fpCentre := copy.fpCentre
    fpRadius := copy.fpRadius, fpOutside := copy.fpOutside, fpInsideRun := copy.fpInsideRun, committed := copy.committed
    track := copy.track, leg := copy.leg, sd := copy.sd, speed := copy.speed, xte := copy.xte, xteRun := copy.xteRun
    trackDone := copy.trackDone, tracker := copy.tracker, offset := copy.offset, gwClear := copy.gwClear, gwDo := copy.gwDo
    zPed := copy.zPed, originGen := copy.originGen }

/-- The controllers part: integrator and filter states, and the results of the consequence analysis (08 R258). -/
def ControlState.takeControllers (own copy : ControlState) : ControlState :=
  { own with xd := copy.xd, vd := copy.vd, ad := copy.ad, integ := copy.integ, initI := copy.initI, frozen := copy.frozen,
             prev := copy.prev, parts := copy.parts, wvForce := copy.wvForce, groups := copy.groups, verdict := copy.verdict }

/-- Each frame a standby takes the last valid solution, the arcs in force and each transit (02 R46; 09 R275). -/
def AllocState.takeShadow (own copy : AllocState) : AllocState :=
  { own with acts := List.zipWith (fun (a c : Act) =>
      { a with f0 := c.f0, arc := c.arc, goal := c.goal, transit := c.transit, turn := c.turn }) own.acts copy.acts }

/-- The allocation and actuators parts; the engine and its problems stay the lane's own. -/
def AllocState.takeParts (own copy : AllocState) : AllocState :=
  { own with acts := copy.acts, kind := copy.kind, achieved := copy.achieved, saturated := copy.saturated, satRun := copy.satRun,
             satClear := copy.satClear, fallbacks := copy.fallbacks, limits := copy.limits, limitSource := copy.limitSource,
             rowActive := copy.rowActive, rowRun := copy.rowRun }

/-- The alarms part: the codes of the copy, and the lane's own that it lacks (DEDUCED: log entry 41). -/
def takeAlarms (own copy : List Alarm) : List Alarm := copy ++ own.filter fun a => !hasAlarm copy a.code a.item

/-- A complete copy reaches a lane that follows: the newer buffer, and what a follower takes from it. -/
def LaneState.storeCopy (x : LaneState) (c : StateCopy) : LaneState :=
  { x with copyOld := x.copyNew, copyNew := some c, muslin := { x.muslin with copySeq := c.seq, copyAge := 0 } }

/-- What a lane in STANDBY or ISOLATED takes from a copy of its own layout as it arrives. -/
def LaneState.follow (x : LaneState) (c : StateCopy) : LaneState :=
  { x with
    ctrl := x.ctrl.takeOperation c.ctrl, alloc := x.alloc.takeShadow c.alloc, obs := x.obs.takeOrigin c.obs x.frame.cycleNs
    refs := { x.refs with refs := List.zipWith (fun (r q : RefState) => { r with selected := q.selected }) x.refs.refs c.refs }
    loop := { x.loop with buffer := c.axes.map (·.sp) } }

/-- What a lane takes as it becomes ACTIVE (02 R54; 10 R319) (DEDUCED: log entry 41). -/
def LaneState.takeOver (x : LaneState) (c : StateCopy) : LaneState :=
  { x with
    ctrl := (x.ctrl.takeOperation c.ctrl).takeControllers c.ctrl, alloc := x.alloc.takeParts c.alloc
    loop := ({ x.loop with buffer := c.axes.map (·.sp) } : LoopState).takeCopy c.axes, alarms := takeAlarms x.alarms c.alarms }

/-! ## Becoming ACTIVE -/

/-- The newest takeover sequence a lane knows, of its own Attic, the other lane's heartbeat and the Baize (02 R42). -/
def LaneState.newestSeq (x : LaneState) : Nat :=
  let a := match x.peer.last with | some h => newest 8 x.attic.takeoverSeq h.takeoverSeq | none => x.attic.takeoverSeq
  match x.link.last with | some b => newest 8 a b.takeoverSeq | none => a

/-- Causes of LN-001: the switchover alone, or without a copy (02 R65) (DESIGN CHOICE: log entry 29). -/
def causeSwitch : Nat := 0
def causeNoCopy : Nat := 1

/-- The lane enters ACTIVE (02 R40, R42, R54, R65); a revert raises LN-002 (02 R61) (DESIGN CHOICE: log entry 29). -/
def LaneState.becomeActive (x : LaneState) (l : Lane) (revert : Bool) : LaneState :=
  let got := if x.hasCopy then x.usableCopy else none
  let y : LaneState := match got with | some c => x.takeOver c | none => x
  let z : LaneState := ({ y with
     life := { y.life with state := .active, sinceActive := 0, noCopy := got.isNone, orderTakeover := false, orderSwitch := false,
                           byInstaller := false }
     attic := { y.attic with takeoverSeq := (x.newestSeq + 1) % 256 }
     canvasSent := List.replicate 5 none } : LaneState).alarm
    (if revert then .raise ⟨.ln, 2⟩ l.code 0 else .raise ⟨.ln, 1⟩ l.code (if got.isNone then causeNoCopy else causeSwitch))
    (leBytes 1 l.other.code ++ leBytes 1 l.code)
  z.codes [.clear ⟨.ln, 3⟩ l.code, .clear ⟨.ln, 24⟩ 0]

/-- The active lane enters STANDBY at a switch (02 R40, R56), or ISOLATED where the images differ (02 R71). -/
def LaneState.standDown (x : LaneState) (isolated : Bool) : LaneState :=
  let y : LaneState := { x.stopOutputs with life := { x.life with state := if isolated then .isolated else .standby, orderSwitch := false } }
  if isolated then y.raise ⟨.cl, 11⟩ 0 0 else y

/-- STARTING ends (02 R40): the start self-test is over and the indices are adopted. -/
def LaneState.leaveStart (x : LaneState) : LaneState :=
  if x.life.state = .starting ∧ x.life.phase = .adopt ∧ x.frame.ticked = true ∧ x.frame.adopted = true then
    let y : LaneState := { x with life := { x.life with phase := .done, cause := 0,
                                                        state := if x.imageDiffers then .isolated else .standby } }
    if x.imageDiffers then y.raise ⟨.cl, 11⟩ 0 0 else y
  else x

/-- A standby hears another image (02 R40, R71); an isolated lane whose image is the active lane's again leaves CL-011. -/
def LaneState.judgeImage (x : LaneState) : LaneState :=
  if x.life.state = .standby ∧ x.imageDiffers = true then
    ({ x with life := { x.life with state := .isolated, orderTakeover := false } } : LaneState).raise ⟨.cl, 11⟩ 0 0
  else x

end Sys2Proof.Machine
end

