-- ==== Sys2Proof/Machine/CmdLane.lean ====
section
/-!
DEFINITION. Meanings of the commands of 02 and 04 that a lane's life is made of: power-up, boot, key check, self-test,
heartbeats and copies, abdication, takeover, restart, and the installer's lane commands.
-/

namespace Sys2Proof.Machine

/-! ## Start (04 R126 to R132; 03 R95) -/

/-- One feed of a lane: 2 the second, any other number the first. -/
def PowerState.feed (p : PowerState) (n : Nat) : Feed := if n = 2 then p.feed2 else p.feed1

/-- LANE_POWER_UP (04 R120, R126): a GOOD feed brings up the rails of a lane without power; the start is no restart (02 R41). -/
def execLanePowerUp (lane : Lane) (feed : Nat) (s : State) : Result :=
  let x := s.lane lane
  .next (if !x.life.powered && (x.power.feed feed).good then
      let y := x.startOver true
      let z : LaneState := { y with attic := { y.attic with powerCycles := (y.attic.powerCycles + 1) % 2 ^ 32 },
                                    power := { y.power with losses := 0, opHours := y.attic.opHours, opFrac := y.attic.opFrac } }
      let t := (s.setLane lane z).onBaize fun b => { b with suspended := false }
      if (s.lane lane.other).power.regulated then t
      else { t with analogOut := List.replicate 16 OutWord.powerUp, discreteOut := List.replicate 8 false }
    else s)

/-- Where boot complete takes module time from (04 R132). -/
inductive Seed where
  | other (ns : Nat) (quality : Quality) (error : Nat)
  | own
  | baize
  | image (s : Nat)
  deriving DecidableEq, Repr, Inhabited

/-- creation_time in the header of the selected bank, read ahead of the key check; 0 where no header stands (04 R132)
(DESIGN CHOICE: log entry 54). -/
def State.creationTime (s : State) (l : Lane) : Nat :=
  match s.key l with
  | some k =>
    let h := k.read (bankBase k.select.selected) 0x28
    if k.readable = true ∧ slice h 0 4 = ascii "AQCL" then fieldN h 0x20 6 else 0
  | none => 0

/-- The first source of 04 R132 that is available; `err` is the error of the time transfer in ns, at most 1 µs
(DESIGN CHOICE: log entry 54). -/
def State.seed (s : State) (l : Lane) (err : Int) : Seed :=
  let x := s.lane l
  let o := s.lane l.other
  if o.frame.ticked && (x.muslin.serial0 || x.muslin.serial1) && decide (1 < o.src.quality.code) then
    .other ((o.nowNs : Int) + clampI (-1000) 1000 err).toNat o.src.quality ((o.src.error o.cal.sinceSet).getD 0 + 1000)
  else if x.cal.valid then .own
  else if s.baize.powered && s.baize.cal.valid then .baize
  else .image (s.creationTime l)

/-- A calendar clock runs on. -/
def Calendar.advance (c : Calendar) (n : Nat) : Calendar :=
  let f := c.frac + n
  { c with s := c.s + f / 32768, frac := f % 32768, sinceSet := c.sinceSet + f / 32768 }

/-- A calendar clock that ran while no command showed its ticks, without supply or in a boot: a free number of ticks later
(04 R131, R136) (DEDUCED: log entry 50). -/
def Calendar.runOn (c : Calendar) (n : Nat) : Calendar := if c.valid then c.advance n else c

/-- The next edge of a calendar second. -/
def Calendar.edge (c : Calendar) : Nat := if c.frac = 0 then c.s else c.s + 1

/-- Module time seeded (04 R132, R133). -/
def LaneState.seeded (x : LaneState) (b : Calendar) : Seed → LaneState
  | .other ns q e =>
    let src : SourceState := { x.src with quality := q, source := .other, otherOk := q == .locked || q == .holdover, estimate := some e, sinceMeas := 0 }
    ({ x with clock := x.clock.at ns, src := src } : LaneState).codes
      (AlarmOp.ifOn (q == .holdover) ⟨.tm, 2⟩ 0 0 ++ AlarmOp.ifOn (q == .freerun) ⟨.tm, 3⟩ 0 0)
  | .own =>
    { x with clock := x.clock.at (x.cal.edge * 1000000000), cal := { x.cal with s := x.cal.edge, frac := 0 },
             src := { x.src with quality := .calendar, source := .calendar } }
  | .baize =>
    { x with clock := x.clock.at (b.edge * 1000000000), cal := { x.cal with sinceSet := b.sinceSet },
             src := { x.src with quality := .calendar, source := .calendar } }
  | .image t =>
    ({ x with clock := x.clock.at (t * 1000000000), src := { x.src with quality := .unset, source := .image } } : LaneState).raise ⟨.tm, 13⟩ 0 0

/-- BOOT_COMPLETE (04 R132): the lane's calendar clock has run on meanwhile (DEDUCED: log entry 50). -/
def execBootComplete (lane : Lane) (err : Int) (s : State) : Result :=
  let x := s.lane lane
  .next (if x.life.powered ∧ x.life.state = .starting ∧ x.life.phase = .boot then
      let w : LaneState := { x with cal := x.cal.runOn (Config.freshNat s.fresh) }
      let y := w.seeded s.baize.cal (s.seed lane err)
      s.tick.setLane lane { y with life := { y.life with phase := .key }, attic := { y.attic with bootCause := 0 } }
    else s)

/-- BOOT_WATCHDOG_RESET (04 R128): no boot complete within 2.0 s of rails in regulation; counts toward the latch of 02 R41. -/
def execBootWatchdogReset (lane : Lane) (s : State) : Result :=
  let x := s.lane lane
  .next (if x.life.powered ∧ x.life.state = .starting ∧ x.life.phase = .boot then
      let y : LaneState := { x with attic := { x.attic with bootCause := 0x0013 } }
      let z := (y.startOver false).countStart
      s.setLane lane (if 3 ≤ z.recentStarts.length then z.enterFailed 0x0013 else z)
    else s)

/-- KEY_CHECK_COMPLETE (03 R82, R94 to R96; 04 R126). -/
def execKeyCheckComplete (lane : Lane) (s : State) : Result :=
  let x := s.lane lane
  let o := s.lane lane.other
  .next (if x.life.state = .starting ∧ x.life.phase = .key then
      let r := x.cellar.start (s.key lane) s.variant x.attic.signerKeys
      let y := ({ x with cellar := r.1 } : LaneState).codes r.2.2.1
      match r.2.1 with
      | some i =>
        let z := y.install lane i o.runs (if o.runs then some o.analog.chans else none)
        let z : LaneState := { z with partner := z.startPartner o, life := { z.life with phase := .selfTest } }
        s.setLane lane (z.codes (missingKeys i z.attic))
      | none => (s.setLane lane y).fail lane r.2.2.2
    else s)

/-- Calendar codes at start (04 R131): its own clock, the Baize's, a difference above 2 s. -/
def LaneState.calendarCodes (x : LaneState) (b : Calendar) : List AlarmOp :=
  AlarmOp.ifOn (!x.cal.valid) ⟨.tm, 10⟩ 0 0 ++ AlarmOp.ifOn (!b.valid) ⟨.tm, 11⟩ 0 0 ++
  AlarmOp.ifOn (x.cal.valid && b.valid && decide (65536 < ((x.cal.ticks : Int) - (b.ticks : Int)).natAbs)) ⟨.tm, 12⟩ 0 0

/-- The items marked "code" of the start self-test (04 R123, R127; 10 R320; 16 R472, R476). -/
def LaneState.selfTestCodes (x : LaneState) (l : Lane) (b : Calendar) (t : StartTest) : LaneState :=
  let g : LarderState := { x.larder with insts := selectInsts x.img.lard }
  let r := g.startCheck x.power.opHours x.attic.powerCycles t.larderBroken
  let q := r.1.reformat x.img.lard
  let y : LaneState := { x with larder := q.1.describe x.power.opHours x.attic.powerCycles, ledger := { x.ledger with badCrc := t.ledgerBad },
                                power := { x.power with holdup := t.holdup }, muslin := { x.muslin with serial0 := t.serial0, serial1 := t.serial1 },
                                life := { x.life with startCode := !t.loopback, holdupBad := decide (t.holdup < 100) } }
  y.codes (r.2 ++ q.2 ++ AlarmOp.ifOn (decide (0 < t.ledgerBad)) ⟨.cl, 20⟩ 0 0 ++ AlarmOp.ifOn (!t.loopback) ⟨.ln, 3⟩ l.code 0 ++
    AlarmOp.ifOn (decide (t.holdup < 300)) ⟨.pw, 20⟩ 0 0 ++ AlarmOp.ifOn (decide (t.holdup < 100)) ⟨.pw, 21⟩ 0 0 ++ x.calendarCodes b ++
    AlarmOp.ifOn (!t.serial0 && !t.serial1) ⟨.ln, 21⟩ 0 0 ++ AlarmOp.ifOn (t.serial0 != t.serial1) ⟨.ln, 22⟩ 0 0 ++
    AlarmOp.ifOn (decide (72 ≤ x.img.axes.length)) ⟨.lp, 20⟩ 0 0)

/-- START_SELF_TEST_COMPLETE (04 R127; 02 R40). -/
def execStartSelfTestComplete (lane : Lane) (test : StartTest) (s : State) : Result :=
  let x := s.lane lane
  .next (if x.life.state = .starting ∧ x.life.phase = .selfTest then
      let y := x.selfTestCodes lane s.baize.cal test
      if test.faults.isEmpty then s.setLane lane ({ y with life := { y.life with phase := .adopt } } : LaneState).leaveStart
      else (s.setLane lane { y with life := { y.life with startFailed := test.faults } }).fail lane 0x0012
    else s)

/-! ## Heartbeats and copies (02 R42 to R47) -/

/-- The other lane is heard ACTIVE with a newer takeover sequence: this lane stops at once (02 R40, R55)
(DEDUCED: log entry 38). -/
def State.supersede (s : State) (l : Lane) (active : Bool) (seq : Nat) : State :=
  if (s.lane l).active && active && newer 8 seq (s.lane l).attic.takeoverSeq then s.onLane l fun x => x.enterFailed 0 else s

/-- Count of motion cycles and frames that indices stand for (DEDUCED: log entry 43). -/
def indexCount (slot motion : Nat) : Nat := 20 * motion + slot

/-- The indices the other lane has at this lane's present frame, from its last heartbeat: the heartbeat is sent 950 µs after
its tick, so that a lane 50 µs or more ahead has ticked once more by then (DEDUCED: log entry 43). -/
def PeerView.countNow (p : PeerView) (h : Heartbeat) (offset : Int) : Nat :=
  (indexCount h.frameSlot h.motionIndex + p.missing + (if offset ≤ -50 then 1 else 0)) % 1000

/-- A sample of a Larder item, in every state except STARTING and FAILED (16 R469). -/
def LaneState.sampleItem (x : LaneState) (item inst : Nat) (v : Rat) : LaneState :=
  if x.runs then { x with larder := x.larder.sample item inst v x.clock.s x.clock.ns } else x

/-- A heartbeat of the other lane is taken (02 R16, R42, R43, R47). -/
def LaneState.takeHeartbeat (x : LaneState) (h : Heartbeat) (offset : Int) : LaneState :=
  let p : PeerView := { x.peer with last := some h, missing := 0, seenNow := true }
  let y : LaneState := { x with peer := p, muslin := { x.muslin with tickOffset := offset } }
  let y : LaneState :=
    if y.life.state = .starting ∧ (h.state = 1 ∨ h.state = 2 ∨ h.state = 4) then
      { y with attic := { y.attic with takeoverSeq := h.takeoverSeq } } else y
  let y : LaneState :=
    if h.state = 2 ∧ y.active = false ∧ y.frame.ticked = true ∧ y.frame.adopted = true ∧
        p.countNow h offset ≠ indexCount y.frame.slot y.frame.motion then
      ({ y with frame := { y.frame with adopted := false } } : LaneState).raise ⟨.ln, 32⟩ 0 0
    else y
  y.judgeImage.sampleItem 0x13 0 offset

/-- A heartbeat at the Baize (02 R43, R48, R55). -/
def BaizeState.takeHeartbeat (b : BaizeState) (l : Lane) (home : Lane) (h : Heartbeat) : BaizeState :=
  let v := b.view l
  let v : LaneView := { v with last := some h, missing := 0, seenNow := true, failed := h.state == 3, inhibit := v.inhibit && h.state != 1,
                               order := if (v.order = 1 ∧ h.state = 2) ∨ (v.order = 2 ∧ h.state ≠ 2) then 0 else v.order }
  let c : BaizeState := { b.setView l v with seq := newest 8 b.seq h.takeoverSeq, former := if b.former = some l ∧ h.state = 1 then none else b.former }
  if b.active.getD home = l then { c with slot := h.frameSlot, motion := h.motionIndex } else c

/-- HEARTBEAT_RECEIVED (02 R43): `offset` is the receiver's frame tick minus the sender's, µs. -/
def execHeartbeatReceived (dest : Unit3) (bytes : Bytes) (offset : Int) (s : State) : Result :=
  .next (match parseHeartbeat bytes with
    | none => s
    | some h =>
      let l : Lane := if h.lane = 0 then .a else .b
      match dest with
      | .lane d =>
        let x := s.lane d
        if l = d.other ∧ h.kind = 1 ∧ x.life.powered = true ∧ (x.muslin.serial0 || x.muslin.serial1) = true ∧
            heartbeatValid x.peer.last x.peer.missing h = true then
          (s.onLane d fun y => y.takeHeartbeat h offset).supersede d (h.state == 2) h.takeoverSeq
        else s
      | .baize =>
        let v := s.baize.view l
        if h.kind = 1 ∧ s.baize.powered = true ∧ s.baize.ready = true ∧ heartbeatValid v.last v.missing h = true then
          (s.onBaize fun b => b.takeHeartbeat l s.home h).adoptSafe
        else s)

/-- STATE_COPY_RECEIVED (02 R45, R63): damage 0 none, 1 CRC, 2 sequences that differ, 3 length (DEDUCED: log entry 24). -/
def execStateCopyReceived (lane : Lane) (damage : Nat) (s : State) : Result :=
  let x := s.lane lane
  .next (match (s.lane lane.other).copyOut with
    | some c =>
      if damage = 0 ∧ x.life.powered = true ∧ x.active = false ∧ (x.muslin.serial0 || x.muslin.serial1) = true then
        let y := x.storeCopy c
        s.setLane lane (if c.layoutId = x.img.header.layoutId ∧ x.runs = true then y.follow c else y)
      else s
    | none => s)

/-- CAN_FRAME_RECEIVED (12 R366; 02 R37, R40): also command traffic of the other lane on a cross-listen receiver. -/
def execCanFrameReceived (lane : Lane) (bus : Nat) (frame : RxFrame) (s : State) : Result :=
  let x := s.lane lane
  let t := s.onLane lane fun y => (y.withCan (y.can.receive y.img.canp y.img.canb y.img.thru bus frame)).hearTraffic lane bus frame.frame
  .next (match otherTraffic x lane bus frame.frame with | some q => t.supersede lane true q | none => t)

/-! ## Abdication (02 R40, R49, R50, R67) -/

/-- Whether a cause holds where the state shows it; lockstep and memory errors are told by the command (02 R50; 10 R320)
(DESIGN CHOICE: log entries 21, 53). -/
def State.causeHolds (s : State) (l : Lane) (cause : Nat) : Bool :=
  let x := s.lane l
  if cause = 1 ∨ cause = 2 ∨ cause = 4 then true
  else if cause = 3 then decide (3 ≤ x.frame.recent.length)
  else if cause = 5 then x.powerFail
  else if cause = 0x14 then
    x.active && hasAlarm x.alarms ⟨.lp, 5⟩ 0 && x.hears && (match x.peer.last with | some h => h.readiness == 0 | none => false)
  else false

/-- ABDICATION (02 R50) (DESIGN CHOICE: log entry 53). -/
def execAbdication (lane : Lane) (cause : Nat) (s : State) : Result :=
  .next (if (s.lane lane).life.powered && s.causeHolds lane cause then s.fail lane cause else s)

/-! ## Takeover (02 R42, R54, R65 to R68) -/

/-- TAKEOVER (02 R54): the first frame tick at least 100 µs after the order. -/
def execTakeover (lane : Lane) (s : State) : Result :=
  let x := s.lane lane
  .next (if x.life.state = .standby ∧ x.life.orderTakeover = true then
      (s.setLane lane (x.becomeActive lane false)).onBaize fun b =>
        if s.unrefereed then b else { b with contacts := none, closing := some lane }
    else s)

/-- Whether the other lane's heartbeat and command traffic have been absent long enough (02 R67). -/
def LaneState.aloneLong (x : LaneState) : Bool :=
  decide (8 ≤ x.peer.missing) && decide (3 ≤ (x.peer.crossAge.filter fun n => decide (8 ≤ n)).length)

/-- UNREFEREED_TAKEOVER (02 R67): the evidence is complete. -/
def execUnrefereedTakeover (lane : Lane) (s : State) : Result :=
  .next (s.onLane lane fun x =>
    if s.unrefereed = true ∧ x.life.state = .standby ∧ x.aloneLong = true ∧ x.readiness lane ≠ 1 then
      { x with life := { x.life with orderTakeover := true } }
    else x)

/-- AUTO_RESTART (02 R41; 04 R125): 100 ms after entering FAILED, with a GOOD feed, unless latched. -/
def execAutoRestart (lane : Lane) (s : State) : Result :=
  let x := s.lane lane
  .next (if x.life.powered ∧ x.life.state = .failed ∧ (x.power.feed1.good || x.power.feed2.good) = true ∧
      (x.life.latched = false ∨ x.power.powerUpNext = true) then s.restart lane else s)

/-! ## The installer's lane commands (02 R56, R60, R71): rights bit 9 -/

/-- The lane that a switch command hands control to: the one that follows the active lane. -/
def State.follower (s : State) : Option Lane := s.activeLane.map Lane.other

/-- Whether a lane says it is ready to take over (02 R58) (DEDUCED: log entries 39, 47). -/
def State.laneReady (s : State) (l : Lane) : Bool := (s.lane l).life.state == .standby && (s.lane l).readiness l != 1

/-- The Baize serves: powered, ready, its cores agree, and the module is not unrefereed. -/
def State.refereed (s : State) : Bool := s.baize.powered && s.baize.ready && s.baize.coresAgree && !s.unrefereed

/-- Old value of a lane command: the active lane. -/
def State.activeByte (s : State) : Bytes := leBytes 1 (match s.activeLane with | some l => l.code | none => 0xFF)

/-- LANE_SWITCH (02 R56, R62): refused while unrefereed or while the other lane is not ready. -/
def execLaneSwitch (lane : Lane) (msg : Msg) (s : State) : Result :=
  .next (match s.follower with
    | some t =>
      s.command lane msg (askInstaller 0x1020 0x200 s.activeByte (if s.refereed && s.laneReady t then none else some (stRefused, 0)))
        fun u => u.onBaize fun b => { b with switchTo := some t, reverting := false, holdoff := none, suspended := t != s.home }
    | none => s.command lane msg (askInstaller 0x1020 0x200 s.activeByte (some (stRefused, 0))) fun u => u)

/-- The lane in a given state, the accepting lane first. -/
def State.laneIn (s : State) (l : Lane) (st : LaneLife) : Option Lane :=
  if (s.lane l).life.state = st then some l else if (s.lane l.other).life.state = st then some l.other else none

/-- LANE_ISOLATE (02 R40, R60): 1 isolates the standby, 0 releases an isolated lane of equal image. -/
def execLaneIsolate (lane : Lane) (msg : Msg) (value : Nat) (s : State) : Result :=
  let from_ : LaneLife := if value = 1 then .standby else .isolated
  .next (match s.laneIn lane from_ with
    | some t =>
      s.command lane msg (askInstaller 0x1021 0x200 (leBytes 1 (s.lane t).life.state.code)
          (if 1 < value then some (stMalformed, 0) else if value = 0 ∧ (s.lane t).imageDiffers = true then some (stRefused, 0) else none))
        fun u => u.onLane t fun x =>
          if value = 1 then
            ({ x with life := { x.life with state := .isolated, byInstaller := true, orderTakeover := false } } : LaneState).raise ⟨.ln, 10⟩ t.code 0
          else ({ x with life := { x.life with state := .standby, byInstaller := false } } : LaneState).codes
            [.clear ⟨.ln, 10⟩ t.code, .clear ⟨.cl, 11⟩ 0]
    | none => s.command lane msg (askInstaller 0x1021 0x200 [] (if 1 < value then some (stMalformed, 0) else some (stRefused, 0))) fun u => u)

/-- LANE_ADOPT_IMAGE (02 R71): the Baize present, the isolated lane ready apart from its image, one vessel identity. -/
def execLaneAdoptImage (lane : Lane) (msg : Msg) (s : State) : Result :=
  .next (match s.follower with
    | some t =>
      let ok := s.refereed && (s.lane t).life.state == .isolated && (s.lane t).readyButImage &&
        (s.lane t).img.header.vesselId == (s.lane t.other).img.header.vesselId
      s.command lane msg (askInstaller 0x1022 0x200 s.activeByte (if ok then none else some (stRefused, 0)))
        fun u => u.onBaize fun b => { b with switchTo := some t, reverting := false, holdoff := none, suspended := t != s.home }
    | none => s.command lane msg (askInstaller 0x1022 0x200 s.activeByte (some (stRefused, 0))) fun u => u)

/-- LANE_RESTART (02 R41, R50, R60): the named lane abdicates with cause 0x0006 and starts; the active lane only while the
other is ready. A latched lane leaves FAILED by it (DEDUCED: log entry 39). -/
def execLaneRestart (lane : Lane) (msg : Msg) (target : Lane) (s : State) : Result :=
  let x := s.lane target
  .next (s.command lane msg (askInstaller 0x1023 0x200 (leBytes 1 x.life.state.code)
      (if x.life.powered = false ∨ x.powerFail = true ∨ (x.active = true ∧ s.laneReady target.other = false) then some (stRefused, 0) else none))
    fun u =>
      let v := u.fail target 0x0006
      let w := v.restart target
      w.onLane target fun y => { y with hbOut := (v.lane target).hbOut })

end Sys2Proof.Machine
end

