-- ==== Sys2Proof/Machine/CmdBaize.lean ====
section
/-!
DEFINITION. The Baize (02 R48 to R71; 13 R384): its tick and its decisions, the orders to the lanes, the transmit inhibit,
absence and return; and what the lanes do on its status frames.
-/

namespace Sys2Proof.Machine

/-! ## Decisions (02 R49) -/

/-- A lane as a candidate: heard in STANDBY with readiness 0 or 2, and not treated as FAILED (02 R49 row 9)
(DEDUCED: log entry 47). -/
def LaneView.candidate (v : LaneView) : Bool :=
  !v.failed && decide (v.missing < 3) && (match v.last with | some h => h.state == 1 && h.readiness != 1 | none => false)

/-- The active lane is declared failed (02 R49 rows 1 and 2, R53): its contacts open, LN-004; a demote order goes to a lane
that did not say so itself. A switch under way and the hold-off end (02 R62). -/
def BaizeState.declare (b : BaizeState) (l : Lane) (demote : Bool) : BaizeState :=
  let v := b.view l
  let c := b.setView l { v with failed := true, order := if demote then 2 else 0 }
  let o := c.view l.other
  ({ c.setView l.other { o with order := if o.order = 3 then 0 else o.order } with
     active := none, former := some l, contacts := if b.contacts = some l then none else b.contacts, closing := none, switchTo := none,
     ssiClock := if b.ssiClock = some l then some l.other else b.ssiClock, reverting := false, holdoff := none } : BaizeState).codes
    [.raise ⟨.ln, 4⟩ l.code (match v.last with | some h => h.cause | none => 0)]

/-- The standby is treated as FAILED (02 R49 row 5): LN-004, LN-003; a switch to it does not take effect (02 R62). -/
def BaizeState.standbyFailed (b : BaizeState) (l : Lane) : BaizeState :=
  let v := b.view l
  let c := (b.setView l { v with failed := true, order := 0 }).codes
    [.raise ⟨.ln, 4⟩ l.code (match v.last with | some h => h.cause | none => 0), .raise ⟨.ln, 3⟩ l.code 0]
  if b.switchTo = some l then
    let o := c.view l.other
    { c.setView l.other { o with order := if o.order = 3 then 0 else o.order } with switchTo := none, reverting := false, holdoff := none }
  else { c with holdoff := none }

/-- A takeover order to a ready and eligible lane, the home lane first; none: LN-006 (02 R49 rows 9 and 10, R51)
(DEDUCED: log entry 46). -/
def BaizeState.grant (b : BaizeState) (home : Lane) : BaizeState :=
  if b.active.isSome then b
  else
    let ls := [home, home.other].filter fun l => (b.view l).candidate && (!b.homeOnly || l == home)
    match ls with
    | l :: _ =>
      ({ b.setView l { b.view l with order := 1 } with active := some l, homeOnly := false, noLane := false, holdoff := none } : BaizeState).codes
        [.clear ⟨.ln, 6⟩ 0, .clear ⟨.ln, 3⟩ l.code]
    | [] => ({ b with noLane := true } : BaizeState).codes [.hold ⟨.ln, 6⟩ 0 0]

/-- Row 3 (02 R49, R64): both lanes heard, and neither hears the other: the Muslin link has failed. -/
def BaizeState.linkDown (b : BaizeState) : Bool :=
  let deaf := fun (v : LaneView) => v.seenLast && (match v.last with | some h => !h.flags.testBit 0 | none => false)
  deaf b.viewA && deaf b.viewB

/-- Row 2: the active lane's heartbeat is missing. A lane heard in a state that is neither ACTIVE nor STANDBY is no active
lane any more (DEDUCED: log entry 37). -/
def BaizeState.watchActive (b : BaizeState) : BaizeState :=
  match b.active with
  | some l =>
    let v := b.view l
    if 3 ≤ v.missing then b.declare l true
    else if v.seenLast && (match v.last with | some h => h.state != 1 && h.state != 2 | none => false) then b.declare l false
    else b
  | none => b

/-- Row 5 for each lane that is not active. -/
def BaizeState.watchStandby (b : BaizeState) : BaizeState :=
  [Lane.a, Lane.b].foldl (fun (c : BaizeState) l =>
    let v := c.view l
    if c.active ≠ some l ∧ v.failed = false ∧ v.last.isSome = true ∧ 3 ≤ v.missing then c.standbyFailed l else c) b

/-- Revert conditions (02 R61, R62): the home lane is a candidate and the other lane is heard ACTIVE. The hold-off counts
Baize frames while they hold, and starts again from zero. -/
def BaizeState.countHoldoff (b : BaizeState) (home : Lane) (muslin : Bool) : BaizeState :=
  let other := b.view home.other
  if b.active = some home.other ∧ b.suspended = false ∧ b.switchTo = none ∧ muslin = true ∧ (b.view home).candidate = true ∧
      (match other.last with | some h => h.state == 2 | none => false) = true then
    { b with holdoff := some (match b.holdoff with | some n => n + 1 | none => 0) }
  else { b with holdoff := none }

/-- Rows 7 and 8: order 3 stands in both status frames until the switch (02 R56); a target that can no longer take over ends
it (DEDUCED: log entry 37). -/
def BaizeState.orderSwitch (b : BaizeState) (muslin : Bool) : BaizeState :=
  match b.switchTo with
  | some t =>
    let v := b.view t
    let ok := !v.failed && decide (v.missing < 3) && (match v.last with | some h => h.state == 1 || h.state == 4 | none => false) &&
      decide (b.active = some t.other)
    let k := if ok && muslin then 3 else 0
    let c : BaizeState := { b with viewA := { b.viewA with order := k }, viewB := { b.viewB with order := k } }
    if ok then c else { c with switchTo := none, reverting := false }
  | none => b

/-- The rows of 02 R49 in order at a Baize tick; with neither lane heard nothing changes (row 4, R70) (DEDUCED: log entry 37). -/
def BaizeState.judge (b : BaizeState) (home : Lane) : BaizeState :=
  if 3 ≤ b.viewA.missing ∧ 3 ≤ b.viewB.missing then b
  else
    let muslin := !b.linkDown
    let c := (b.watchActive.codes [AlarmOp.whileOn b.linkDown ⟨.ln, 21⟩ 0 0]).watchStandby
    ((c.countHoldoff home muslin).orderSwitch muslin).grant home

/-! ## Status frames (02 R48) -/

/-- The status frame to a lane. -/
def BaizeState.status (b : BaizeState) (l : Lane) : BaizeStatus :=
  ⟨bitsToNat [b.viewA.seenLast, b.viewB.seenLast, b.coresAgree, b.holdoff.isSome || (b.switchTo.isSome && b.reverting)],
   (match b.active with | some k => k.code | none => 0xFF), (b.view l).order, b.seq, b.frame⟩

/-- Both status frames are sent. -/
def BaizeState.sendStatus (b : BaizeState) : BaizeState :=
  { b with viewA := { b.viewA with out := (b.status .a).bytes }, viewB := { b.viewB with out := (b.status .b).bytes } }

/-! ## The Baize tick -/

/-- Calendar ticks (1/32 768 s) in frame n of 1 ms. -/
def calendarStep (n : Nat) : Nat := (n + 1) * 32768 / 1000 - n * 32768 / 1000

/-- A lane as the Baize knows it, at a Baize tick. -/
def LaneView.tick (v : LaneView) : LaneView :=
  { v with seenLast := v.seenNow, seenNow := false, missing := if v.seenNow then 0 else v.missing + 1 }

/-- Indices of the lane frame in which the Baize frame begins (02 R48). -/
def nextIndex (slot motion : Nat) : Nat × Nat := if slot = 19 then (0, (motion + 1) % 50) else (slot + 1, motion)

/-- The counts of a Baize tick. -/
def BaizeState.count (b : BaizeState) (inp : BaizeIn) : BaizeState :=
  let i := nextIndex b.slot b.motion
  ({ b with frame := (b.frame + 1) % 2 ^ 32, slot := i.1 % 20, motion := i.2 % 50, sinceReady := min 10000 (b.sinceReady + 1),
            coresAgree := inp.coresAgree, viewA := b.viewA.tick, viewB := b.viewB.tick,
            cal := { b.cal.advance (calendarStep (b.frame % 1000)) with cellOk := inp.cellOk } } : BaizeState).codes [AlarmOp.whileOn (!inp.cellOk) ⟨.tm, 14⟩ 2 0]

/-- The Baize's voter in a Baize frame (13 R384, R387, R393): it votes on its SAFE record, and not with its cores apart
(DEDUCED: log entry 80). -/
def BaizeState.vote (b : BaizeState) (g : PulseSource) (inp : BaizeIn) : BaizeState :=
  match b.safe with
  | some r =>
    let v : Voter := { b.voter with inputs := inp.safety.foldl (fun ins raw => sampleInputs r g raw ins) b.voter.inputs }
    let q := v.evaluate ⟨.baize, r, inp.safetyLate, inp.readback, inp.switchTest, b.slot, b.motion⟩
    let w := if b.slot = 0 ∧ b.motion = 0 then q.1.mission else q.1
    ({ b with voter := if b.coresAgree then w else { w with cmd := 0 } } : BaizeState).codes q.2
  | none => b

/-- BAIZE_TICK (02 R48, R49; 13 R384). -/
def execBaizeTick (inp : BaizeIn) (s : State) : Result :=
  .next (if s.baize.powered && s.baize.ready then
      let t := (s.onBaize fun b => ((b.count inp).vote s.pulse inp).pickSafe s.home).followMask
      (if t.refereed then t.onBaize fun b => b.judge t.home else t).onBaize BaizeState.sendStatus
    else s).reportLost

/-- BAIZE_READY (02 R48, R51): the Baize has supply and begins to count; its calendar clock has run on meanwhile
(04 R131, R136) (DEDUCED: log entry 50). -/
def execBaizeReady (s : State) : Result :=
  .next (if s.baize.powered && !s.baize.ready then
      s.tick.onBaize fun b => { b with ready := true, frame := 0, homeOnly := s.activeLane.isNone, sinceReady := 0, coresAgree := true,
                                       cal := b.cal.runOn (Config.freshNat s.fresh) }
    else s)

/-- HOME_ONLY_PERIOD_END (02 R51): 10 s after the Baize is ready; a lane that waits is granted (DEDUCED: log entry 46). -/
def execHomeOnlyPeriodEnd (s : State) : Result :=
  .next (if s.baize.ready && decide (10000 ≤ s.baize.sinceReady) then
      s.onBaize fun b =>
        let c : BaizeState := { b with homeOnly := false }
        (if s.refereed then c.grant s.home else c).sendStatus
    else s)

/-- REVERT_HOLDOFF_END (02 R61): the hold-off has run; the home lane is ordered to switch. -/
def execRevertHoldoffEnd (s : State) : Result :=
  .next (match s.baize.holdoff with
    | some n =>
      if s.refereed && decide (1000 * (s.lane s.home.other).role.revertHoldoff ≤ n) then
        s.onBaize fun b => ({ b with switchTo := some s.home, reverting := true, holdoff := none }.orderSwitch (!b.linkDown)).sendStatus
      else s
    | none => s)

/-- BAIZE_BUS_FRAME_SEEN (02 R49 row 6, R55): command traffic of a lane that is not active: transmit inhibit, LN-005. -/
def execBaizeBusFrameSeen (lane : Lane) (bus : Nat) (s : State) : Result :=
  .next (if s.refereed && decide (s.baize.active ≠ some lane) && !(s.baize.view lane).inhibit then
      s.onBaize fun b => (b.setView lane { b.view lane with inhibit := true }).codes [.raise ⟨.ln, 5⟩ lane.code bus]
    else s)

/-- TRANSMIT_INHIBIT_ASSERT (02 R55): 1 990 µs after the new active lane's first tick, on the former active lane. -/
def execTransmitInhibitAssert (lane : Lane) (s : State) : Result :=
  .next (if s.refereed && decide (s.baize.former = some lane) && decide (s.baize.active = some lane.other) &&
      (s.lane lane.other).active && decide (1 ≤ (s.lane lane.other).life.sinceActive) then
      s.onBaize fun b => { b.setView lane { b.view lane with inhibit := true } with former := none }
    else s)

/-! ## The switch (02 R56, R61, R71) -/

/-- COMMANDED_SWITCHOVER (02 R56): `lane` becomes ACTIVE and the active lane enters STANDBY, at the frame slot 0 tick, with
order 3 received by both. -/
def execCommandedSwitchover (lane : Lane) (s : State) : Result :=
  let x := s.lane lane
  let y := s.lane lane.other
  .next (if s.refereed ∧ s.baize.switchTo = some lane ∧ x.life.orderSwitch = true ∧ y.life.orderSwitch = true ∧ y.active = true ∧
      (x.life.state = .standby ∨ x.life.state = .isolated) ∧ y.frame.slot = 0 then
      let t := (s.setLane lane (x.becomeActive lane s.baize.reverting)).setLane lane.other (y.standDown x.imageDiffers)
      t.onBaize fun b =>
        { b with active := some lane, former := some lane.other, contacts := none, closing := some lane, switchTo := none, reverting := false,
                 holdoff := none, viewA := { b.viewA with order := 0 }, viewB := { b.viewB with order := 0 } }
    else s)

/-! ## Frames between the lanes and the Baize -/

/-- An abdication frame at the other lane (02 R50, R67): a standby of an unrefereed module takes over. -/
def LaneState.takeAbdication (x : LaneState) (h : Heartbeat) (unrefereed : Bool) : LaneState :=
  let y : LaneState := { x with peer := { x.peer with last := some h, missing := 0, seenNow := true } }
  if unrefereed = true ∧ y.life.state = .standby then { y with life := { y.life with orderTakeover := true } } else y

/-- An abdication frame at the Baize (02 R49 rows 1 and 5), checked as it arrives, with an extra status frame (R48). -/
def BaizeState.takeAbdication (b : BaizeState) (l : Lane) (home : Lane) (h : Heartbeat) : BaizeState :=
  let c := b.setView l { b.view l with last := some h, missing := 0, seenNow := true }
  (if b.active = some l then (c.declare l false).grant home
   else if (b.view l).failed then c else c.standbyFailed l).sendStatus

/-- ABDICATION_FRAME_RECEIVED (02 R49, R50, R67) (DEDUCED: log entry 42). -/
def execAbdicationFrameReceived (dest : Unit3) (bytes : Bytes) (s : State) : Result :=
  .next (match parseHeartbeat bytes with
    | none => s
    | some h =>
      let l : Lane := if h.lane = 0 then .a else .b
      match dest with
      | .lane d =>
        let x := s.lane d
        if l = d.other ∧ h.kind = 2 ∧ x.life.powered = true ∧ (x.muslin.serial0 || x.muslin.serial1) = true ∧
            abdicationValid x.peer.last x.peer.missing h = true then
          s.onLane d fun y => y.takeAbdication h s.unrefereed
        else s
      | .baize =>
        let v := s.baize.view l
        if h.kind = 2 ∧ s.refereed = true ∧ abdicationValid v.last v.missing h = true then s.onBaize fun b => b.takeAbdication l s.home h
        else s)

/-- What a lane does on a status frame (02 R40, R48): its orders (DEDUCED: log entry 38). -/
def LaneState.takeStatus (x : LaneState) (b : BaizeStatus) : LaneState :=
  let y : LaneState := { x with link := { x.link with last := some b, seenNow := true, coresAgree := b.flags.testBit 2 } }
  if y.link.absent || !y.link.coresAgree then y
  else if b.order = 2 ∧ y.active = true then y.enterFailed 0
  else
    { y with life := { y.life with orderTakeover := decide (b.order = 1 ∧ y.life.state = .standby),
                                   orderSwitch := decide (b.order = 3 ∧ y.runs = true) } }

/-- BAIZE_STATUS_RECEIVED (02 R48). -/
def execBaizeStatusReceived (lane : Lane) (bytes : Bytes) (s : State) : Result :=
  .next (match parseStatus bytes with
    | some b => s.onLane lane fun x => if x.life.powered then x.takeStatus b else x
    | none => s)

/-! ## Absence and return (02 R62, R66, R68, R69) -/

/-- A case of 02 R66 holds. -/
def BaizeLink.lostNow (k : BaizeLink) : Bool := decide (5 ≤ k.missing) || (k.last.isSome && !k.coresAgree) || decide (5 ≤ k.neither)

/-- The module is unrefereed: BZ-001, no inhibit, no revert, no order (02 R62, R66). -/
def State.enterUnrefereed (s : State) : State :=
  if s.unrefereed then
    let f := fun (x : LaneState) => x.codes [.hold ⟨.bz, 1⟩ 0 0, .clear ⟨.bz, 2⟩ 0]
    { s with laneA := f s.laneA, laneB := f s.laneB,
             baize := { s.baize with viewA := { s.baize.viewA with inhibit := false, order := 0 },
                                     viewB := { s.baize.viewB with inhibit := false, order := 0 },
                                     holdoff := none, switchTo := none, reverting := false, former := none } }
  else s

/-- BAIZE_ABSENT (02 R66): acts while a case holds for the lane. -/
def execBaizeAbsent (lane : Lane) (s : State) : Result :=
  .next (if (s.lane lane).frame.ticked && (s.lane lane).link.lostNow && !(s.lane lane).link.absent then
      (s.onLane lane fun x =>
        let y : LaneState := { x with link := { x.link with absent := true }, life := { x.life with orderTakeover := false, orderSwitch := false } }
        y.codes [AlarmOp.whileOn y.linkFailed ⟨.bz, 2⟩ 0 0]).enterUnrefereed
    else s)

/-- BAIZE_PRESENT_AGAIN (02 R69): both lanes have had 1 000 consecutive frames with a valid status and agreeing cores
(DEDUCED: log entry 46). -/
def execBaizePresentAgain (s : State) : Result :=
  .next (if s.baize.powered && s.baize.ready && (s.laneA.link.absent || s.laneB.link.absent) && decide (1000 ≤ s.laneA.link.good) &&
      decide (1000 ≤ s.laneB.link.good) then
      let f := fun (x : LaneState) => ({ x with link := { x.link with absent := false, neither := 0 } } : LaneState).codes
        [.clear ⟨.bz, 1⟩ 0, .clear ⟨.bz, 2⟩ 0]
      { s with laneA := f s.laneA, laneB := f s.laneB,
               baize := if s.unrefereed then
                   { s.baize with active := s.activeLane, contacts := s.connected, closing := none, holdoff := none,
                                  homeOnly := s.baize.homeOnly && s.activeLane.isNone }
                 else s.baize }
    else s)

end Sys2Proof.Machine
end

