-- ==== Sys2Proof/Machine/CmdCellar.lean ====
section
/-!
DEFINITION. Meanings of the commands of 03: key writes, flips, keys in the sockets, the key store, the maker.
-/

namespace Sys2Proof.Machine

/-- CELLAR_WRITE_OPEN (03 R97, R98). -/
def execCellarWriteOpen (lane : Lane) (msg : Msg) (bank length : Nat) (expected : Bytes) (s : State) : Result :=
  let x := s.lane lane
  .next (s.command lane msg
    (askInstaller 0x1310 0x100 (leBytes 1 (x.cellar.bank bank).state) (x.openRefused bank length expected)) fun t =>
      t.onLane lane fun y =>
        { y with cellar := { y.cellar with write := some ⟨bank, length, expected, 0, msg.session, 0, [], [], false, 0⟩ } })

/-- A chunk enters the transaction and the key. -/
def State.writeChunk (s : State) (l : Lane) (data : Bytes) : State :=
  let x := s.lane l
  match x.cellar.write, s.key l with
  | some w, some k =>
    let q := w.chunk k data
    (s.setLane l { x with cellar := { x.cellar with write := some q.1 } }).setKey l (some q.2)
  | _, _ => s

/-- CELLAR_WRITE_CHUNK (03 R98). -/
def execCellarWriteChunk (lane : Lane) (msg : Msg) (offset : Nat) (data : Bytes) (s : State) : Result :=
  let x := s.lane lane
  .next (s.command lane msg
    { askInstaller 0x1311 0x100 [] (x.chunkRefused msg.session offset data) with ledger := false }
    fun t => t.writeChunk lane data)

/-- The close: the sector of the header is written, the verification runs, the reply waits for it (03 R98, R100). -/
def State.closeWrite (s : State) (l : Lane) (seq : Nat) : State :=
  let x := s.lane l
  match x.cellar.write, s.key l with
  | some w, some k =>
    let y : LaneState := { x with cellar := { x.cellar with write := some { w with closing := true, closeSeq := seq } },
                                  ses := { x.ses with answers := x.ses.answers.dropLast } }
    (s.setLane l y).setKey l (some (w.finish k))
  | _, _ => s

/-- CELLAR_WRITE_CLOSE (03 R98, R100). -/
def execCellarWriteClose (lane : Lane) (msg : Msg) (s : State) : Result :=
  let x := s.lane lane
  let seq := match parseDatagram msg.bytes with | some d => d.seq | none => 0
  .next (s.command lane msg { askInstaller 0x1312 0x100 [] (x.ownerRefused msg.session) with ledger := false }
    fun t => t.closeWrite lane seq)

/-- CELLAR_VERIFY_COMPLETE (03 R100): acts while a verification runs. -/
def execCellarVerifyComplete (lane : Lane) (s : State) : Result :=
  .next (s.onLane lane fun x => x.verified (s.key lane) s.variant)

/-- CELLAR_WRITE_ABORT (03 R99). -/
def execCellarWriteAbort (lane : Lane) (msg : Msg) (s : State) : Result :=
  let x := s.lane lane
  .next (s.command lane msg { askInstaller 0x1313 0x100 [] (x.ownerRefused msg.session) with ledger := false }
    fun t => t.onLane lane fun y => y.abortWrite 0x02)

/-- CELLAR_WRITE_TIMEOUT (03 R99): acts once no chunk or close has come for write_timeout. -/
def execCellarWriteTimeout (lane : Lane) (s : State) : Result :=
  .next (s.onLane lane fun x =>
    match x.cellar.write with
    | some w => if !w.closing && decide (1000 * x.role.writeTimeout ≤ w.idle) then x.abortWrite 0x02 else x
    | none => x)

/-- A flip reaches the key and the lane's view of it (03 R82, R102). -/
def State.flip (s : State) (l : Lane) (bank keyId : Nat) : State :=
  let x := s.lane l
  match s.key l with
  | some k =>
    if bank = x.cellar.selected then s
    else
      let g := k.select.flipGen
      (s.setLane l { x with cellar := { x.cellar with selected := bank, generation := g } }).setKey l
        (some (k.flip bank keyId x.power.opHours x.attic.powerCycles))
  | none => s

/-- CELLAR_SELECT (03 R82, R102): a flip to the bank selected is accepted without a write and without an entry. -/
def execCellarSelect (lane : Lane) (msg : Msg) (bank : Nat) (s : State) : Result :=
  let x := s.lane lane
  let keyId := match x.ses.find msg.session with | some q => q.keyId | none => 0
  .next (s.command lane msg
    { askInstaller 0x1314 0x100 (leBytes 1 x.cellar.selected) (x.flipRefused bank) with
      ledger := bank != x.cellar.selected, new := some (leBytes 1 bank) }
    fun t => t.flip lane bank keyId)

/-- CELLAR_KEY_REMOVED (03 R80). -/
def execCellarKeyRemoved (lane : Lane) (s : State) : Result :=
  .next ((s.setKey lane none).onLane lane fun x =>
    if x.cellar.keyPresent then ({ x with cellar := { x.cellar with keyPresent := false } } : LaneState).raise ⟨.cl, 12⟩ 0 0 else x)

/-- CELLAR_KEY_INSERTED (03 R80): not read until the lane next starts. -/
def execCellarKeyInserted (lane : Lane) (key : Key) (s : State) : Result :=
  .next (s.setKey lane (some { key with cells := normalCells key.cells }))

/-- KEY_STORE_ADD (03 R106, R107). -/
def execKeyStoreAdd (lane : Lane) (msg : Msg) (signer : Bool) (keyId kind : Nat) (key : Bytes) (s : State) : Result :=
  let x := s.lane lane
  .next (s.command lane msg
    { askInstaller (namedObject msg) 0x1000 [] (x.addRefused msg signer keyId kind key) with new := some (leBytes 4 keyId) }
    fun t => t.onLane lane fun y =>
      match x.delivered msg signer key with
      | some k => ({ y with attic := y.attic.addKey signer keyId kind k } : LaneState).codes
          (if signer then [] else (y.role.stations.filter fun t => t.keyId == keyId).map fun t => .clear ⟨.cl, 14⟩ t.station)
      | none => y)

/-- KEY_STORE_REMOVE (03 R106, R107). -/
def execKeyStoreRemove (lane : Lane) (msg : Msg) (signer : Bool) (keyId : Nat) (s : State) : Result :=
  let x := s.lane lane
  .next (s.command lane msg
    { askInstaller (namedObject msg) 0x1000 (leBytes 4 keyId) (x.removeRefused signer keyId) with new := some [] }
    fun t => t.onLane lane fun y => { y with attic := y.attic.removeKey signer keyId })

/-! ## The maker (03 R106, R109, R110) -/

/-- MAKER_TOKEN_ENTRY (03 R109): valid when it is issued for this module and its challenge is answered
(DESIGN CHOICE: log entry 11). -/
def execMakerTokenEntry (lane : Lane) (serial : Nat) (token response : Bytes) (s : State) : Result :=
  .next (s.onLane lane fun x =>
    if serial = s.serial ∧ x.life.powered ∧ Config.makerTokenValid serial token response = true then
      { x with maker := { x.maker with token := true, link := true, entered := x.cal.ticks } }
    else x)

/-- MAKER_TOKEN_LAPSE (03 R109): the link drops, or 8 h have passed on the lane's calendar clock. -/
def execMakerTokenLapse (lane : Lane) (linkDrop : Bool) (s : State) : Result :=
  .next (s.onLane lane fun x =>
    if linkDrop then { x with maker := { x.maker with token := false, link := false } }
    else if x.maker.entered + 8 * 3600 * 32768 ≤ x.cal.ticks then { x with maker := { x.maker with token := false } }
    else x)

/-- Whether a maker's write may be made: the first installer key and the first signer key only where there is none
(03 R106); the maker region needs a key that can be read (03 R79). -/
def State.makerMay (s : State) (l : Lane) (op : MakerOp) : Bool :=
  let x := s.lane l
  match op with
  | .firmware _ | .trims _ | .factory _ => true
  | .keyRegion off data =>
    (match s.key l with | some k => k.readable | none => false) && decide (off + data.length ≤ 0x100000)
  | .firstInstaller _ key => !(x.attic.sessionKeys.any fun k => k.kind == 2) && decide (x.attic.sessionKeys.length < 16) && key.length == 32
  | .firstSigner _ key => x.attic.signerKeys.isEmpty && key.length == 32

/-- Old and new value of a maker's write in the ledger; of a key, its key ID alone (03 R110). -/
def LaneState.makerValues (x : LaneState) (op : MakerOp) : Bytes × Bytes :=
  match op with
  | .firmware d => (x.maker.firmware, d)
  | .trims d => (x.maker.trims, d)
  | .factory d => (x.maker.factory, d)
  | .keyRegion off d => (leBytes 4 off, d)
  | .firstInstaller keyId _ => ([], leBytes 4 keyId)
  | .firstSigner keyId _ => ([], leBytes 4 keyId)

/-- What a maker's write does. -/
def State.makerWrite (s : State) (l : Lane) (op : MakerOp) : State :=
  match op with
  | .firmware d => s.onLane l fun x => { x with maker := { x.maker with firmware := d } }
  | .trims d => s.onLane l fun x => { x with maker := { x.maker with trims := d } }
  | .factory d => s.onLane l fun x => { x with maker := { x.maker with factory := d } }
  | .keyRegion off d =>
    (match s.key l with
     | some k => s.setKey l (some ((k.erase (0x02010000 + off) d.length).write (0x02010000 + off) d))
     | none => s)
  | .firstInstaller keyId key => s.onLane l fun x => { x with attic := x.attic.addKey false keyId 2 key }
  | .firstSigner keyId key => s.onLane l fun x => { x with attic := x.attic.addKey true keyId 0 key }

/-- MAKER_COMMAND (03 R106, R109 to R111): with a valid token; the change is in the ledger before it takes effect. -/
def execMakerCommand (lane : Lane) (op : MakerOp) (s : State) : Result :=
  let x := s.lane lane
  .next (
    if x.maker.token && s.makerMay lane op then
      let v := x.makerValues op
      let r := x.record 3 2 0xFFFF 0xFFFFFFFF v.1 v.2
      let t := s.setLane lane r.1
      if r.2 then t.makerWrite lane op else t
    else s)

end Sys2Proof.Machine
end

