-- ==== Sys2Proof/Machine/CmdCtrl.lean ====
section
/-!
DEFINITION. Meanings of the commands of 08: mode, setpoint, gain bank, joystick, footprint, bias release, track, target
offset, and the events of joystick, track and target.
-/

namespace Sys2Proof.Machine

/-- An operator command of 08 R262 with its right and the state it acts on; refused with reason 0x08 in a module that is
not in command (08 R234), else with the reason given (0 none). -/
def askCtrl (x : LaneState) (object right : Nat) (old : Bytes) (reason : Nat) : Ask :=
  ⟨object, right, 1, true, old, none,
   if x.inCommand = false then some (stRefused, 8) else if reason = 0 then none else some (stRefused, reason)⟩

/-- An accepted command is published to slot 2 from the next frame (08 R233; 01 R23) (DESIGN CHOICE: log entry 22). -/
def LaneState.post (x : LaneState) (c : CtrlCmd) : LaneState :=
  { x with ctrl := { x.ctrl with cmds := x.ctrl.cmds ++ [(x.frame.number + 1, c)] } }

def State.post (s : State) (l : Lane) (c : CtrlCmd) : State := s.onLane l fun x => x.post c

def tripleBytes (v : V3) : Bytes := leF32 v.x ++ leF32 v.y ++ leF32 v.z

/-- CTRL_MODE (08 R244): refused with the reason of the mode's entry conditions; mode 8 needs rights bit 5. -/
def execCtrlMode (lane : Lane) (msg : Msg) (mode : Nat) (s : State) : Result :=
  let x := s.lane lane
  .next (s.command lane msg
    (askCtrl x 0x2201 (if mode = 8 ∨ x.ctrl.mode = 8 then 0x21 else 0x01) [BitVec.ofNat 8 x.ctrl.mode]
      (modeRefusal x.ctrlCtx x.ctrl mode))
    fun t => t.post lane (.mode mode))

/-- Reason a setpoint is refused with (08 R249): its kind, a generation more than one behind, a mode that takes none (log
entry 20), a move in mode 8 beyond gw_warn_radius (DEDUCED: log entry 20). -/
def setpointRefusal (v : LaneState) (kind gen : Nat) (x y : Option Rat) : Nat :=
  let c := v.ctrl
  let old := decide (gen ≠ v.obs.originGen)
  let goal := fun (q : Option Rat) (at_ sh : Rat) => match q with | some r => r + (if old then sh else 0) - at_ | none => 0
  let mx := if kind = 0 then goal x c.target.x v.obs.lastShift.x else x.getD 0
  let my := if kind = 0 then goal y c.target.y v.obs.lastShift.y else y.getD 0
  if 1 < kind then 0x0A
  else if kind = 0 ∧ gen ≠ v.obs.originGen ∧ (gen + 1) % 65536 ≠ v.obs.originGen then 0x0A
  else if c.mode = 0 ∨ c.mode = 1 ∨ c.mode = 5 ∨ c.mode = 6 then 0x04
  else if c.mode = 8 ∧ !within mx my (modeParam v.img.mode 8 4) then 0x07
  else 0

/-- CTRL_SETPOINT (08 R249) (DEDUCED: log entry 20). -/
def execCtrlSetpoint (lane : Lane) (msg : Msg) (kind gen : Nat) (x y h : Option Rat) (s : State) : Result :=
  let v := s.lane lane
  .next (s.command lane msg (askCtrl v 0x2202 1 (tripleBytes v.ctrl.target) (setpointRefusal v kind gen x y))
    fun t => t.post lane (.setpoint kind gen x y h))

/-- CTRL_GAIN_BANK (08 R242). -/
def execCtrlGainBank (lane : Lane) (msg : Msg) (bank : Nat) (s : State) : Result :=
  let x := s.lane lane
  .next (s.command lane msg
    (askCtrl x 0x2203 4 [BitVec.ofNat 8 x.ctrl.bank] (if bank < x.img.gain.length then 0 else 0x0A))
    fun t => t.post lane (.bank bank))

/-- CTRL_JOYSTICK (08 R246): a continuous input, not a change: no ledger entry (DEDUCED: log entry 73). -/
def execCtrlJoystick (lane : Lane) (msg : Msg) (x y z : Rat) (seq : Nat) (s : State) : Result :=
  let inside := fun (q : Rat) => decide (-1 ≤ q) && decide (q ≤ 1)
  .next (s.command lane msg
    { askCtrl (s.lane lane) 0x2204 1 [] (if inside x && inside y && inside z then 0 else 0x0A) with ledger := false }
    fun t => t.onLane lane fun v =>
      ({ v with ctrl := { v.ctrl with stick := ⟨x, y, z⟩, stickAge := some 0, stickSeq := seq } } : LaneState).clear ⟨.vc, 10⟩ 0)

/-- CTRL_FOOTPRINT (08 R250). -/
def execCtrlFootprint (lane : Lane) (msg : Msg) (cn ce : Option Rat) (radius : Rat) (s : State) : Result :=
  let v := s.lane lane
  .next (s.command lane msg
    (askCtrl v 0x2205 1 (leF32 v.ctrl.fpCentre.x ++ leF32 v.ctrl.fpCentre.y ++ leF32 v.ctrl.fpRadius)
      (if 0 < radius then 0 else 0x0A))
    fun t => t.post lane (.footprint cn ce radius))

/-- CTRL_BIAS_RELEASE (08 R248). -/
def execCtrlBiasRelease (lane : Lane) (msg : Msg) (s : State) : Result :=
  .next (s.command lane msg (askCtrl (s.lane lane) 0x2206 1 (tripleBytes (s.lane lane).ctrl.hold) 0) fun t => t.post lane .biasRelease)

/-- CTRL_TRACK_POINT (08 R251): a waypoint into the edit buffer; index and leg speed in range. -/
def execCtrlTrackPoint (lane : Lane) (msg : Msg) (n : Nat) (point : Waypoint) (s : State) : Result :=
  .next (s.command lane msg
    (askCtrl (s.lane lane) 0x2210 2 []
      (if n < 64 ∧ 1 / 100 ≤ point.speed ∧ point.speed ≤ (s.lane lane).img.mode.trackSpeedMax then 0 else 0x0A))
    fun t => t.onLane lane fun x => { x with ctrl := { x.ctrl with edit := x.ctrl.edit.set n (some point) } })

/-- CTRL_TRACK_COMMIT (08 R251): every waypoint below n must be written, and the origin must be set and not float (reason 0x09)
(DEDUCED: log entry 73). -/
def execCtrlTrackCommit (lane : Lane) (msg : Msg) (n : Nat) (s : State) : Result :=
  let x := s.lane lane
  let whole := decide (2 ≤ n) && decide (n ≤ 64) && (x.ctrl.edit.take n).all (·.isSome)
  .next (s.command lane msg (askCtrl x 0x2211 2 [BitVec.ofNat 8 x.ctrl.committed.length] (if !whole then 0x0A else if x.obs.floating || !x.obs.originSet then 0x09 else 0))
    fun t => t.post lane (.commit n))

/-- CTRL_TARGET_OFFSET (08 R253). -/
def execCtrlTargetOffset (lane : Lane) (msg : Msg) (x y : Rat) (s : State) : Result :=
  let v := s.lane lane
  .next (s.command lane msg (askCtrl v 0x2221 2 (leF32 v.ctrl.offset.x ++ leF32 v.ctrl.offset.y) 0) fun t => t.post lane (.offset x y))

/-- JOYSTICK_TIMEOUT (08 R246): acts once joystick_timeout has passed without a message. -/
def execJoystickTimeout (lane : Lane) (s : State) : Result :=
  .next (s.onLane lane fun x =>
    match x.ctrl.stickAge with
    | some a =>
      if x.img.mode.joystickTimeout ≤ a then
        let y : LaneState := { x with ctrl := { x.ctrl with stick := V3.zero, stickAge := none } }
        if x.img.mode.joystickSource = 0 ∧ (x.ctrl.mode = 1 ∨ x.ctrl.mode = 2) then y.raise ⟨.vc, 10⟩ 0 0 else y
      else x
    | none => x)

/-- CROSS_TRACK_TIMEOUT (08 R245 row 4): acts once the cross-track error has been above its limit for 10 s
(DESIGN CHOICE: log entry 21). -/
def execCrossTrackTimeout (lane : Lane) (s : State) : Result :=
  .next (s.onLane lane fun x => if x.ctrl.mode = 5 ∧ 500 ≤ x.ctrl.xteRun then x.fallBack else x)

/-- TARGET_LOST (08 R245 row 5, R253): acts once the target is lost or has been too fast. -/
def execTargetLost (lane : Lane) (s : State) : Result :=
  .next (s.onLane lane fun x =>
    if x.img.mode.targetLostTime ≤ x.ctrl.tracker.lostFrames ∨ 50 ≤ x.ctrl.tracker.fastRun then
      let y : LaneState := { x with ctrl := { x.ctrl with tracker := { x.ctrl.tracker with valid := false } } }
      if x.ctrl.mode = 6 then y.fallBack else y
    else x)

end Sys2Proof.Machine
end

