-- ==== Sys2Proof/Machine/CmdGnss.lean ====
section
/-!
DEFINITION. Meanings of the commands of 05: dumps, search hits, slots, antenna bias, messages, corrections, the other
lane's solution, timeouts, a front-end fault. An antenna operand is 0 or 1, the lane's first or second.
-/

namespace Sys2Proof.Machine

/-- The GNSS receiver of a lane changes, once its key check has passed (04 R126). -/
def State.onGnss (s : State) (l : Lane) (f : LaneState → GnssState → GnssState × List AlarmOp) : State :=
  s.onLane l fun x => if x.intake then x.withGnss (f x x.gnss) else x

def GnssState.onAnt (g : GnssState) (k : Nat) (f : AntennaState → AntennaState) : GnssState := g.setAnt k (f (g.ant k))

/-- GNSS_DUMP (05 R142, R143). -/
def execGnssDump (lane : Lane) (antenna : Nat) (obs : List DumpObs) (s : State) : Result :=
  .next (s.onGnss lane fun _ g => (g.onAnt antenna fun a => a.dump obs, []))

/-- Some aiding narrows the search of a signal (05 R148): tracked in state 3 on the other antenna, the other lane's heartbeat,
the observer within its dead-reckoning limit, an ephemeris set, module time. -/
def LaneState.aided (x : LaneState) (k signal svid : Nat) : Bool :=
  (x.gnss.ant (1 - k)).slots.any (fun t => decide (t.state = 3) && t.signal == signal && t.svid == svid) || x.hears ||
  (x.obs.status == 1 && !x.obs.limitPos) || (x.gnss.eph signal svid).isSome || decide (1 ≤ x.src.quality.code)

/-- Whether a signal is searched on an antenna (05 R146, R150): it qualifies and is not tracked there; a low-band signal is
acquired from its satellite tracked in the high band, BeiDou B1C with aiding (DEDUCED: log entry 63). -/
def LaneState.searches (x : LaneState) (l : Lane) (k signal svid : Nat) (elevation : Int) : Bool :=
  let a := x.gnss.ant k
  let healthy := match x.gnss.eph signal svid with | some e => e.healthy | none => true
  (antennaRec x.img.gnss (antennaNo l k)).isSome && qualifies x.img.gnss healthy signal elevation && !a.tracks signal svid &&
  (if signalLow signal then a.tracks (signal - 1) svid else decide (signal ≠ 0x21) || x.aided k signal svid)

/-- SEARCH_HIT (05 R145, R151) (DEDUCED: log entry 63). -/
def execSearchHit (lane : Lane) (antenna signal svid cn0 : Nat) (elevation channel : Int) (s : State) : Result :=
  .next (s.onGnss lane fun x g => (if x.searches lane antenna signal svid elevation then g.onAnt antenna fun a => a.hit x.img.gnss signal svid cn0 elevation channel else g, []))

/-- A slot goes idle where a case of 05 R144 holds. -/
def AntennaState.release (cfg : GnssRec) (slot : Nat) (a : AntennaState) : AntennaState :=
  { a with slots := modNth a.slots slot fun t => if t.releasable cfg then GnssSlot.idle else t }

/-- SLOT_RELEASE (05 R144). -/
def execSlotRelease (lane : Lane) (antenna slot : Nat) (s : State) : Result :=
  .next (s.onGnss lane fun x g => (g.onAnt antenna fun a => a.release x.img.gnss slot, []))

/-- ANTENNA_BIAS_FAULT (05 R141): acts once the bias current has been short or open for 10 motion cycles. -/
def execAntennaBiasFault (lane : Lane) (antenna : Nat) (s : State) : Result :=
  .next (s.onGnss lane fun _ g =>
    let a := g.ant antenna
    if 10 ≤ a.overRun ∨ 10 ≤ a.underRun then
      (g.onAnt antenna AntennaState.biasFault, [.raise ⟨.gn, 1⟩ antenna (if 10 ≤ a.overRun then 1 else 2)])
    else (g, []))

/-- ANTENNA_BIAS_RETRY (05 R141): a shorted bias is switched on again, 500 motion cycles after it went off. -/
def execAntennaBiasRetry (lane : Lane) (antenna : Nat) (s : State) : Result :=
  .next (s.onGnss lane fun _ g =>
    (g.onAnt antenna fun a => if a.biasShort && decide (500 ≤ a.offRun) then { a with biasOn := true, overRun := 0, offRun := 0 } else a, []))

/-- A message into the ring, and what it carries (05 R152 to R154, R158). -/
def GnssState.message (g : GnssState) (l : Lane) (n : NavIn) (now : Nat) : GnssState :=
  let mask := if n.kind = 1 then n.wordMask % 1024 else 0
  let st := navStatus n.kind n.headOk n.checkOk n.corrected n.wordMask
  let g1 := g.addNav ⟨g.navSeq, antennaNo l n.antenna, n.signal, n.svid, n.kind, n.timeS, n.timeNs, navBits n.kind, st, min 255 n.corrected, mask, n.bits⟩
  if st = 1 then g1
  else
    let g2 := match n.eph with
      | some e => if st = 3 then g1 else (g1.offerEph { e with acceptedAt := now } n.near).1
      | none => g1
    let g3 : GnssState := match n.leap with | some k => { g2 with leap := some k } | none => g2
    match n.sbasType with | some mt => g3.sbasMessage n.svid mt | none => g3

/-- Accepted ephemeris sets are written to the Attic (05 R154) (DEDUCED: log entry 66). -/
def LaneState.keepEphs (x : LaneState) : LaneState := if x.intake then { x with attic := { x.attic with ephs := x.gnss.ephs } } else x

/-- NAV_MESSAGE (05 R152, R154): GN-050 while more than a tenth of the signal's messages of 60 s failed. -/
def execNavMessage (lane : Lane) (nav : NavIn) (s : State) : Result :=
  .next ((s.onGnss lane fun x g =>
    let g' := g.message lane nav x.clock.s
    (g', [AlarmOp.whileOn (g'.navPoor nav.signal nav.svid) ⟨.gn, 50⟩ (256 * nav.signal + nav.svid) 0])).onLane lane LaneState.keepEphs)

/-- RTCM_FRAME_RECEIVED (05 R159). -/
def execRtcmFrameReceived (lane : Lane) (bytes : Bytes) (s : State) : Result :=
  .next (s.onGnss lane fun x g => (if x.img.gnss.rtcmSource = 0xFF then g else g.rtcm bytes, []))

/-- GNSS_PEER_SOLUTION_RECEIVED (05 R166): the other lane's solution and residuals, unless it is withheld (05 R167). -/
def execGnssPeerSolutionReceived (lane : Lane) (s : State) : Result :=
  let p := (s.lane lane.other).gnss
  .next (s.onGnss lane fun x g =>
    if (x.muslin.serial0 || x.muslin.serial1) && !p.withheld then ({ g with peer := some ⟨p.pvt, p.heading, p.residuals⟩, peerAge := 0 }, []) else (g, []))

/-- GNSS_SOLUTION_TIMEOUT (05 R171): acts after 250 epochs without a solution of mode 1 or better, after a first fix. -/
def execGnssSolutionTimeout (lane : Lane) (s : State) : Result :=
  .next (s.onGnss lane fun _ g => (g, AlarmOp.ifOn (g.firstFix && decide (250 ≤ g.noSolution)) ⟨.gn, 10⟩ 0 0))

/-- HEADING_FIX_TIMEOUT (05 R161): acts after 250 epochs without a fixed heading, after a first fix. -/
def execHeadingFixTimeout (lane : Lane) (s : State) : Result :=
  .next (s.onGnss lane fun _ g => (g, AlarmOp.ifOn (g.firstHeading && decide (250 ≤ g.noHeading)) ⟨.gn, 15⟩ 0 0))

/-- UNTRACKED_TIMEOUT (05 R151): acts after 60 mission cycles with untracked above 0. -/
def execUntrackedTimeout (lane : Lane) (antenna : Nat) (s : State) : Result :=
  .next (s.onGnss lane fun _ g => (g, AlarmOp.ifOn (decide (60 ≤ (g.ant antenna).untrackedRun)) ⟨.gn, 21⟩ antenna 0))

/-- A front end out of use: its band's slots go idle (05 R171). -/
def AntennaState.frontEndFault (a : AntennaState) (low : Bool) : AntennaState :=
  { a with highOk := a.highOk && low, lowOk := a.lowOk && !low,
           slots := a.slots.map fun t => if signalLow t.signal == low then GnssSlot.idle else t }

/-- GNSS_FRONT_END_FAULT (05 R171). -/
def execGnssFrontEndFault (lane : Lane) (antenna : Nat) (low : Bool) (s : State) : Result :=
  .next (s.onLane lane fun x =>
    x.withGnss (x.gnss.onAnt antenna fun a => a.frontEndFault low, [.raise ⟨.gn, 2⟩ (2 * antenna + b2n low) 0]))

end Sys2Proof.Machine
end

