-- ==== Sys2Proof/Machine/CmdLoop.lean ====
section
/-!
DEFINITION. Meanings of the commands of 10: following error, freeze, latch expiry, loop reset, output limit.
-/

namespace Sys2Proof.Machine

/-- The loop engine of a lane changes for one configured axis. -/
def State.onAxis (s : State) (l : Lane) (n : Nat) (f : LoopState → AxisRec → LoopState × List AlarmOp) : State :=
  s.onLane l fun x =>
    match x.img.axes.find? fun r => r.axis == n with
    | some r => x.withLoop (f x.loop r)
    | none => x

/-- FOLLOWING_ERROR_FAULT (10 R311): acts once the count has reached 8 fe_time. -/
def execFollowingErrorFault (lane : Lane) (axis : Nat) (s : State) : Result :=
  .next (s.onAxis lane axis fun p r => p.followingError r)

/-- FEEDBACK_FREEZE (10 R312): acts once the freeze run has reached 8 freeze_time (DESIGN CHOICE: log entry 21). -/
def execFeedbackFreeze (lane : Lane) (axis : Nat) (s : State) : Result :=
  .next (s.onAxis lane axis fun p r => p.freeze r)

/-- FE_LATCH_EXPIRY (10 R317): acts once fe_latch seconds have passed since the fault. -/
def execFeLatchExpiry (lane : Lane) (axis : Nat) (s : State) : Result :=
  .next (s.onAxis lane axis fun p r => (p.latchExpiry r, []))

/-- LOOP_RESET (10 R323): needs rights bit 0 (operator) or 10 (installer); without a pending latch accepted, without effect. -/
def execLoopReset (lane : Lane) (msg : Msg) (axis : Nat) (s : State) : Result :=
  let x := s.lane lane
  let rec? := x.img.axes.find? fun r => r.axis == axis
  let open_ := match rec? with | some r => (nth default x.loop.axes axis).pendingLatch r | none => false
  let installer := msg.port == 1
  .next (s.command lane msg
    ⟨0x3410, if installer then 0x400 else 1, if installer then 2 else 1, true, [BitVec.ofNat 8 axis], none,
     if rec?.isNone then some (stRefused, 1) else none⟩
    fun t =>
      let t' := t.onAxis lane axis fun p r => p.reset r
      match (if open_ then rec? else none) with
      | some r => t'.onLane lane fun y =>
          { y with can := { y.can with faultReset := if y.can.faultReset.contains r.actuator then y.can.faultReset
                                                      else r.actuator :: y.can.faultReset } }
      | none => t')

/-- OUT_LIMIT_TIMEOUT (10 R324): acts once OUT has been at its limit for 8 000 microframes. -/
def execOutLimitTimeout (lane : Lane) (axis : Nat) (s : State) : Result :=
  .next (s.onLane lane fun x =>
    if 8000 ≤ (nth default x.loop.axes axis).limitRun then x.raise ⟨.lp, 10⟩ axis 0 else x)

end Sys2Proof.Machine
end

