-- ==== Sys2Proof/Machine/CmdPartner.lean ====
section
/-!
DEFINITION. The partner link of a DP-3 pair (02 R73 to R77) and the shadow comparison fault (02 R57). What concerns the
module (command, requests, the newest message) stands alike in both lanes.
-/

namespace Sys2Proof.Machine

/-! ## Messages (02 R73) -/

/-- The 80 bytes of a partner message. -/
def PartnerMsg.bytes (p : PartnerMsg) : Bytes :=
  withCrc (leBytes 1 0x20 ++ leBytes 1 p.role ++ leBytes 1 p.flags ++ leBytes 1 p.activeLane ++ leBytes 4 p.seq ++
    p.laneStates.flatMap (leBytes 1) ++ leBytes 1 p.mode ++ leBytes 1 p.timeQuality ++ fit 12 p.pose ++ fit 12 p.velocity ++
    fit 12 p.demand ++ fit 12 p.setpoint ++ leBytes 4 p.actuators ++ leBytes 1 p.gainBank ++ zeros 3 ++ leBytes 8 p.frameNumber)

/-- A message whose CRC is correct. -/
def parsePartner (bs : Bytes) : Option PartnerMsg :=
  if bs.length = 80 ∧ crcOk bs = true ∧ fieldN bs 0 1 = 0x20 then
    some ⟨fieldN bs 1 1, fieldN bs 2 1, fieldN bs 3 1, fieldN bs 4 4, [fieldN bs 8 1, fieldN bs 9 1], fieldN bs 0x0A 1, fieldN bs 0x0B 1,
      slice bs 0x0C 12, slice bs 0x18 12, slice bs 0x24 12, slice bs 0x30 12, fieldN bs 0x3C 4, fieldN bs 0x40 1, fieldN bs 0x44 8⟩
  else none

/-- Whether a message is taken: a newer sequence, or the comparison restarts after 5 motion cycles. -/
def PartnerState.takes (p : PartnerState) (m : PartnerMsg) : Bool :=
  match p.last with | some q => newer 32 m.seq q.seq || decide (5 ≤ p.missing) | none => true

/-- Actuators available to the allocation. -/
def LaneState.actuatorMask (x : LaneState) : Nat :=
  sumN ((List.range 24).map fun i =>
    let m := (nth default x.alloc.acts i).mode
    if m = .allocated ∨ m = .ramp ∨ m = .turn then 2 ^ i else 0)

/-- The message a lane sends in frame slot 7. -/
def State.partnerMsg (s : State) (l : Lane) : PartnerMsg :=
  let x := s.lane l
  let p := x.partner
  { role := x.role.partnerRole, flags := bitsToNat [p.inCommand, p.request, p.releaseSent, p.forced],
    activeLane := (match s.activeLane with | some k => k.code | none => 0xFF), seq := p.seq,
    laneStates := [s.laneA.life.state.code, s.laneB.life.state.code], mode := x.ctrl.mode, timeQuality := x.src.quality.code,
    pose := leF32 x.obs.est.eta.x ++ leF32 x.obs.est.eta.y ++ leF32 (wrap360 (degQ x.obs.est.eta.z)),
    velocity := leF32 x.obs.est.nu.x ++ leF32 x.obs.est.nu.y ++ leF32 (degQ x.obs.est.nu.z), demand := leV3 x.ctrl.prev,
    setpoint := leV3 x.ctrl.target, actuators := x.actuatorMask, gainBank := x.ctrl.bank, frameNumber := x.frame.number }

/-- A lane in STANDBY or ACTIVE of a DP-3 module sends its message (02 R73). -/
def State.sendPartner (s : State) (l : Lane) : State :=
  let x := s.lane l
  if x.role.partnerRole ≠ 0 ∧ (x.life.state = .standby ∨ x.life.state = .active) then
    let t := s.onLane l fun y => { y with partner := { y.partner with seq := (y.partner.seq + 1) % 2 ^ 32 } }
    t.onLane l fun y => { y with partner := { y.partner with out := (t.partnerMsg l).bytes } }
  else s

/-! ## Command of the vessel (02 R74 to R77) -/

/-- Both lanes of the module hold what concerns the module (DEDUCED: log entry 44). -/
def State.onPartner (s : State) (f : PartnerState → PartnerState) : State :=
  { s with laneA := { s.laneA with partner := f s.laneA.partner }, laneB := { s.laneB with partner := f s.laneB.partner } }

/-- Causes of LN-052: released to, forced, main lost, stale partner state (DESIGN CHOICE: log entry 29). -/
def causeReleased : Nat := 0
def causeForced : Nat := 1
def causeMainLost : Nat := 2
def causeStale : Nat := 3

/-- A code in every lane that runs. -/
def State.runningCodes (s : State) (ops : List AlarmOp) : State :=
  let f := fun (x : LaneState) => if x.runs then x.codes ops else x
  { s with laneA := f s.laneA, laneB := f s.laneB }

/-- This module takes command: LN-052, with a message older than 2 motion cycles "stale partner state" (02 R74, R75). -/
def State.takeCommand (s : State) (l : Lane) (cause : Nat) (forced : Bool) : State :=
  let stale := decide (2 < (s.lane l).partner.newestAge) || (s.lane l).partner.newestMsg.isNone
  (s.onPartner fun p => { p with inCommand := true, forced := forced, request := false, requestAge := 0, forcePending := false,
                                 takePending := false, releasePending := false, releaseSent := false, lostRun := 0 }).runningCodes
    [.raise ⟨.ln, 52⟩ 0 (if stale then causeStale else cause)]

/-- PARTNER_TAKE_COMMAND (02 R75): 1 requests command, 2 forces it at the next motion-cycle boundary; rights bit 4. -/
def execPartnerTakeCommand (lane : Lane) (msg : Msg) (value : Nat) (s : State) : Result :=
  let x := s.lane lane
  .next (s.command lane msg
    ⟨0x1031, 0x10, 1, true, leBytes 1 (b2n x.inCommand), none,
     if ¬(value = 1 ∨ value = 2) then some (stMalformed, 0) else if x.inCommand then some (stRefused, 0) else none⟩
    fun t => t.onPartner fun p =>
      if value = 1 then { p with request := true, requestAge := 0 } else { p with forcePending := true })

/-- What the flags of a partner message ask of this module (02 R75) (DESIGN CHOICE: log entry 45). -/
def PartnerState.obey (p : PartnerState) (m : PartnerMsg) : PartnerState :=
  let q : PartnerState := { p with newestMsg := some m, newestAge := 0, releaseSent := p.releaseSent && !m.flags.testBit 0 }
  let q : PartnerState := if m.flags.testBit 1 && q.inCommand then { q with releasePending := true } else q
  if m.flags.testBit 2 && q.request && !q.inCommand then { q with takePending := true } else q

/-- PARTNER_MESSAGE_RECEIVED (02 R73, R75) (DEDUCED: log entry 44). -/
def execPartnerMessageReceived (lane : Lane) (bytes : Bytes) (s : State) : Result :=
  let x := s.lane lane
  .next (match parsePartner bytes with
    | some m =>
      if x.runs = true ∧ x.role.partnerRole ≠ 0 ∧ x.partner.takes m = true then
        let t := s.onLane lane fun y => { y with partner := { y.partner with last := some m, missing := 0 } }
        let u := t.onPartner fun p => p.obey m
        u.runningCodes ([.clear ⟨.ln, 51⟩ 0] ++
          (if (s.lane lane.other).partner.missing < 5 then [.clear ⟨.ln, 50⟩ 0] else []))
      else s
    | none => s)

/-- PARTNER_REQUEST_LAPSE (02 R75): acts when no release has arrived within 5 motion cycles. -/
def execPartnerRequestLapse (lane : Lane) (s : State) : Result :=
  let p := (s.lane lane).partner
  .next (if p.request && decide (5 ≤ p.requestAge) && !p.takePending then
      s.onPartner fun q => { q with request := false, requestAge := 0 } else s)

/-- PARTNER_MESSAGES_LOST (02 R76, R78): one fibre silent for 5 motion cycles is LN-050, both LN-051. -/
def execPartnerMessagesLost (lane : Lane) (s : State) : Result :=
  let x := s.lane lane
  .next (if x.role.partnerRole ≠ 0 ∧ 5 ≤ x.partner.missing then
      s.runningCodes (if 5 ≤ (s.lane lane.other).partner.missing then [.clear ⟨.ln, 50⟩ 0, .hold ⟨.ln, 51⟩ 0 0]
        else [.hold ⟨.ln, 50⟩ 0 0])
    else s)

/-- PARTNER_AUTO_TAKEOVER (02 R76): the backup module, with partner_auto, after 5 motion cycles without a message on either
fibre and with partner_di off. -/
def execPartnerAutoTakeover (lane : Lane) (s : State) : Result :=
  let x := s.lane lane
  .next (if x.active = true ∧ x.role.partnerRole = 2 ∧ x.role.partnerAuto = 1 ∧ x.partner.inCommand = false ∧ 5 ≤ x.partner.lostRun then
      (s.onPartner fun p => { p with inCommand := true, forced := false, request := false, takePending := false, forcePending := false,
                                     lostRun := 0 }).runningCodes [.raise ⟨.ln, 52⟩ 0 causeMainLost]
    else s)

/-- Level of partner_di, off where none is wired (02 R72) (DESIGN CHOICE: log entry 45). -/
def LaneState.partnerDi (x : LaneState) : Bool := decide (x.role.partnerDi < 16) && nth false x.analog.latched x.role.partnerDi

/-- A motion cycle of a lane's fibre. -/
def PartnerState.cycle (p : PartnerState) : PartnerState := { p with missing := satInc 16 p.missing }

/-- The counts of the module in a motion cycle (02 R74 to R76) (DEDUCED: log entry 44). -/
def PartnerState.moduleCycle (lost : Bool) (p : PartnerState) : PartnerState :=
  { p with newestAge := satInc 16 p.newestAge, requestAge := if p.request then satInc 16 p.requestAge else 0,
           lostRun := if lost then min 5 (p.lostRun + 1) else 0 }

/-- The motion-cycle boundary in the active lane of a DP-3 module (02 R75, R77): a release or a taking of command that waits
comes about; both modules in command is LN-053, upon which a backup module releases at its next boundary. -/
def State.partnerBoundary (s : State) (l : Lane) : State :=
  let x := s.lane l
  if x.active = true ∧ x.role.partnerRole ≠ 0 then
    let lost := decide (1 ≤ s.laneA.partner.missing) && decide (1 ≤ s.laneB.partner.missing) && !x.partnerDi
    let t := s.onPartner (PartnerState.moduleCycle lost)
    let p := x.partner
    let u :=
      if p.forcePending then t.takeCommand l causeForced true
      else if p.takePending then t.takeCommand l causeReleased false
      else if p.releasePending && p.inCommand then
        (t.onPartner fun q => { q with inCommand := false, forced := false, releasePending := false, releaseSent := true }).runningCodes
          [.clear ⟨.ln, 53⟩ 0]
      else t
    let both := (u.lane l).partner.inCommand && x.partnerDi
    let v := u.runningCodes [AlarmOp.whileOn both ⟨.ln, 53⟩ 0 0]
    if both && decide (x.role.partnerRole = 2) && !(u.lane l).partner.forced then v.onPartner fun q => { q with releasePending := true } else v
  else s

/-! ## Shadow comparison (02 R57) -/

/-- SHADOW_COMPARISON_FAULT (02 R57): acts after 250 motion cycles outside the limits; readiness is kept. -/
def execShadowComparisonFault (lane : Lane) (s : State) : Result :=
  .next (s.onLane lane fun x => if 250 ≤ x.health.shadowRun then x.codes [.hold ⟨.ln, 40⟩ 0 0] else x)

end Sys2Proof.Machine
end

