-- ==== Sys2Proof/Machine/CmdPower.lean ====
section
/-!
DEFINITION. Meanings of the commands of 04 that concern supply and calendar clocks: feeds, voltages, claims, the end of the
hold-up, a clock that stops.
-/

namespace Sys2Proof.Machine

/-! ## Feeds (04 R115 to R118) -/

def PowerState.setFeed (p : PowerState) (n : Nat) (f : Feed) : PowerState := if n = 2 then { p with feed2 := f } else { p with feed1 := f }

/-- The Baize takes supply from any GOOD feed (02 R35): without one it begins anew, with its calendar clock. -/
def State.feedBaize (s : State) : State :=
  if s.baize.powered then s
  else s.onBaize fun b => { (default : BaizeState) with powered := true, cal := b.cal, voter := Voter.blank, coresAgree := true, homeOnly := true }

/-- FEED_GOOD (04 R115): in range for 20 ms. -/
def execFeedGood (lane : Lane) (feed reading : Nat) (s : State) : Result :=
  .next (if ((s.lane lane).power.feed feed).good = true ∨ ¬(feed = 1 ∨ feed = 2) then s
    else
      (s.onLane lane fun x =>
        let p : PowerState := { x.power.setFeed feed ⟨true, reading⟩ with onHoldup := false, inRun := x.power.inRun.set (feed - 1) 0 }
        let y : LaneState := { x with power := p }
        if y.life.powered then y.clear ⟨.pw, 1⟩ feed else y).feedBaize)

/-- The Attic flush (04 R120, R124; 16 R475): operating hours with their fraction, the staged entries, then write-protection
(DEDUCED: log entry 50). -/
def LaneState.flush (x : LaneState) : LaneState :=
  { x with attic := { x.attic with opHours := x.power.opHours, opFrac := x.power.opFrac },
           larder := (x.larder.writeStaged x.power.opHours x.attic.powerCycles).describe x.power.opHours x.attic.powerCycles,
           power := { x.power with writeProtected := true } }

/-- PW-005: both feeds of a lane lost three times within 600 s by its calendar clock (04 R125). -/
def LaneState.noteBothLost (x : LaneState) : LaneState :=
  let ts := (x.cal.ticks :: x.power.bothLost).filter fun t => decide (x.cal.ticks < t + ticks600)
  let y : LaneState := { x with power := { x.power with bothLost := ts.take 8, powerUpNext := true, onHoldup := true } }
  if 3 ≤ ts.length then y.raise ⟨.pw, 5⟩ 0 0 else y

/-- What the loss of a feed does to a lane (04 R115, R117, R118) (DEDUCED: log entries 50, 52). -/
def LaneState.loseFeed (x : LaneState) (feed reading : Nat) : LaneState :=
  let claimed := if feed = 2 then x.attic.claim2 else x.attic.claim1
  let p : PowerState := { x.power.setFeed feed ⟨false, reading⟩ with losses := satInc 16 x.power.losses }
  let y : LaneState := { x with power := p }
  if y.life.powered then
    y.codes (AlarmOp.ifOn claimed ⟨.pw, 1⟩ feed 0 ++ [.clear ⟨.pw, 2⟩ feed, .clear ⟨.pw, 3⟩ feed])
  else y

/-- FEED_LOST (04 R115, R124): the loss of both feeds makes the lane abdicate with cause 0x0005, then flush. -/
def execFeedLost (lane : Lane) (feed reading : Nat) (s : State) : Result :=
  .next (if ((s.lane lane).power.feed feed).good = true ∧ (feed = 1 ∨ feed = 2) then
      let t := s.onLane lane fun x => x.loseFeed feed reading
      if (t.lane lane).life.powered ∧ (t.lane lane).powerFail = true then
        ((t.onLane lane LaneState.noteBothLost).fail lane 0x0005).onLane lane LaneState.flush
      else t
    else s)

/-- FEED_LOW_VOLTAGE (04 R117): a GOOD feed has read below 8.0 V for 1 s. -/
def execFeedLowVoltage (lane : Lane) (feed : Nat) (s : State) : Result :=
  .next (s.onLane lane fun x => if x.life.powered && (x.power.feed feed).good then x.codes [.hold ⟨.pw, 2⟩ feed 0] else x)

/-- FEED_HIGH_VOLTAGE (04 R117): a GOOD feed has read above 72 V for 1 s. -/
def execFeedHighVoltage (lane : Lane) (feed : Nat) (s : State) : Result :=
  .next (s.onLane lane fun x => if x.life.powered && (x.power.feed feed).good then x.codes [.hold ⟨.pw, 3⟩ feed 0] else x)

/-- The four claims as the mask of 04 R118 has them. -/
def State.claims (s : State) : Nat := bitsToNat [s.laneA.attic.claim1, s.laneA.attic.claim2, s.laneB.attic.claim1, s.laneB.attic.claim2]

/-- Refusal of a mask: more than four bits, or a lane left without a claimed feed (04 R118). -/
def claimRefused (mask : Nat) : Option (Nat × Nat) :=
  if 15 < mask then some (stMalformed, 0) else if mask % 4 = 0 ∨ mask / 4 = 0 then some (stRefused, 1) else none

/-- POWER_CLAIM (04 R118): the lane stores the bits of its own two feeds (DEDUCED: log entry 51). -/
def execPowerClaim (lane : Lane) (msg : Msg) (mask : Nat) (s : State) : Result :=
  .next (s.command lane msg (askInstaller 0x1401 0x400 (leBytes 1 s.claims) (claimRefused mask)) fun t =>
    t.onLane lane fun x =>
      let own := if lane = .a then mask % 4 else mask / 4
      ({ x with attic := { x.attic with claim1 := own.testBit 0, claim2 := own.testBit 1 } } : LaneState).claimCodes)

/-! ## The end of the hold-up (04 R124, R125) -/

/-- A lane whose rails are down: what its FRAM, its clock and its surroundings hold stays (DEDUCED: log entry 50). -/
def LaneState.unpower (x : LaneState) : LaneState :=
  { LaneState.reset with
    power := { x.power with regulated := false, onHoldup := false, powerUpNext := true }, cal := x.cal, attic := x.attic, ledger := x.ledger
    larder := { x.larder with staging := [], insts := [], retry := [] }, maker := { x.maker with token := false, link := false }
    muslin := { MuslinState.blank with serial0 := x.muslin.serial0, serial1 := x.muslin.serial1 }
    net := { NetState.blank with lanA := { (default : Port) with link := x.net.lanA.link, tokens := 65536 }
                                 lanB := { (default : Port) with link := x.net.lanB.link, tokens := 65536 }
                                 service := { (default : Port) with link := x.net.service.link, tokens := 65536 }
                                 partner := { (default : Port) with link := x.net.partner.link, tokens := 65536 } } }

/-- Without the rails of either lane the panel controller stands (17 R488). -/
def State.starveCanvas (s : State) : State :=
  if s.laneA.power.regulated || s.laneB.power.regulated then s else { s with canvas := s.canvas.restart }

/-- RAILS_RAMP_DOWN (04 R124, R125): 30 ms after a lane's feeds are lost, 50 ms after all four for the Baize
(DEDUCED: log entry 50). -/
def execRailsRampDown (part : Unit3) (s : State) : Result :=
  .next (match part with
    | .lane l =>
      if (s.lane l).life.powered && (s.lane l).powerFail then (s.onLane l LaneState.unpower).starveCanvas.reportLost else s
    | .baize =>
      if s.baize.powered && s.laneA.powerFail && s.laneB.powerFail then
        (s.onBaize fun b => { (default : BaizeState) with cal := b.cal, voter := Voter.blank }).reportLost
      else s)

/-- CALENDAR_OSCILLATOR_STOP (04 R131): the valid flag clears. -/
def execCalendarOscillatorStop (clock : Unit3) (s : State) : Result :=
  .next (match clock with
    | .lane l => s.onLane l fun x => { x with cal := { x.cal with valid := false } }
    | .baize => s.onBaize fun b => { b with cal := { b.cal with valid := false } })

end Sys2Proof.Machine
end

