-- ==== Sys2Proof/Machine/Slices.lean ====
section
/-!
DEFINITION. The slices of the Twill schedule (01 R23, R523): what each one does in its lane for the frame that ends. A slice
reads what stood at the tick of its frame and what slices before it on its core have written.
-/

namespace Sys2Proof.Machine

/-! ## Motion pair: GNSS and references (05 R155 to R168; 06 R174, R175, R186) -/

/-- An antenna at the slot-0 slice: bias current, slots' low-signal runs (05 R141, R144). -/
def AntennaState.atSlice (cfg : GnssRec) (no ma : Nat) (a : AntennaState) : AntennaState :=
  let b := match antennaRec cfg no with | some r => a.biasCycle r ma | none => a
  { b with latched := b.latched.map (GnssSlot.cycle cfg) }

/-- GN-001 and GN-021 end with their conditions. -/
def AntennaState.endCodes (n : Nat) (a : AntennaState) : List AlarmOp :=
  (if a.biasShort || a.biasOpen then [] else [.clear ⟨.gn, 1⟩ n]) ++ (if a.leftOut.isEmpty then [.clear ⟨.gn, 21⟩ n] else [])

/-- Slice 0x0101 (DESIGN CHOICE: log entry 65). -/
def LaneState.gnssSlice (x : LaneState) (l : Lane) (inp : GnssIn) : LaneState :=
  let cfg := x.img.gnss
  let g : GnssState := { x.gnss with ant0 := x.gnss.ant0.atSlice cfg (antennaNo l 0) inp.bias0Ma,
                                     ant1 := x.gnss.ant1.atSlice cfg (antennaNo l 1) inp.bias1Ma }
  let r := g.epoch (x.gnssCtx l) inp
  let poor := (x.alarms.filter fun a => decide (a.code = ⟨.gn, 50⟩) && !r.1.navPoor (a.item / 256) (a.item % 256)).map fun a =>
    AlarmOp.clear a.code a.item
  x.withGnss (r.1, r.2 ++ r.1.ant0.endCodes 0 ++ r.1.ant1.endCodes 1 ++ poor)

/-- The measurement an internal position reference yields (06 R175, R187). -/
def Pvt.measurement (p : Pvt) (r : RefRec) (arrival : Nat) : Option Measurement :=
  if 1 ≤ p.mode ∧ p.mode ≤ 4 then
    some ⟨arrival, timeNs p.epochS p.epochNs, .geo p.latitude p.longitude p.sigmaH, decide (p.sigmaH ≤ r.rangeB), false, false, false,
      some ⟨p.velocity.x, p.velocity.y⟩⟩
  else none

/-- The measurement an internal heading reference yields. -/
def GnssHeading.measurement (h : GnssHeading) (arrival : Nat) : Option Measurement :=
  if h.status = 2 then
    some ⟨arrival, timeNs h.epochS h.epochNs, .heading h.heading h.sigmaHeading, decide (0 ≤ h.heading ∧ h.heading < 360), false, false,
      false, none⟩
  else none

/-- The other lane's solution may be tested (06 R174): Muslin up, its state STANDBY, ACTIVE or ISOLATED, received since the
last slice. -/
def LaneState.peerSolution (x : LaneState) : Option PeerSolution :=
  let up := match x.peer.last with | some h => h.state == 1 || h.state == 2 || h.state == 4 | none => false
  if x.muslinFailed = false ∧ up = true ∧ x.gnss.peerAge ≤ 1 then x.gnss.peer else none

/-- What an internal reference measures in this motion cycle: of the lane's own receiver, or of the other lane's. -/
def LaneState.internal (x : LaneState) (l : Lane) (r : RefRec) : Option Measurement :=
  let own := decide (x.gnss.pvt.epochS = x.gnss.epochS ∧ x.gnss.pvt.epochNs = x.gnss.epochNs)
  if r.format ≠ 0x20 ∨ r.flags.testBit 0 = false then none
  else if r.source = 0x40 + l.code then (if own then x.gnss.pvt.measurement r x.nowNs else none)
  else if r.source = 0x50 + l.code then (if own then x.gnss.heading.measurement x.nowNs else none)
  else if r.source = 0x40 + l.other.code then x.peerSolution.bind fun p => p.pvt.measurement r x.nowNs
  else if r.source = 0x50 + l.other.code then x.peerSolution.bind fun p => p.heading.measurement x.nowNs
  else none

/-- The internal references are offered to the tests. -/
def LaneState.offerInternal (x : LaneState) (l : Lane) : LaneState :=
  x.refRecs.foldl (fun (y : LaneState) r =>
    match y.internal l r with
    | some m => { y with refs := y.refs.modRef r.refId fun s => { s with due := some m } }
    | none => y) x

/-- A floating origin is fixed by the first geographic measurement (07 R203) (DEDUCED: log entry 67). -/
def LaneState.fixFloating (x : LaneState) (l : Lane) : LaneState :=
  let c := x.refsCtx l
  match floatingFix c x.refs with
  | some (r, m) => { x with obs := x.obs.fixOrigin c x.refs.attitudes r m }
  | none => x

/-- Slice 0x0102. -/
def LaneState.refsSlice (x : LaneState) (l : Lane) : LaneState :=
  let y := (x.offerInternal l).fixFloating l
  y.withRefs (y.refs.slice (y.refsCtx l))

/-! ## Motion pair: observer, control, wave spectrum -/

/-- The lane's own tests hold a reference of a kind, accepted and selected; the other lane's GNSS does not count (04 R129). -/
def LaneState.ownHeld (x : LaneState) (l : Lane) (kind : Nat) : Bool :=
  x.refRecs.any fun r =>
    let s := nth default x.refs.refs r.refId
    r.kind == kind && s.mode == .accepted && s.selected && r.source != 0x40 + l.other.code && r.source != 0x50 + l.other.code

/-- Eligibility (04 R129). -/
def LaneState.judgeEligible (x : LaneState) (l : Lane) : LaneState :=
  let lost := x.obs.limitPos || x.obs.limitHdg
  { x with eligible := if lost ∨ x.obs.status = 0 then false else x.eligible || (x.obs.status == 1 && x.ownHeld l 1 && x.ownHeld l 2) }

/-- Slice 0x0103. -/
def LaneState.obsSlice (x : LaneState) (l : Lane) : LaneState :=
  let y := x.withObs (x.obs.update (x.obsCtx (x.alloc.delivered x.allocCtx)))
  let z : LaneState := if x.obs.status = 1 then { y with refs := y.refs.offersTaken } else y
  z.judgeEligible l

/-- Slice 0x0104; the track and target geometry of slice 0x0105 is part of it. -/
def LaneState.ctrlSlice (x : LaneState) : LaneState := x.withCtrl (x.ctrl.slice x.ctrlCtx)

/-- Slice 0x0107. -/
def LaneState.waveSlice (x : LaneState) : LaneState := x.withObs (x.obs.adaptWaves x.img.vmod)

/-! ## Duty pair: allocation and consequence analysis -/

/-- Number that no problem block carries: no result is expected (01 R28). -/
def noProblem : Nat := 2 ^ 32

/-- Slice 0x0112: the axes' marks of a passage through SAFE have been read. -/
def LaneState.setupSlice (x : LaneState) : LaneState :=
  let y := x.withAlloc (x.alloc.pose x.allocCtx)
  { y with loop := { y.loop with axes := y.loop.axes.map fun a => { a with tripped := false } } }

/-- Slice 0x0114: a lane that follows takes its axis setpoints from the copy (02 R46). -/
def LaneState.checkSlice (x : LaneState) : LaneState :=
  let y := x.withAlloc (x.alloc.check x.allocCtx)
  if y.active || !y.hasCopy then { y with loop := y.loop.writeSetpoints y.img.axes y.alloc.acts (y.alloc.late y.allocCtx) } else y

/-- The failure group of a motion index. -/
def LaneState.group (x : LaneState) : Option FailGroup :=
  match x.img.fgrp with
  | some fs => if x.frame.motion < 40 then fs.find? fun f => f.group == x.frame.motion else none
  | none => none

/-- The demand of consequence analysis (08 R257). -/
def LaneState.consDemand (x : LaneState) : V3 := V3.scale ((x.img.mode.consMargin : Rat) / 100) x.ctrl.demandMean

/-- Slice 0x0116. -/
def LaneState.consSlice (x : LaneState) : LaneState :=
  match x.group with
  | some g =>
    if 2 ≤ x.ctrl.mode then
      { x with alloc := x.alloc.poseGroup x.allocCtx g x.consDemand,
               ctrl := { x.ctrl with groups := modNth x.ctrl.groups g.group fun r => { r with posed := true } } }
    else { x with alloc := { x.alloc with consSeq := none } }
  | none => { x with alloc := { x.alloc with consSeq := none } }

/-- Slice 0x0117: the group's result, and at motion index 49 the verdict (08 R258). -/
def LaneState.judgeSlice (x : LaneState) : LaneState :=
  let y : LaneState := match x.alloc.judged x.allocCtx with
    | some (g, ach, residual) =>
      let d := x.alloc.consDemand
      let short : V3 := ⟨d.x - ach.x, d.y - ach.y, d.z - ach.z⟩
      { x with ctrl := { x.ctrl with groups := modNth x.ctrl.groups g fun r => r.judge (groupFails x.img.mode.consTol d ach residual) short },
               alloc := { x.alloc with consSeq := none } }
    | none => x
  if y.frame.motion = 49 then y.withCtrl (y.ctrl.verdictStep y.img.fgrp y.img.mode.consPersist) else y

/-- Slice 0x0118. -/
def LaneState.sectorSlice (x : LaneState) : LaneState := x.withAlloc (x.alloc.chooseArcs x.allocCtx)

/-! ## Duty pair: the Larder (16 R469, R473) -/

/-- Samples of a motion cycle in a lane that is ACTIVE. -/
def LaneState.activeSamples (x : LaneState) : List (Nat × Nat × Rat) :=
  let m := x.ctrl.mode
  (if 3 ≤ m ∧ m ≤ 8 then [(0x01, m - 3, hypotQ x.ctrl.err.x x.ctrl.err.y), (0x02, m - 3, absQ x.ctrl.err.z)] else []) ++
  (x.img.thru.filterMap fun t =>
    let a := x.alloc.act t.actuator
    if a.working && t.tMax != 0 then some (0x03, t.actuator, 100 * hypotQ a.f0.x a.f0.y / t.tMax) else none) ++
  (x.img.aloc.groups.filterMap fun g =>
    let limit := nth 0 x.alloc.limits g.group
    if limit = 0 then none
    else some (0x04, g.group, 100 * sumQ ((x.img.thru.filter fun t => t.powerGroup == g.group).map fun t => x.actPower t.actuator) / limit))

/-- Samples of motion index 0: signal strengths. -/
def LaneState.signalSamples (x : LaneState) : List (Nat × Nat × Rat) :=
  [0, 1].flatMap fun k => ((x.gnss.ant k).slots.filter fun s => s.state == 3).map fun s => (0x05, k, (s.cn0 : Rat) / 100)

/-- Samples of a mission cycle from the supervisor. -/
def Ambient.samples (a : Ambient) : List (Nat × Nat × Rat) :=
  [(0x11, 0, (a.min1 : Rat) / 100), (0x11, 0, (a.max1 : Rat) / 100), (0x11, 1, (a.min2 : Rat) / 100), (0x11, 1, (a.max2 : Rat) / 100),
   (0x12, 0, (a.plateTemp : Rat) / 10)]

def LaneState.samples (x : LaneState) (qs : List (Nat × Nat × Rat)) : LaneState :=
  qs.foldl (fun (y : LaneState) q => y.sampleItem q.1 q.2.1 q.2.2) x

/-- What the writer did is taken: the descriptor follows, and a failed read-back raises LA-020 (16 R473). -/
def LaneState.larderWrote (x : LaneState) (l : LarderState) : LaneState :=
  let y : LaneState := { x with larder := l.describe x.power.opHours x.attic.powerCycles }
  if l.failing = true ∧ l.records ≠ x.larder.records then y.raise ⟨.la, 20⟩ 0 0 else y

/-- Samples of a frame: the following error of every axis in RUN (16 R469). -/
def LaneState.sampleAxes (x : LaneState) : LaneState :=
  x.samples (x.img.lpmc.filterMap fun p =>
    let a := nth default x.loop.axes p.axis
    if a.mode = .run then some (0x10, p.axis, nth 0 a.v p.feReg) else none)

/-- Slice 0x0115: in slot 8 the staged events, in slot 9 the samples. -/
def LaneState.larderSlice (x : LaneState) (amb : Ambient) : LaneState :=
  if x.power.writeProtected then x
  else if x.frame.slot = 8 then
    x.larderWrote ((x.larder.again x.power.opHours x.attic.powerCycles).writeStaged x.power.opHours x.attic.powerCycles)
  else
    let y := x.samples ((if x.active then x.activeSamples else []) ++
      (if x.frame.motion = 0 then x.signalSamples ++ amb.samples else []))
    y.larderWrote (y.larder.commitAll y.power.opHours y.attic.powerCycles)

/-! ## Duty pair: health report (02 R57, R59) -/

/-- Whether an item counts as covered, its period at most `span` mission cycles. -/
def TestItem.covered (now span : Nat) (t : TestItem) : Bool := match t.lastPass with | some p => decide (now ≤ p + span) | none => false

/-- A continuous item passes while it has not failed (DESIGN CHOICE: log entry 33). -/
def percent (ok : List Bool) : Nat := if ok.isEmpty then 100 else 100 * (ok.filter id).length / ok.length

/-- The GNSS item of R57 has failed: fewer than 4 signals on an antenna for 60 s. -/
def LaneState.gnssFailed (x : LaneState) : Bool := x.health.gnssLow.any fun n => decide (3000 ≤ n)

/-- Coverage of subsystems 1 to 17 (02 R59): items of R57 by the subsystem they test (DESIGN CHOICE, log entry 33)
(log entry 49). -/
def LaneState.coverage (x : LaneState) : List Nat :=
  let h := x.health
  let vec := fun k => (nth default h.vectors k).covered h.missions 600
  let loopVec := vec 1 && decide (x.img.axes.length < 72)
  (List.range 17).map fun i =>
    match i + 1 with
    | 3 => percent [h.dramScrub.covered h.missions 600, true]
    | 4 => 0xFF
    | 6 => percent [vec 3, !x.gnssFailed]
    | 7 => percent [vec 0]
    | 8 => percent [loopVec]
    | 10 => percent [vec 2, h.loopback.covered h.missions 600]
    | 12 => percent [decide (x.badBuses = 0)]
    | 15 => percent [h.framScrub.covered h.missions 3600]
    | 16 => 0xFF
    | _ => 100

/-- Subsystems with a failed item (02 R59; 04 R123, R127; 11 R347; 13 R391) (DESIGN CHOICE: log entry 33). -/
def LaneState.failedSubsystems (x : LaneState) : Nat :=
  let h := x.health
  let f := fun n => x.life.startFailed.contains n
  let vec := fun k => (nth default h.vectors k).failed
  bitsToNat [x.life.holdupBad || f 1, f 2, h.dramScrub.failed || f 3, f 4, f 5, vec 3 || x.gnssFailed || f 6, vec 0 || f 7, vec 1 || f 8,
    x.unreferenced || f 9, vec 2 || h.loopback.failed || x.life.startCode || f 10, f 11, decide (0 < x.badBuses) || f 12, f 13,
    decide (600 ≤ x.voter.diffMissions) || f 14, h.framScrub.failed || f 15, f 16, f 17]

/-- Degrees or metres as a saturating count of hundredths. -/
def hundredths (q : Rat) : Nat := satTo 16 (100 * q).floor.toNat

/-- The 64 bytes of the report. -/
def LaneState.healthBytes (x : LaneState) (l : Lane) : Bytes :=
  let h := x.health
  withCrc (leBytes 4 h.reportSeq ++ leBytes 8 x.frame.number ++ leBytes 1 x.life.state.code ++ leBytes 1 (x.readiness l) ++
    leBytes 2 (bitsToNat x.notReadyBits) ++ leBytes 4 x.failedSubsystems ++ x.coverage.flatMap (leBytes 1) ++
    leBytes 1 (sumN ((List.range 4).map fun n => (nth default x.can.buses n).health * 4 ^ n)) ++
    leBytes 2 (satTo 16 x.frame.overrunsReport) ++ leBytes 4 h.scrubCorrected ++
    leInt 2 (clampI (-32768) 32767 x.muslin.tickOffset) ++ leBytes 2 (hundredths h.shadowPos) ++ leBytes 2 (hundredths h.shadowHdg) ++
    ([0, 1].flatMap fun k => leBytes 1 ((x.gnss.ant k).slots.filter fun s => decide (2 ≤ s.state)).length) ++ x.hash.take 4 ++
    leBytes 1 (satTo 8 x.recentStarts.length) ++ zeros 3)

/-- Slice 0x0119: assembled in its second frame; the spans of 02 R524 begin anew (DESIGN CHOICE: log entry 49). -/
def LaneState.healthSlice (x : LaneState) (l : Lane) : LaneState :=
  if x.frame.slot = 14 then
    let y : LaneState := { x with health := { x.health with reportSeq := (x.health.reportSeq + 1) % 2 ^ 32 } }
    let y : LaneState := { y with health := { y.health with report := y.healthBytes l, shadowPos := 0, shadowHdg := 0 },
                                  frame := { y.frame with overrunsReport := 0 },
                                  life := { y.life with startFailed := if y.life.state = .failed then y.life.startFailed else [] },
                                  can := { y.can with buses := y.can.buses.map fun b => { b with degraded := false, wasOff := false } } }
    y.codes (if y.life.state = .standby then
      [AlarmOp.whileOn (decide (3600 ≤ x.health.standbyMissions) && x.coverage.any fun n => n < 100) ⟨.ln, 41⟩ 0 0] else [])
  else x

/-! ## Comms core: protocol, rxlog, telemetry (12 R367; 15 R458, R460) -/

/-- Slice 0x0121. -/
def LaneState.commsSlice (x : LaneState) (l : Lane) : LaneState :=
  ({ x with ses := x.ses.flush l x.src.quality.code x.clock, can := { x.can with buses := x.can.buses.map Bus.drain } } : LaneState).endSpent

/-- Bytes of items that one TELEMETRY message holds: 1 472 less header, tag, frame number and count (DEDUCED: log entry 59). -/
def telemetryRoom : Nat := 1415

/-- Items packed in order into messages, at most 8; the rest is left for the next motion cycle. -/
structure Packing where
  done : List (List (Nat × Bytes))
  cur : List (Nat × Bytes)
  size : Nat
  left : List SubItem
  deriving DecidableEq, Repr, Inhabited

def Packing.add (p : Packing) (q : SubItem × Bytes) : Packing :=
  let v := q.2.take (telemetryRoom - 4)
  let n := 4 + v.length
  if p.left.isEmpty = false then { p with left := p.left ++ [q.1] }
  else if p.size + n ≤ telemetryRoom then { p with cur := p.cur ++ [(q.1.object, v)], size := p.size + n }
  else if p.done.length + 1 < 8 then { p with done := p.done ++ [p.cur], cur := [(q.1.object, v)], size := n }
  else { p with left := [q.1] }

/-- The body of a TELEMETRY message (15 R455) (DEDUCED: log entry 59). -/
def telemetryBody (frame : Nat) (items : List (Nat × Bytes)) : Bytes :=
  leBytes 8 frame ++ leBytes 1 items.length ++ items.flatMap fun i => leBytes 2 i.1 ++ leBytes 2 i.2.length ++ i.2

/-- The items of a session due in a motion cycle, those left over first, with their values; only objects the lane answers. -/
def State.dueItems (s : State) (l : Lane) (q : Session) : List (SubItem × Bytes) :=
  let due := q.subs.filter fun i => (s.lane l).frame.motion % i.period == i.phase
  (q.late ++ due.filter fun i => !q.late.contains i).filterMap fun i =>
    let r := s.readObject l i.object 0
    if r.1 = 0 then some (i, r.2) else none

/-- Slice 0x0106. -/
def State.telemetrySlice (s : State) (l : Lane) : State :=
  let x := s.lane l
  let packed := x.ses.sessions.map fun q => (q, (s.dueItems l q).foldl Packing.add default)
  let ses : SessionState :=
    { x.ses with
      sessions := packed.map fun p => { p.1 with late := p.2.left, deferred := p.1.deferred + p.2.left.length }
      telemetry := packed.flatMap fun p =>
        ((p.2.done ++ [p.2.cur]).filter fun m => !m.isEmpty).map fun m =>
          ⟨p.1.number, p.1.keyId, p.1.key, p.1.address, p.1.udpPort, 0x21, 0, [], telemetryBody x.frame.cycleFrame m⟩ }
  (s.setLane l { x with ses := ses }).tick

/-- Slice 0x0122. -/
def LaneState.telemetrySend (x : LaneState) (l : Lane) : LaneState :=
  let y := ({ x.ses with answers := x.ses.telemetry, telemetry := [] } : SessionState).flush l x.src.quality.code x.clock
  { x with ses := { y with answers := x.ses.answers, sent := x.ses.sent ++ y.sent } }

/-! ## The slices of a frame -/

/-- The slices a lane outside the main path runs: Larder, health report, protocol, telemetry send, Canvas, safety (02 R39; 03, Writing a
cellar key). -/
def offPath (id : Nat) : Bool := [0x0115, 0x0119, 0x0121, 0x0122, 0x0123].contains id

/-- What slice `id` does in lane `l` for the frame that ends. Slices 0x0105, 0x0111, 0x0113, 0x011A, 0x0131 and 0x0132 have no
effect of their own here: their work is done by the slice, the event or the tick named in log entry 34
(DESIGN CHOICE: log entry 22). -/
def State.runSlice (s : State) (l : Lane) (inp : FrameIn) (id : Nat) : State :=
  match id with
  | 0x0101 => s.onLane l fun x => x.gnssSlice l inp.gnss
  | 0x0102 => s.onLane l fun x => x.refsSlice l
  | 0x0103 => s.onLane l fun x => x.obsSlice l
  | 0x0104 => s.onLane l LaneState.ctrlSlice
  | 0x0106 => s.telemetrySlice l
  | 0x0107 => s.onLane l LaneState.waveSlice
  | 0x0112 => s.onLane l LaneState.setupSlice
  | 0x0114 => s.onLane l LaneState.checkSlice
  | 0x0115 => s.onLane l fun x => x.larderSlice inp.ambient
  | 0x0116 => s.onLane l LaneState.consSlice
  | 0x0117 => s.onLane l LaneState.judgeSlice
  | 0x0118 => s.onLane l LaneState.sectorSlice
  | 0x0119 => s.onLane l fun x => x.healthSlice l
  | 0x0121 => s.onLane l fun x => x.commsSlice l
  | 0x0122 => s.onLane l fun x => x.telemetrySend l
  | 0x0123 => if (s.lane l).image.isSome then s.sendContent l else s
  | _ => s

/-- A slice abandoned (01 R26, R28): counted, LN-030; without a problem or a start no result is expected
(DESIGN CHOICE: log entry 34). -/
def LaneState.abandon (x : LaneState) (id : Nat) : LaneState :=
  let y : LaneState := { x with
    frame := { x.frame with overruns := x.frame.number :: x.frame.overruns, overrunsReport := x.frame.overrunsReport + 1 }
    alloc := if id = 0x0112 ∨ id = 0x0113 then { x.alloc with mainSeq := some noProblem }
             else if id = 0x0116 then { x.alloc with consSeq := none }
             else if id = 0x0118 then x.alloc.forgetFree else x.alloc
    ses := if id = 0x0122 then { x.ses with telemetry := [] } else x.ses }
  y.raise ⟨.ln, 30⟩ id 0

/-- A completed slice that publishes: its mailbox's sequence number increments (01 R23). -/
def FrameState.publish (f : FrameState) (id : Nat) : FrameState :=
  let q := (f.seqs.find? fun p => p.1 == id).map (·.2)
  { f with seqs := (id, (q.getD 0 + 1) % 2 ^ 32) :: f.seqs.filter fun p => p.1 != id }

/-- The slices of the frame that ends (01 R23, R26) (DESIGN CHOICE: log entries 22, 34). -/
def State.runSlices (s : State) (l : Lane) (inp : FrameIn) : State :=
  let ids := (s.lane l).frame.running
  (ids.foldl (fun (t : State) id =>
    if inp.unfinished.contains id then t
    else (t.runSlice l inp id).onLane l fun x => { x with frame := x.frame.publish id }) s).onLane l fun x =>
    (ids.filter inp.unfinished.contains).foldl LaneState.abandon x

/-- Slices that start in a lane at a tick (01 R21; 02 R39). -/
def LaneState.starting (x : LaneState) : List Nat :=
  if x.runs then scheduled x.frame.slot x.frame.motion
  else (scheduled x.frame.slot x.frame.motion).filter fun id => offPath id || (x.image.isSome && (id == 0x0131 || id == 0x0132))

end Sys2Proof.Machine
end

