-- ==== Sys2Proof/Machine/CmdTick.lean ====
section
/-!
DEFINITION. The meaning of FRAME_TICK (01 R12 to R28): the frame that ends, the counts that advance, what stands at the tick
of the new frame, and what the lane sends of it.
-/

namespace Sys2Proof.Machine

/-- A lane has its ticks: rails in regulation and boot complete (01 R13; 04 R126, R132) (DEDUCED: log entry 23). -/
def LaneState.clocked (x : LaneState) : Bool :=
  x.life.powered && x.power.regulated && (match x.life.phase with | .boot => false | _ => true)

/-- A lane that runs its self-test (02 R57) (DEDUCED: log entry 25). -/
def LaneState.selfTests (x : LaneState) : Bool := x.life.state == .standby || x.life.state == .isolated

/-! ## The frame that ends (01 R23, R26, R27; 02 R50, R57) -/

/-- Three overruns within 20 frames: LN-031 and abdication. -/
def State.judgeOverruns (s : State) (l : Lane) : State :=
  let x := s.lane l
  if 3 ≤ x.frame.recent.length ∧ x.life.state ≠ .failed then (s.onLane l fun y => y.raise ⟨.ln, 31⟩ 0 0).fail l 3 else s

/-- A scrub that finds an error without correction (02 R50, R57) (DEDUCED: log entry 25). -/
def State.judgeScrub (s : State) (l : Lane) (t : TestIn) : State :=
  if (s.lane l).selfTests = true ∧ (t.dramScrub = some false ∨ t.framScrub = some false) then s.fail l 4 else s

/-- The frame that ends: its slices are completed or abandoned, its overruns judged (DESIGN CHOICE: log entry 22). -/
def State.endFrame (s : State) (l : Lane) (inp : FrameIn) : State :=
  if (s.lane l).frame.ticked then
    let t := s.onLane l fun x => { x with ses := { x.ses with sent := [] } }
    (((t.runSlices l { inp with unfinished := inp.unfinished.filter fun id => id != 0x0131 }).judgeOverruns l).judgeScrub l inp.test).onLane l
      LaneState.sampleAxes
  else s

/-! ## Indices (00 R8; 01 R14 to R16) -/

/-- The first frame tick falls on a whole millisecond; the indices are those of the other lane, or of module time
(DEDUCED: log entry 23). -/
def LaneState.firstTick (x : LaneState) : LaneState :=
  let unit := 1000000 * nsUnit
  let n := (x.clock.total * nsUnit + x.clock.frac + unit - 1) / unit
  let c : ClockState := { x.clock.at (n * 1000000) with frac := 0, tickAt := n * unit }
  let i := match x.peer.last with
    | some h => if x.hears && (h.state == 1 || h.state == 2 || h.state == 4) then (x.peer.countNow h x.muslin.tickOffset + 1) % 1000 else n % 1000
    | none => n % 1000
  { x with clock := c, frame := { x.frame with ticked := true, adopted := true, slot := i % 20, motion := i / 20 % 50 } }

/-- The other lane as the tick leaves it (02 R43, R67). -/
def PeerView.tick (p : PeerView) : PeerView :=
  { p with missing := if p.seenNow then 0 else satInc 16 p.missing, seenNow := false, crossAge := p.crossAge.map (satInc 16) }

/-- The Baize link as the tick leaves it (02 R66, R69). -/
def BaizeLink.tick (hears : Bool) (k : BaizeLink) : BaizeLink :=
  let blind := k.seenNow && hears && (match k.last with | some b => b.flags % 4 == 0 | none => false)
  { k with missing := if k.seenNow then 0 else satInc 16 k.missing, seenNow := false, neither := if blind then satInc 16 k.neither else 0,
           good := if k.seenNow && k.coresAgree then min 1000 (k.good + 1) else 0 }

/-- Indices that differ are adopted at the active lane's slot 0 (01 R16); with no ACTIVE lane heard there is nothing to adopt
(DEDUCED: log entry 43). -/
def LaneState.adoptIndices (x : LaneState) : LaneState :=
  if x.frame.adopted then x
  else
    let done := fun (slot motion : Nat) =>
      ({ x with frame := { x.frame with slot := slot, motion := motion, adopted := true } } : LaneState).clear ⟨.ln, 32⟩ 0
    match x.peer.last with
    | some h =>
      if x.hears && h.state == 2 then
        let n := (x.peer.countNow h x.muslin.tickOffset + 1) % 1000
        if n % 20 = 0 then done 0 (n / 20 % 50) else x
      else done x.frame.slot x.frame.motion
    | none => done x.frame.slot x.frame.motion

/-- The next frame: number and indices advance by one. -/
def LaneState.nextTick (x : LaneState) : LaneState :=
  let i := nextIndex x.frame.slot x.frame.motion
  ({ x with frame := { x.frame with number := (x.frame.number + 1) % 2 ^ 64, slot := i.1, motion := i.2 },
            link := x.link.tick x.hears, peer := x.peer.tick, clock := x.clock.frame,
            src := x.src.eased x.clock.slewLeft x.clock.frame.slewLeft } : LaneState).adoptIndices

/-! ## Ages and time -/

/-- Arming of an index channel takes effect at a frame tick (11 R346). -/
def FbState.armWaiting (s : FbState) : FbState :=
  { s with chans := s.chans.map fun f => if f.armNext then { f with armed := true, armNext := false } else f }

/-- Sessions and failed OPENs grow older (15 R456, R457). -/
def SessionState.age (q : SessionState) : SessionState :=
  { q with sessions := q.sessions.map (fun n => { n with age := n.age + 1 }), failed := q.failed.map fun n => { n with age := n.age + 1 } }

/-- A write to a cellar key stands idle (03 R99). -/
def CellarState.age (c : CellarState) : CellarState :=
  { c with write := c.write.map fun w => if w.closing then w else { w with idle := w.idle + 1 } }

/-- Counts of the lane's own life. -/
def LifeState.age (f : LifeState) : LifeState := { f with sinceActive := if f.state = .active then f.sinceActive + 1 else f.sinceActive }

/-- The drive bus item over a frame (02 R57, R58) (DESIGN CHOICE: log entry 49). -/
def LaneState.ageBuses (x : LaneState) : HealthState :=
  { x.health with busOk := if 2 ≤ x.badBuses then 0 else min 1000 (x.health.busOk + 1) }

/-- Everything the lane counts in frames. -/
def LaneState.age (x : LaneState) : LaneState :=
  let n := x.net.frame
  ({ x with
     health := x.ageBuses, refs := x.refs.age, gnss := x.gnss.age, alloc := x.alloc.age, loop := x.loop.age, ctrl := x.ctrl.age, can := x.can.age,
     analog := x.analog.frame x.img.anin x.attic.coeffs, fb := x.fb.armWaiting, net := n.1, ses := x.ses.age, cellar := x.cellar.age,
     ptp := { x.ptp with masters := x.ptp.masters.map fun m => { m with age := satInc 32 m.age } }, life := x.life.age,
     muslin := { x.muslin with copyAge := satInc 16 x.muslin.copyAge }, canvasAge := satInc 16 x.canvasAge } : LaneState).codes n.2

/-- Operating hours with their fraction (04 R120). -/
def PowerState.advance (p : PowerState) (n : Nat) : PowerState :=
  if p.regulated && !p.writeProtected then
    { p with opHours := satTo 32 (p.opHours + (p.opFrac + n) / 32768), opFrac := (p.opFrac + n) % 32768 }
  else p

/-- Calendar clock and operating hours over the frame that has ended (04 R120, R131, R136) (DEDUCED: log entries 30, 51). -/
def LaneState.advanceCalendar (x : LaneState) (cellOk : Bool) : LaneState :=
  let n := calendarStep (x.frame.number % 1000)
  ({ x with cal := { x.cal.advance n with cellOk := cellOk }, power := x.power.advance n } : LaneState).codes
    [AlarmOp.whileOn (!cellOk) ⟨.tm, 14⟩ 0 0]

/-- Frames a feed's reading has lain inside [8 V, 72 V] (04 R117) (DEDUCED: log entry 52). -/
def inRunStep (reading n : Nat) : Nat := if 800 ≤ reading ∧ reading ≤ 7200 then min 1000 (n + 1) else 0

/-- Supply readings (04 R117, R119; 18 R511) (DEDUCED: log entry 52). -/
def LaneState.readSupply (x : LaneState) (a : Ambient) : LaneState :=
  let r1 := inRunStep a.feed1 (nth 0 x.power.inRun 0)
  let r2 := inRunStep a.feed2 (nth 0 x.power.inRun 1)
  let back := fun (run feed : Nat) => if run = 1000 then [AlarmOp.clear ⟨.pw, 2⟩ feed, .clear ⟨.pw, 3⟩ feed] else []
  let p : PowerState :=
    { x.power with
      feed1 := { x.power.feed1 with reading := a.feed1 }, feed2 := { x.power.feed2 with reading := a.feed2 }, inputDw := a.inputDw,
      plateTemp := a.plateTemp, ocxoWarming := a.ocxoWarming, railLimit := a.railLimit, inRun := [r1, r2] }
  ({ x with power := p } : LaneState).codes (back r1 1 ++ back r2 2 ++ [AlarmOp.whileOn a.railLimit ⟨.pw, 30⟩ 0 0])

/-- The conditions of GNSS, PTP and the time pulse inputs as time sources (15 R445). -/
def LaneState.gnssTime (x : LaneState) (t : TimeIn) : Bool :=
  t.gnss && decide (1 ≤ x.gnss.pvt.mode ∧ x.gnss.pvt.mode ≤ 4) && !x.gnss.pvt.flags.testBit 1 && !hasAlarm x.alarms ⟨.gn, 41⟩ 0
def LaneState.ptpTime (x : LaneState) (t : TimeIn) : Bool := t.ptp && x.ptp.syncFrom.isSome && x.ptp.haveDelay
def LaneState.pulseTime (x : LaneState) (t : TimeIn) : Bool :=
  t.pulse && (match x.timeError with | some e => decide (e < 400000000) | none => false)

/-- INCR as the servo of a source in use leaves it: a free value within its bounds, from fresh number `n` (15 R439, R449)
(DESIGN CHOICE: log entry 17). -/
def ClockState.steer (c : ClockState) (n : Nat) : ClockState :=
  let v := incrLow + n % (incrHigh - incrLow + 1)
  { c with incr := v, incrNs := v / nsUnit % 16, incrHi := v / 2 ^ 32 % 256, incrLo := v % 2 ^ 32 }

/-- A measured offset of the source in use is taken up (DESIGN CHOICE, DEDUCED: log entries 17, 83). -/
def State.takeMeasurement (s : State) (l : Lane) (off : Int) : State :=
  let x := s.lane l
  if x.src.ok x.src.source && x.order.contains x.src.source then
    (s.setLane l ((x.takeUp off (s.sourceAdds l x.src.source)).withClock fun c => c.steer (Config.freshNat s.fresh))).tick
  else s

/-- Time sources over a frame (15 R445 to R449). -/
def State.timeFrame (s : State) (l : Lane) (t : TimeIn) : State :=
  let x := s.lane l
  let r := ((x.src.runs (x.gnssTime t) (x.ptpTime t) (x.pulseTime t) (s.otherTime l)).count x.power.plateTemp x.order).choose x.order
  let u := s.setLane l (({ x with src := r.1 } : LaneState).codes r.2)
  match t.offset with
  | some off => u.takeMeasurement l off
  | none => u

/-- A calendar clock set from module time (04 R135) (DEDUCED: log entry 30). -/
def Calendar.set (c : Calendar) (t : ClockState) (leap : Nat) : Calendar :=
  { c with s := t.s, frac := t.ns * 32768 / 1000000000, leap := leap, valid := true, sinceSet := 0 }

/-- Whether a calendar clock differs from module time by more than 1 ms (DEDUCED: log entry 30). -/
def Calendar.apart (c : Calendar) (t : ClockState) : Bool :=
  decide (1000000 < ((c.ticks * 1000000000 / 32768 : Nat) : Int) - (t.total : Int) ∨
          1000000 < (t.total : Int) - ((c.ticks * 1000000000 / 32768 : Nat) : Int))

/-- Calendar clocks set at a second boundary while LOCKED (04 R135): the lane's own, and by the active lane the Baize's
(DEDUCED: log entry 30). -/
def State.setCalendars (s : State) (l : Lane) (oldS : Nat) : State :=
  let x := s.lane l
  if x.src.quality = .locked ∧ x.clock.s ≠ oldS then
    let due := decide (600 ≤ x.src.calCycles)
    let leap := x.gnss.leap.getD x.cal.leap
    let y : LaneState := if due || x.cal.apart x.clock then { x with cal := x.cal.set x.clock leap } else x
    let z : LaneState := if due then { y with src := { y.src with calCycles := 0 } } else y
    let t := s.setLane l z
    if x.active && s.baize.powered && (due || s.baize.cal.apart x.clock) then
      t.onBaize fun b => { b with cal := b.cal.set x.clock leap }
    else t
  else s

/-! ## Self-test results (02 R57; 09 R282; 10 R320) -/

/-- A result of an item that completes in this frame. -/
def TestItem.take (now : Nat) (r : Option Bool) (t : TestItem) : TestItem :=
  match r with
  | some true => ⟨false, some now⟩
  | some false => { t with failed := true }
  | none => t

/-- Results of the items a lane runs; the engine test vectors run in every lane that runs
(DEDUCED, DESIGN CHOICE: log entries 25, 26). -/
def LaneState.takeTests (x : LaneState) (t : TestIn) : LaneState :=
  let h := x.health
  let own := x.selfTests
  let pick := fun (r : Option Bool) => if own then r else none
  let spare := decide (x.img.axes.length < 72)
  let vec := if x.runs then t.vectors.mapIdx fun k r => if k = 1 ∧ spare = false then none else r else []
  let now := h.missions
  let g : HealthState :=
    { h with
      loopback := h.loopback.take now (pick t.loopback), dramScrub := h.dramScrub.take now (pick t.dramScrub)
      framScrub := h.framScrub.take now (pick t.framScrub), scrubCorrected := satTo 32 (h.scrubCorrected + t.corrected)
      vectors := h.vectors.mapIdx fun k i => i.take now (nth none vec k) }
  let y : LaneState :=
    { x with
      health := g, life := { x.life with startCode := x.life.startCode && !decide (pick t.loopback = some true) }
      alloc := { x.alloc with vectorFailed := (nth default g.vectors 0).failed }
      analog := { x.analog with fault := t.converter || (nth default g.vectors 2).failed }
      loop := { x.loop with vecRunNow := if (nth none vec 1).isSome then 72 - x.img.axes.length else x.loop.vecRunNow
                            vecFailedNow := if nth none vec 1 = some false then 1 else x.loop.vecFailedNow } }
  y.codes [AlarmOp.whileOn (y.active && y.alloc.vectorFailed) ⟨.al, 20⟩ 0 0,
           AlarmOp.whileOn (spare && (nth default g.vectors 1).failed) ⟨.lp, 5⟩ 0 0, AlarmOp.whileOn y.analog.fault ⟨.an, 1⟩ 0 0]

/-! ## The motion cycle and the mission cycle -/

/-- The estimate against the copy (02 R57): metres and degrees. -/
def LaneState.shadowDiff (x : LaneState) : Option (Rat × Rat) :=
  if x.selfTests then
    x.usableCopy.map fun c =>
      (hypotQ (x.obs.est.eta.x - c.obs.est.eta.x) (x.obs.est.eta.y - c.obs.est.eta.y), absQ (wrap180 (degQ (x.obs.est.eta.z - c.obs.est.eta.z))))
  else none

/-- The shadow comparison of a motion cycle (02 R57, R59): its run, the largest differences; LN-040 ends with the run. -/
def LaneState.compareShadow (x : LaneState) : LaneState :=
  match x.shadowDiff with
  | some d =>
    let out := decide ((x.role.shadowPosLimit : Rat) / 100 < d.1 ∨ (x.role.shadowHeadingLimit : Rat) / 100 < d.2)
    let maxQ := fun (a b : Rat) => if a < b then b else a
    let y : LaneState := { x with health := { x.health with shadowRun := if out then min 250 (x.health.shadowRun + 1) else 0,
                                                            shadowPos := maxQ x.health.shadowPos d.1, shadowHdg := maxQ x.health.shadowHdg d.2 } }
    if out then y else y.clear ⟨.ln, 40⟩ 0
  | none => ({ x with health := { x.health with shadowRun := 0 } } : LaneState).clear ⟨.ln, 40⟩ 0

/-- Motion cycles with fewer than 4 signals tracked, per configured antenna (02 R57). -/
def LaneState.countSignals (x : LaneState) (l : Lane) : LaneState :=
  let few := fun (k : Nat) => (antennaRec x.img.gnss (antennaNo l k)).isSome && decide (((x.gnss.ant k).slots.filter fun t => decide (2 ≤ t.state)).length < 4)
  { x with health := { x.health with gnssLow := x.health.gnssLow.mapIdx fun k n => if few k then min 3000 (n + 1) else 0 } }

/-- A motion cycle begins (01 R14; 07 R209): t_k is this tick. -/
def LaneState.motionStart (x : LaneState) (l : Lane) : LaneState :=
  let y : LaneState :=
    { x with frame := { x.frame with cycleNs := x.nowNs, cycleFrame := x.frame.number }, obs := { x.obs with age := x.obs.age + 1 }, refs := x.refs.latch
             partner := if x.runs = true ∧ x.role.partnerRole ≠ 0 then x.partner.cycle else x.partner }
  (y.countSignals l).compareShadow

/-- The comms core empties the receive FIFOs every frame and counts the frame's character errors (06 R177). -/
def RefsState.emptyFifos (st : RefsState) (errs : List SerialErrors) : RefsState :=
  { st with ports := st.ports.mapIdx fun n p =>
      match errs.find? fun e => e.port == n with
      | some e => { p with fill := 0, framing := p.framing + e.framing, parity := p.parity + e.parity, cycErrors := p.cycErrors + e.framing + e.parity }
      | none => { p with fill := 0 } }

/-- A mission cycle of a serial port (06 R177): characters and errors of the last 60. -/
def SerialPort.mission (p : SerialPort) : SerialPort :=
  { p with window := ((p.cycChars, p.cycErrors) :: p.window).take 60, cycChars := 0, cycErrors := 0 }

/-- More than 1 % of a port's characters in error. -/
def SerialPort.poor (p : SerialPort) : Bool := decide (sumN (p.window.map (·.1)) < 100 * sumN (p.window.map (·.2)))

/-- Mission cycles above and not above +85 °C, with PW-031 (18 R517). -/
def LaneState.judgePlate (x : LaneState) : LaneState :=
  let hot := decide (850 < x.power.plateTemp)
  let p : PowerState := { x.power with hotRun := if hot then min 10 (x.power.hotRun + 1) else 0, coolRun := if hot then 0 else min 10 (x.power.coolRun + 1) }
  ({ x with power := p } : LaneState).codes
    (if p.hotRun = 10 then [.hold ⟨.pw, 31⟩ 0 0] else if p.coolRun = 10 then [.clear ⟨.pw, 31⟩ 0] else [])

/-- A mission cycle begins. -/
def LaneState.missionStart (x : LaneState) : LaneState :=
  let h := x.health
  let ports := x.refs.ports.map SerialPort.mission
  let y : LaneState :=
    { x with
      health := { h with missions := h.missions + 1, standbyMissions := if x.life.state = .standby then h.standbyMissions + 1 else 0 }
      ctrl := x.ctrl.missionStart, gnss := x.gnss.mission x.img.gnss
      refs := { x.refs.mission with ports := ports }
      attic := if x.power.writeProtected then x.attic else { x.attic with opHours := x.power.opHours, opFrac := x.power.opFrac }
      src := { x.src with published := x.timeBytes, calCycles := x.src.calCycles + 1 }
      loop := { x.loop with vecRun := x.loop.vecRunNow, vecFailed := x.loop.vecFailedNow, vecRunNow := 0, vecFailedNow := 0 } }
  (y.codes (ports.mapIdx fun n p => AlarmOp.whileOn p.poor ⟨.rf, 10⟩ n 0)).judgePlate

/-! ## Conditions judged at every tick -/

/-- The safety evaluation of the frame (13 R386 to R391); one that is late is abandoned (01 R26, R28) (DEDUCED: log entry 80). -/
def LaneState.vote (x : LaneState) (l : Lane) (inp : FrameIn) : LaneState :=
  if x.image.isSome = true ∧ x.life.state ≠ .failed then
    let y := x.withVoter (x.voter.evaluate ⟨.lane l, x.img.safe, inp.safetyLate, inp.readback, inp.switchTest, x.frame.slot, x.frame.motion⟩)
    let z : LaneState := if x.frame.slot = 0 ∧ x.frame.motion = 0 then { y with voter := y.voter.mission } else y
    if inp.safetyLate then z.abandon 0x0131 else z
  else x

/-- The Muslin link has failed (02 R64, R65): both serial lanes down, or heartbeats missing from a lane that the Baize hears. -/
def LaneState.muslinDown (x : LaneState) (l : Lane) : Bool :=
  (!x.muslin.serial0 && !x.muslin.serial1) ||
  (decide (3 ≤ x.peer.missing) && x.peer.last.isSome && !x.link.absent &&
    (match x.link.last with | some b => b.flags.testBit l.other.code | none => false))

/-- Codes of the redundancy that last while their conditions do (02 R47, R58, R65, R66). -/
def LaneState.judgeLinks (x : LaneState) (l : Lane) : LaneState :=
  x.codes ([AlarmOp.whileOn (x.muslinDown l) ⟨.ln, 21⟩ 0 0, AlarmOp.whileOn (x.muslin.serial0 != x.muslin.serial1) ⟨.ln, 22⟩ 0 0,
            AlarmOp.whileOn (x.runs && !x.active && x.offsetBad) ⟨.ln, 24⟩ 0 0, AlarmOp.whileOn x.linkFailed ⟨.bz, 2⟩ 0 0])

/-- A standby that is not ready raises LN-003 (02 R58). -/
def LaneState.judgeReady (x : LaneState) (l : Lane) : LaneState :=
  if x.life.state = .standby then x.codes [AlarmOp.whileOn (x.readiness l == 1) ⟨.ln, 3⟩ l.code 0] else x

/-! ## What the lane sends of the frame (01 R24; 02 R43, R44) -/

/-- The state copy of the front buffers at the tick (02 R44) (DEDUCED: log entry 24). -/
def State.stateCopy (s : State) (l : Lane) : StateCopy :=
  let x := s.lane l
  { lane := l, seq := x.muslin.copySeq, frame := x.frame.number, peerFrame := match x.peer.last with | some h => h.frameNumber | none => 0
    layoutId := x.img.header.layoutId, ctrl := x.ctrl, obs := x.obs, alloc := x.alloc
    axes := List.zipWith (fun (a : AxisSlot) e => { a with sp := e }) x.loop.axes x.loop.buffer, refs := x.refs.refs, alarms := x.alarms
    partner := x.partner.newestMsg, takeoverSeq := x.attic.takeoverSeq, holdoff := s.baize.holdoff }

/-- The active lane sends its copy, with the next sequence number (DEDUCED: log entry 24). -/
def State.sendCopy (s : State) (l : Lane) : State :=
  if (s.lane l).active then
    let t := s.onLane l fun x => { x with muslin := { x.muslin with copySeq := (x.muslin.copySeq + 1) % 2 ^ 32 } }
    t.onLane l fun x => { x with copyOut := some (t.stateCopy l) }
  else s.onLane l fun x => { x with copyOut := none }

/-- The heartbeat, if every core acknowledged the tick; a lane that has failed at this tick has sent its abdication frame
(DEDUCED: log entry 24). -/
def State.sendHeartbeat (s : State) (l : Lane) (failed : Bool) : State :=
  if failed then s
  else
    let x := s.lane l
    s.setLane l { x with hbOut := if x.frame.acks.all id then (s.heartbeat l 1).bytes else [] }

/-- The slices of the new frame start; an evaluation that is late has been counted. -/
def LaneState.startSlices (x : LaneState) (late : Bool) : LaneState :=
  { x with frame := { x.frame with running := if late then x.starting.filter fun id => id != 0x0131 else x.starting, micro := 0 } }

/-! ## FRAME_TICK -/

/-- Numbers, ages and time of the lane at a tick. -/
def State.advanceFrame (s : State) (l : Lane) (inp : FrameIn) : State :=
  let x := s.lane l
  let y : LaneState := if x.frame.ticked then ((x.advanceCalendar inp.ambient.cellOk).nextTick).age else x.firstTick
  let z : LaneState :=
    { y with frame := { y.frame with acks := inp.acks, overruns := y.frame.recent }, ledger := { y.ledger with failing := inp.ledgerFail }
             larder := { y.larder with failing := inp.larderFail }, refs := y.refs.emptyFifos inp.serial }
  let t := s.setLane l ((z.readSupply inp.ambient).takeTests inp.test)
  if x.frame.ticked then (t.timeFrame l inp.time).setCalendars l x.clock.s else t

/-- What the tick of a slot begins: motion cycle and mission cycle, the partner message, the GNSS epoch (02 R73; 05 R155). -/
def State.beginSlot (s : State) (l : Lane) : State :=
  let f := (s.lane l).frame
  let t := if f.slot = 0 ∧ f.motion = 0 then s.onLane l LaneState.missionStart else s
  if f.slot = 0 then (t.onLane l fun x => x.motionStart l).partnerBoundary l
  else if f.slot = 7 then t.sendPartner l
  else if f.slot = 19 then
    t.onLane l fun x => { x with gnss := { x.gnss with epochS := x.clock.s, epochNs := x.clock.ns, epochFrame := x.frame.number, ant0 := x.gnss.ant0.latch, ant1 := x.gnss.ant1.latch } }
  else t

/-- The tick in a lane that has its ticks. -/
def State.frameTick (s : State) (l : Lane) (inp : FrameIn) : State :=
  let failedBefore := decide ((s.lane l).life.state = .failed)
  let t := s.endFrame l inp
  let failedNow := !failedBefore && decide ((t.lane l).life.state = .failed)
  let u := (t.advanceFrame l inp).beginSlot l
  let v := u.onLane l fun x => ((((x.vote l inp).leaveStart).judgeLinks l).judgeReady l).startSlices inp.safetyLate
  ((v.reportLost.sendCopy l).sendHeartbeat l failedNow)

/-- FRAME_TICK (01 R12) (DEDUCED: log entry 23). -/
def execFrameTick (lane : Lane) (inp : FrameIn) (s : State) : Result := .next (if (s.lane lane).clocked then s.frameTick lane inp else s)

end Sys2Proof.Machine
end

