-- ==== Sys2Proof/Machine/CmdMicro.lean ====
section
/-!
DEFINITION. The meaning of MICROFRAME_TICK (01 R18, R19): what is latched at phase 0, the 72 axis slots, and the outputs
written together at phase 118 µs.
-/

namespace Sys2Proof.Machine

/-! ## Phase 0: latches (11 R340; 13 R393; 14 R415, R427) -/

/-- Module time at phase 0 of the microframe, ns. -/
def LaneState.microNs (x : LaneState) : Nat := x.nowNs + 125000 * x.frame.micro

/-- Number of the microframe (11 R340). -/
def LaneState.microNumber (x : LaneState) : Nat := 8 * x.frame.number + x.frame.micro

/-- The latch of every configured analog input (14 R415), none while the converter or the filter engine is at fault. -/
def AnalogState.latch (rs : List Anin) (custom : List (Option CoeffSet)) (now : Nat) (s : AnalogState) : AnalogState :=
  if s.fault then s
  else
    { s with chans := s.chans.mapIdx fun n a =>
        match aninOf rs n with
        | some r => a.latch r (match slotShape custom a.set with | some (l, _) => l | none => 0) now
        | none => a }

/-- What the slices of the frame read of the analog inputs: the latch at phase 0 of microframe 0 (14 R416). -/
def AnalogState.cutAt (rs : List Anin) (micro : Nat) (s : AnalogState) : AnalogState :=
  if micro = 0 then { s with cut := s.cutNow rs } else s

/-- Everything a lane latches at phase 0. -/
def LaneState.latch (x : LaneState) (g : PulseSource) (inp : MicroIn) : LaneState :=
  { x with
    fb := x.fb.latch x.img.fbch (x.microNs % 2 ^ 64) x.microNumber inp.supplies
    analog := ((x.analog.latch x.img.anin x.attic.coeffs x.microNs).cutAt x.img.anin x.frame.micro).sampleDiscrete inp.discrete
    voter := if x.image.isSome then { x.voter with inputs := sampleInputs x.img.safe g inp.safety x.voter.inputs } else x.voter }

/-! ## The loop engine (10 R294) -/

/-- The measured thrust and angle of every actuator, taken at the tick of slot 0 (09 R267). -/
def LaneState.measureActs (x : LaneState) : LaneState :=
  if x.runs = true ∧ x.frame.slot = 0 ∧ x.frame.micro = 0 then { x with alloc := x.alloc.measure x.allocCtx } else x

/-- The 72 slots of a microframe. -/
def LaneState.runAxes (x : LaneState) : LaneState := if x.runs then x.withLoop (x.loop.micro x.loopCtx) else x

/-! ## Phase 118 µs: outputs (01 R18; 10 R310; 14 R422, R423, R428; 12 R357) -/

/-- The output register of the axis that names an analog output. -/
def LaneState.axisOut (x : LaneState) (n : Nat) : Option Rat :=
  (x.img.axes.find? fun a => a.outKind.testBit 0 && a.analogOut == n).map fun a => (nth default x.loop.axes a.axis).out

/-- The word a lane sends to an output latch (14 R422): range and physical value; none without an ANOU entry. -/
def LaneState.outputWord (x : LaneState) (n : Nat) : Option OutWord :=
  (anouOf x.img.anou n).map fun r => ⟨r.range, (nth default x.analog.outs n).physical r (x.axisOut n)⟩

/-- The level of a discrete output (14 R428): partner_do while in command, gw_do by the gangway conditions
(DESIGN CHOICE: log entry 27). -/
def LaneState.discreteLevel (x : LaneState) (n : Nat) : Bool :=
  (decide (x.role.partnerRole ≠ 0) && x.role.partnerDo == n && x.inCommand) || (x.img.mode.gwDo == n && x.ctrl.gwDo)

/-- The lane whose writes the shared outputs take: ACTIVE and connected (02 R35) (DESIGN CHOICE: log entry 27). -/
def State.drives (s : State) (l : Lane) : Bool := (s.lane l).active && decide (s.connected = some l)

/-- Analog outputs are written in every microframe, while the module is in command (02 R74) (DESIGN CHOICE: log entry 27). -/
def State.writeAnalog (s : State) (l : Lane) : State :=
  let x := s.lane l
  if s.drives l && x.inCommand then { s with analogOut := s.analogOut.mapIdx fun n v => (x.outputWord n).getD v } else s

/-- Discrete outputs are written in microframe 0; a module not in command leaves all but partner_do as they are
(DESIGN CHOICE: log entry 27). -/
def State.writeDiscrete (s : State) (l : Lane) : State :=
  let x := s.lane l
  if s.drives l = true ∧ x.frame.micro = 0 then
    let level := fun (n : Nat) (v : Bool) => if x.inCommand then x.discreteLevel n else if x.role.partnerDo == n then false else v
    { s with discreteOut := s.discreteOut.mapIdx level }
  else s

/-- The read-back of an output: in the driving lane against what it has written, else the terminal alone (14 R425). -/
def LaneState.readOutputs (x : LaneState) (driving : Bool) (rbs : List (Option (Rat × Bool))) : LaneState :=
  let read := fun (n : Nat) (o : AnOut) =>
    match anouOf x.img.anou n with
    | some r =>
      if driving then o.readBack r (o.physical r (x.axisOut n)) (nth none rbs n)
      else { o with terminal := ((nth none rbs n).map (·.1)).getD o.terminal, diffRun := 0, complRun := 0 }
    | none => o
  let outs := x.analog.outs.mapIdx read
  let y : LaneState := { x with analog := { x.analog with outs := outs } }
  if y.alarms.isEmpty then y else y.codes (outs.mapIdx fun n o => o.endCodes n).flatten

/-- The transmit lists of the frame (12 R357). -/
def State.stageCommands (s : State) (l : Lane) : State :=
  let x := s.lane l
  if x.runs = true ∧ x.frame.micro = 0 then s.setLane l { x with can := x.can.build (x.canCtx l s.unrefereed) } else s

/-! ## MICROFRAME_TICK -/

/-- The contacts of a new active lane close 50 µs after its first tick, before its first output write (02 R53, R56)
(DEDUCED: log entry 88). -/
def BaizeState.closeContacts (b : BaizeState) (l : Lane) : BaizeState :=
  if b.closing = some l then { b with contacts := some l, closing := none, ssiClock := some l } else b

/-- The microframe of a lane that has its ticks (DEDUCED: log entry 88). -/
def State.microTick (s : State) (l : Lane) (inp : MicroIn) : State :=
  let t := (s.onBaize fun b => if (s.lane l).frame.micro = 0 then b.closeContacts l else b).onLane l fun x =>
    ((x.latch s.pulse inp).measureActs).runAxes
  let u := ((t.writeAnalog l).writeDiscrete l).stageCommands l
  u.onLane l fun x => (fun y : LaneState => { y with frame := { y.frame with micro := (y.frame.micro + 1) % 8 } })
    (x.readOutputs (u.drives l && x.inCommand) inp.outs)

/-- MICROFRAME_TICK (01 R18) (DEDUCED: log entry 23). -/
def execMicroframeTick (lane : Lane) (inp : MicroIn) (s : State) : Result :=
  .next (if (s.lane lane).clocked && (s.lane lane).frame.ticked then s.microTick lane inp else s)

end Sys2Proof.Machine
end

