-- ==== Sys2Proof/Machine/CmdMisc.lean ====
section
/-!
DEFINITION. Meanings of REGISTER_WRITE, ALARM_ACKNOWLEDGEMENT, MUSLIN_SERIAL_LANE_FAILED and MUSLIN_TRANSFER_RECEIVED.
-/

namespace Sys2Proof.Machine

/-! ## Registers without a behaviour of their own (00 R10, R11) -/

/-- A nanosecond step is written in (-10^9, 10^9) (15 R441). -/
def stepNsOk (v : Int) : Bool := decide (-1000000000 < v ∧ v < 1000000000)

/-- The clock registers (15 R441): INCR as its parts stand, the step, the WC flags, TICK_SLEW within its bounds
(DEDUCED: log entry 35). -/
def ClockState.write (c : ClockState) (reg : Reg) (value : Nat) : ClockState :=
  match reg with
  | .incrNs => { c with incrNs := value % 16 }
  | .incrLo => { c with incrLo := value % 2 ^ 32 }
  | .stepS => { c with stepS := signed 32 value }
  | .stepNs => if stepNsOk (signed 32 value) then { c with stepNs := signed 32 value } else c
  | .clockFlags => { c with stepDone := c.stepDone && !value.testBit 2, incrClamped := c.incrClamped && !value.testBit 3 }
  | .tickSlew => { c with tickSlew := slewValue (signed 32 value) }
  | _ => c

/-- The registers of a pulse generator (15 R451), taken at the next arm (DEDUCED: log entry 35). -/
def PulseGen.write (g : PulseGen) (reg : Reg) (value : Nat) : PulseGen :=
  match reg with
  | .pulseCtrl _ =>
    { g with mode := value % 4, polarity := value / 4 % 2, missed := g.missed && !value.testBit 5, omitted := g.omitted && !value.testBit 6 }
  | .pulseStartLo _ => { g with startS := g.startS / 2 ^ 32 * 2 ^ 32 + value % 2 ^ 32 }
  | .pulseStartHi _ => { g with startS := value % 2 ^ 16 * 2 ^ 32 + g.startS % 2 ^ 32 }
  | .pulseStartNs _ => { g with startNs := value % 2 ^ 30 }
  | .pulsePeriodLo _ => { g with period := g.period / 2 ^ 32 * 2 ^ 32 + value % 2 ^ 32 }
  | .pulsePeriodHi _ => { g with period := value % 2 ^ 8 * 2 ^ 32 + g.period % 2 ^ 32 }
  | .pulseWidth _ => { g with width := value % 2 ^ 32 }
  | _ => g

/-- An entry of the setpoint buffer (10 R298); a value that is not finite is the free value `open_`
(DESIGN CHOICE, DEDUCED: log entries 18, 35). -/
def SpEntry.write (e : SpEntry) (reg : Reg) (value : Nat) (open_ : Rat) : SpEntry :=
  match reg with
  | .setpoint _ => { e with setpoint := (f32Value (value % 2 ^ 32)).getD open_ }
  | .setpointControl _ => { e with run := value.testBit 0, dir := value / 2 % 4 }
  | .setpointSeq _ => { e with seq := value % 2 ^ 16 }
  | _ => e

/-! ### The problem block (09 R277) -/

/-- Values of a list of a fixed length. -/
def f32s (n : Nat) (xs : List Rat) : Bytes := (List.range n).flatMap fun k => leF32 (nth 0 xs k)

/-- The bytes of the block before its CRC. -/
def Problem.bytes (p : Problem) : Bytes :=
  leBytes 4 p.seq ++ leBytes 1 p.store ++ leBytes 1 p.flags ++ zeros 2 ++ leBytes 8 p.frame ++ leF32 p.step ++ zeros 12 ++
  f32s 48 p.hinv ++ f32s 48 p.q ++ ((List.range 3).flatMap fun k => f32s 48 (nth [] p.b k)) ++
  ((List.range 3).flatMap fun k => f32s 3 (nth [] p.s k)) ++ leF32 p.d.x ++ leF32 p.d.y ++ leF32 p.d.z ++
  leF32 p.w.x ++ leF32 p.w.y ++ leF32 p.w.z ++ zeros 4 ++
  ((List.range 24).flatMap fun i => (List.range 22).flatMap fun k =>
    let r := nth default (nth [] p.rows i) k
    leF32 r.a ++ leF32 r.b ++ leF32 r.h) ++
  ((List.range 6).flatMap fun g => f32s 48 (nth default p.power g).c ++ leF32 (nth default p.power g).h)

/-- A component of a triple. -/
def V3.setAt (v : V3) (k : Nat) (q : Rat) : V3 := if k = 0 then { v with x := q } else if k = 1 then { v with y := q } else { v with z := q }

/-- A coefficient of a row, or its right-hand side. -/
def Row.setAt (r : Row) (k : Nat) (q : Rat) : Row := if k = 0 then { r with a := q } else if k = 1 then { r with b := q } else { r with h := q }

/-- An f32 value of the block, at a word offset. -/
def Problem.setValue (p : Problem) (off : Nat) (q : Rat) : Problem :=
  let at_ := fun (base : Nat) => (off - base) / 4
  if off = 0x10 then { p with step := q }
  else if 0x20 ≤ off ∧ off < 0xE0 then { p with hinv := p.hinv.set (at_ 0x20) q }
  else if 0xE0 ≤ off ∧ off < 0x1A0 then { p with q := p.q.set (at_ 0xE0) q }
  else if 0x1A0 ≤ off ∧ off < 0x3E0 then { p with b := modNth p.b (at_ 0x1A0 / 48) fun r => r.set (at_ 0x1A0 % 48) q }
  else if 0x3E0 ≤ off ∧ off < 0x404 then { p with s := modNth p.s (at_ 0x3E0 / 3) fun r => r.set (at_ 0x3E0 % 3) q }
  else if 0x404 ≤ off ∧ off < 0x410 then { p with d := V3.setAt p.d (at_ 0x404) q }
  else if 0x410 ≤ off ∧ off < 0x41C then { p with w := V3.setAt p.w (at_ 0x410) q }
  else if 0x420 ≤ off ∧ off < 0x1CE0 then
    { p with rows := modNth p.rows (at_ 0x420 / 66) fun rs => modNth rs (at_ 0x420 % 66 / 3) fun r => r.setAt (at_ 0x420 % 3) q }
  else if 0x1CE0 ≤ off ∧ off < 0x2178 then
    { p with power := modNth p.power (at_ 0x1CE0 / 49) fun r =>
        if at_ 0x1CE0 % 49 < 48 then { r with c := r.c.set (at_ 0x1CE0 % 49) q } else { r with h := q } }
  else p

/-- A 32-bit word of the block, its CRC apart (DESIGN CHOICE: log entry 18). -/
def Problem.setWord (p : Problem) (off value : Nat) (open_ : Rat) : Problem :=
  let w := value % 2 ^ 32
  if off = 0 then { p with seq := w }
  else if off = 4 then { p with store := w % 256, flags := w / 256 % 256 }
  else if off = 8 then { p with frame := p.frame / 2 ^ 32 * 2 ^ 32 + w }
  else if off = 0xC then { p with frame := w * 2 ^ 32 + p.frame % 2 ^ 32 }
  else p.setValue off ((f32Value w).getD open_)

/-- A write into the block (09 R277): its CRC stays that of its bytes only where they do not change, or is written anew
(DEDUCED: log entry 35). -/
def Problem.write (p : Problem) (off value : Nat) (open_ : Rat) : Problem :=
  if off = 0x2178 then { p with crcOk := decide (value % 2 ^ 32 = crc32c p.bytes) }
  else
    let q := p.setWord off value open_
    { q with crcOk := q.crcOk && decide (q = p) }

/-! ### REGISTER_WRITE -/

/-- A write of RW fields and WC bits of a lane's registers (DEDUCED: log entry 35). -/
def LaneState.writeReg (x : LaneState) (reg : Reg) (value : Nat) (open_ : Rat) : LaneState :=
  match reg with
  | .incrNs | .incrLo | .stepS | .stepNs | .clockFlags | .tickSlew => { x with clock := x.clock.write reg value }
  | .stamp unit => x.onStamp unit fun u => { u with overrun := u.overrun && !value.testBit 1 }
  | .oneStep lan => { x with oneStep := modNth x.oneStep lan fun o => { o with enable := value.testBit 0, ingress := value.testBit 1 } }
  | .pulseCtrl g | .pulseStartLo g | .pulseStartHi g | .pulseStartNs g | .pulsePeriodLo g | .pulsePeriodHi g | .pulseWidth g =>
    { x with pulses := modNth x.pulses g fun p => p.write reg value }
  | .engStatus => { x with alloc := { x.alloc with eng := { x.alloc.eng with refused := x.alloc.eng.refused && !value.testBit 3 } } }
  | .engReset =>
    { x with alloc := { x.alloc with eng := { x.alloc.eng with resetAct := value % 2 ^ 24, resetPow := value / 2 ^ 24 % 2 ^ 6 } } }
  | .fbStatus channel =>
    { x with fb := (x.fb.withChan x.img.fbch channel fun _ f =>
        ({ f with indexSeen := f.indexSeen && !value.testBit 9, illegalSeen := f.illegalSeen && !value.testBit 10 }, [])).1 }
  | .setpoint axis | .setpointControl axis | .setpointSeq axis =>
    { x with loop := { x.loop with buffer := modNth x.loop.buffer axis fun e => e.write reg value open_ } }
  | .problem off => { x with alloc := { x.alloc with problem := x.alloc.problem.write off value open_ } }

/-- REGISTER_WRITE (00 R10): the registers of a lane that has its rails (DEDUCED: log entry 35). -/
def execRegisterWrite (lane : Lane) (reg : Reg) (value : Nat) (s : State) : Result :=
  .next (if (s.lane lane).life.powered then
      s.tick.onLane lane fun x => x.writeReg reg value (Config.freshRat s.fresh)
    else s)

/-! ## ALARM_ACKNOWLEDGEMENT (03 R93, R110, R112) -/

/-- A code about a thing is marked as acknowledged (DEDUCED: log entry 61). -/
def LaneState.acknowledge (x : LaneState) (c : Code) (item : Nat) : LaneState :=
  { x with alarms := x.alarms.map fun a => if a.code = c ∧ a.item = item then { a with acked := true } else a }

/-- ALARM_ACKNOWLEDGEMENT (03 R112): the code is the new value in the ledger (DEDUCED: log entry 61). -/
def execAlarmAcknowledgement (lane : Lane) (msg : Msg) (code : Code) (item : Nat) (s : State) : Result :=
  .next (s.command lane msg
    ⟨namedObject msg, 0x8, 1, true, [], some (codeAscii code), if hasAlarm (s.lane lane).alarms code item then none else some (stRefused, 0)⟩
    fun t => t.onLane lane fun x => x.acknowledge code item)

/-! ## The Muslin link -/

/-- One serial lane fails, as both lanes see it. -/
def LaneState.loseSerial (x : LaneState) (second : Bool) : LaneState :=
  let m : MuslinState := if second then { x.muslin with serial1 := false } else { x.muslin with serial0 := false }
  let y : LaneState := { x with muslin := m }
  if x.runs then
    (if m.serial0 || m.serial1 then y.codes [.hold ⟨.ln, 22⟩ 0 0] else y.codes [.clear ⟨.ln, 22⟩ 0, .hold ⟨.ln, 21⟩ 0 0])
  else y

/-- MUSLIN_SERIAL_LANE_FAILED (02 R65): LN-022, and LN-021 where it was the last. -/
def execMuslinSerialLaneFailed (second : Bool) (s : State) : Result :=
  .next { s with laneA := s.laneA.loseSerial second, laneB := s.laneB.loseSerial second }

/-- CRC-32C of the eight coefficient slots; the built-in sets are alike in both lanes (14 R419) (DEDUCED: log entry 81). -/
def LaneState.customCrcs (x : LaneState) : List Nat := (List.range 8).map fun n => if n < 4 then 0 else slotCrc x.attic.coeffs n

/-- What a lane does with a transfer of the other lane. -/
def LaneState.transfer (x : LaneState) (item : MuslinItem) : LaneState :=
  match item with
  | .fbArm channel => x.armChannel channel
  | .anChannel channel start alt => x.queueChannel channel start alt
  | .ephemeris e => if x.intake then ({ x with gnss := (x.gnss.offerEph e true).1 } : LaneState).keepEphs else x
  | .timeTransfer ns => x.onStamp 4 fun u => u.capture (x.nowNs + ns)
  | .aiding leap => { x with gnss := { x.gnss with leap := some leap } }
  | .coeffCrcs crcs => x.codes [AlarmOp.whileOn (crcs.drop 4 != x.customCrcs.drop 4) ⟨.an, 21⟩ 0 0]

/-- MUSLIN_TRANSFER_RECEIVED (11 R346; 14 R418 to R420; 05 R154; 04 R132, R133). -/
def execMuslinTransferReceived (lane : Lane) (item : MuslinItem) (s : State) : Result :=
  .next (s.onLane lane fun x => if x.life.powered && (x.muslin.serial0 || x.muslin.serial1) then x.transfer item else x)

end Sys2Proof.Machine
end

