-- ==== Sys2Proof/Machine/Dispatch.lean ====
section
/-!
DEFINITION. One arm per command: a direct call of its meaning.
-/

namespace Sys2Proof.Machine

def exec (i : Instr) (s : State) : Host.Outcome State Fault Refusal :=
  match i with
  | .lanePowerUp lane feed => Sys2Proof.Machine.execLanePowerUp lane feed s
  | .bootComplete lane err => Sys2Proof.Machine.execBootComplete lane err s
  | .bootWatchdogReset lane => Sys2Proof.Machine.execBootWatchdogReset lane s
  | .keyCheckComplete lane => Sys2Proof.Machine.execKeyCheckComplete lane s
  | .startSelfTestComplete lane test => Sys2Proof.Machine.execStartSelfTestComplete lane test s
  | .frameTick lane inp => Sys2Proof.Machine.execFrameTick lane inp s
  | .microframeTick lane inp => Sys2Proof.Machine.execMicroframeTick lane inp s
  | .heartbeatReceived dest bytes offset => Sys2Proof.Machine.execHeartbeatReceived dest bytes offset s
  | .stateCopyReceived lane damage => Sys2Proof.Machine.execStateCopyReceived lane damage s
  | .abdication lane cause => Sys2Proof.Machine.execAbdication lane cause s
  | .abdicationFrameReceived dest bytes => Sys2Proof.Machine.execAbdicationFrameReceived dest bytes s
  | .baizeReady => Sys2Proof.Machine.execBaizeReady s
  | .baizeTick inp => Sys2Proof.Machine.execBaizeTick inp s
  | .baizeStatusReceived lane bytes => Sys2Proof.Machine.execBaizeStatusReceived lane bytes s
  | .baizeBusFrameSeen lane bus => Sys2Proof.Machine.execBaizeBusFrameSeen lane bus s
  | .takeover lane => Sys2Proof.Machine.execTakeover lane s
  | .commandedSwitchover lane => Sys2Proof.Machine.execCommandedSwitchover lane s
  | .transmitInhibitAssert lane => Sys2Proof.Machine.execTransmitInhibitAssert lane s
  | .homeOnlyPeriodEnd => Sys2Proof.Machine.execHomeOnlyPeriodEnd s
  | .revertHoldoffEnd => Sys2Proof.Machine.execRevertHoldoffEnd s
  | .baizeAbsent lane => Sys2Proof.Machine.execBaizeAbsent lane s
  | .baizePresentAgain => Sys2Proof.Machine.execBaizePresentAgain s
  | .unrefereedTakeover lane => Sys2Proof.Machine.execUnrefereedTakeover lane s
  | .autoRestart lane => Sys2Proof.Machine.execAutoRestart lane s
  | .laneSwitch lane msg => Sys2Proof.Machine.execLaneSwitch lane msg s
  | .laneIsolate lane msg value => Sys2Proof.Machine.execLaneIsolate lane msg value s
  | .laneAdoptImage lane msg => Sys2Proof.Machine.execLaneAdoptImage lane msg s
  | .laneRestart lane msg target => Sys2Proof.Machine.execLaneRestart lane msg target s
  | .partnerTakeCommand lane msg value => Sys2Proof.Machine.execPartnerTakeCommand lane msg value s
  | .partnerMessageReceived lane bytes => Sys2Proof.Machine.execPartnerMessageReceived lane bytes s
  | .partnerRequestLapse lane => Sys2Proof.Machine.execPartnerRequestLapse lane s
  | .partnerMessagesLost lane => Sys2Proof.Machine.execPartnerMessagesLost lane s
  | .partnerAutoTakeover lane => Sys2Proof.Machine.execPartnerAutoTakeover lane s
  | .shadowComparisonFault lane => Sys2Proof.Machine.execShadowComparisonFault lane s
  | .cellarWriteOpen lane msg bank length expected => Sys2Proof.Machine.execCellarWriteOpen lane msg bank length expected s
  | .cellarWriteChunk lane msg offset data => Sys2Proof.Machine.execCellarWriteChunk lane msg offset data s
  | .cellarWriteClose lane msg => Sys2Proof.Machine.execCellarWriteClose lane msg s
  | .cellarVerifyComplete lane => Sys2Proof.Machine.execCellarVerifyComplete lane s
  | .cellarWriteAbort lane msg => Sys2Proof.Machine.execCellarWriteAbort lane msg s
  | .cellarWriteTimeout lane => Sys2Proof.Machine.execCellarWriteTimeout lane s
  | .cellarSelect lane msg bank => Sys2Proof.Machine.execCellarSelect lane msg bank s
  | .cellarKeyRemoved lane => Sys2Proof.Machine.execCellarKeyRemoved lane s
  | .cellarKeyInserted lane key => Sys2Proof.Machine.execCellarKeyInserted lane key s
  | .keyStoreAdd lane msg signer keyId kind key => Sys2Proof.Machine.execKeyStoreAdd lane msg signer keyId kind key s
  | .keyStoreRemove lane msg signer keyId => Sys2Proof.Machine.execKeyStoreRemove lane msg signer keyId s
  | .makerTokenEntry lane serial token response => Sys2Proof.Machine.execMakerTokenEntry lane serial token response s
  | .makerTokenLapse lane linkDrop => Sys2Proof.Machine.execMakerTokenLapse lane linkDrop s
  | .feedGood lane feed reading => Sys2Proof.Machine.execFeedGood lane feed reading s
  | .feedLost lane feed reading => Sys2Proof.Machine.execFeedLost lane feed reading s
  | .feedLowVoltage lane feed => Sys2Proof.Machine.execFeedLowVoltage lane feed s
  | .feedHighVoltage lane feed => Sys2Proof.Machine.execFeedHighVoltage lane feed s
  | .powerClaim lane msg mask => Sys2Proof.Machine.execPowerClaim lane msg mask s
  | .gnssDump lane antenna obs => Sys2Proof.Machine.execGnssDump lane antenna obs s
  | .searchHit lane antenna signal svid cn0 elevation channel => Sys2Proof.Machine.execSearchHit lane antenna signal svid cn0 elevation channel s
  | .slotRelease lane antenna slot => Sys2Proof.Machine.execSlotRelease lane antenna slot s
  | .antennaBiasFault lane antenna => Sys2Proof.Machine.execAntennaBiasFault lane antenna s
  | .antennaBiasRetry lane antenna => Sys2Proof.Machine.execAntennaBiasRetry lane antenna s
  | .navMessage lane nav => Sys2Proof.Machine.execNavMessage lane nav s
  | .rtcmFrameReceived lane bytes => Sys2Proof.Machine.execRtcmFrameReceived lane bytes s
  | .gnssPeerSolutionReceived lane => Sys2Proof.Machine.execGnssPeerSolutionReceived lane s
  | .gnssSolutionTimeout lane => Sys2Proof.Machine.execGnssSolutionTimeout lane s
  | .headingFixTimeout lane => Sys2Proof.Machine.execHeadingFixTimeout lane s
  | .untrackedTimeout lane antenna => Sys2Proof.Machine.execUntrackedTimeout lane antenna s
  | .sentenceReceived lane source bytes arrival => Sys2Proof.Machine.execSentenceReceived lane source bytes arrival s
  | .referenceBinaryFrame lane source bytes arrival => Sys2Proof.Machine.execReferenceBinaryFrame lane source bytes arrival s
  | .referenceLost lane ref => Sys2Proof.Machine.execReferenceLost lane ref s
  | .predictionOnlyTimeout lane heading => Sys2Proof.Machine.execPredictionOnlyTimeout lane heading s
  | .refsSelect lane msg ref on => Sys2Proof.Machine.execRefsSelect lane msg ref on s
  | .refsAccept lane msg ref => Sys2Proof.Machine.execRefsAccept lane msg ref s
  | .refsAnchor lane msg ref => Sys2Proof.Machine.execRefsAnchor lane msg ref s
  | .deadReckoningLimit lane heading => Sys2Proof.Machine.execDeadReckoningLimit lane heading s
  | .ctrlMode lane msg mode => Sys2Proof.Machine.execCtrlMode lane msg mode s
  | .ctrlSetpoint lane msg kind gen x y h => Sys2Proof.Machine.execCtrlSetpoint lane msg kind gen x y h s
  | .ctrlGainBank lane msg bank => Sys2Proof.Machine.execCtrlGainBank lane msg bank s
  | .ctrlJoystick lane msg x y z seq => Sys2Proof.Machine.execCtrlJoystick lane msg x y z seq s
  | .ctrlFootprint lane msg cn ce radius => Sys2Proof.Machine.execCtrlFootprint lane msg cn ce radius s
  | .ctrlBiasRelease lane msg => Sys2Proof.Machine.execCtrlBiasRelease lane msg s
  | .ctrlTrackPoint lane msg n point => Sys2Proof.Machine.execCtrlTrackPoint lane msg n point s
  | .ctrlTrackCommit lane msg n => Sys2Proof.Machine.execCtrlTrackCommit lane msg n s
  | .ctrlTargetOffset lane msg x y => Sys2Proof.Machine.execCtrlTargetOffset lane msg x y s
  | .joystickTimeout lane => Sys2Proof.Machine.execJoystickTimeout lane s
  | .crossTrackTimeout lane => Sys2Proof.Machine.execCrossTrackTimeout lane s
  | .targetLost lane => Sys2Proof.Machine.execTargetLost lane s
  | .engStart lane value => Sys2Proof.Machine.execEngStart lane value s
  | .engineRunComplete lane damaged => Sys2Proof.Machine.execEngineRunComplete lane damaged s
  | .allocExclude lane msg actuator on => Sys2Proof.Machine.execAllocExclude lane msg actuator on s
  | .actuatorReentry lane actuator => Sys2Proof.Machine.execActuatorReentry lane actuator s
  | .transitTimeout lane actuator => Sys2Proof.Machine.execTransitTimeout lane actuator s
  | .followingErrorFault lane axis => Sys2Proof.Machine.execFollowingErrorFault lane axis s
  | .feedbackFreeze lane axis => Sys2Proof.Machine.execFeedbackFreeze lane axis s
  | .feLatchExpiry lane axis => Sys2Proof.Machine.execFeLatchExpiry lane axis s
  | .loopReset lane msg axis => Sys2Proof.Machine.execLoopReset lane msg axis s
  | .outLimitTimeout lane axis => Sys2Proof.Machine.execOutLimitTimeout lane axis s
  | .indexEvent lane channel => Sys2Proof.Machine.execIndexEvent lane channel s
  | .illegalTransitionFault lane channel => Sys2Proof.Machine.execIllegalTransitionFault lane channel s
  | .wireDisagree lane channel sample => Sys2Proof.Machine.execWireDisagree lane channel sample s
  | .amplitudeLoss lane channel => Sys2Proof.Machine.execAmplitudeLoss lane channel s
  | .ssiFrameComplete lane channel sample frame => Sys2Proof.Machine.execSsiFrameComplete lane channel sample frame s
  | .ssiLoss lane channel => Sys2Proof.Machine.execSsiLoss lane channel s
  | .sensorSupplyShort lane channel => Sys2Proof.Machine.execSensorSupplyShort lane channel s
  | .sensorSupplyOpen lane channel => Sys2Proof.Machine.execSensorSupplyOpen lane channel s
  | .sensorSupplyRetry lane channel => Sys2Proof.Machine.execSensorSupplyRetry lane channel s
  | .lossClear lane channel => Sys2Proof.Machine.execLossClear lane channel s
  | .countLatchRead lane channel => Sys2Proof.Machine.execCountLatchRead lane channel s
  | .fbArm lane msg channel => Sys2Proof.Machine.execFbArm lane msg channel s
  | .fbClear lane msg channel => Sys2Proof.Machine.execFbClear lane msg channel s
  | .txbRequest lane bus buffer since => Sys2Proof.Machine.execTxbRequest lane bus buffer since s
  | .txbCancel lane bus buffer time => Sys2Proof.Machine.execTxbCancel lane bus buffer time s
  | .canFrameComplete lane bus sof ns => Sys2Proof.Machine.execCanFrameComplete lane bus sof ns s
  | .canTxError lane bus sof error => Sys2Proof.Machine.execCanTxError lane bus sof error s
  | .busOffRecovery lane bus => Sys2Proof.Machine.execBusOffRecovery lane bus s
  | .canFrameReceived lane bus frame => Sys2Proof.Machine.execCanFrameReceived lane bus frame s
  | .fifoPop lane bus => Sys2Proof.Machine.execFifoPop lane bus s
  | .transmitInhibit lane => Sys2Proof.Machine.execTransmitInhibit lane s
  | .transmitInhibitRelease lane => Sys2Proof.Machine.execTransmitInhibitRelease lane s
  | .driveStatusTimeout lane source => Sys2Proof.Machine.execDriveStatusTimeout lane source s
  | .commandLate lane bus key => Sys2Proof.Machine.execCommandLate lane bus key s
  | .voterWatchdogExpiry voter => Sys2Proof.Machine.execVoterWatchdogExpiry voter s
  | .testPulse second low => Sys2Proof.Machine.execTestPulse second low s
  | .safeRecordTransfer lane => Sys2Proof.Machine.execSafeRecordTransfer lane s
  | .safetyExchangeReceived dest source => Sys2Proof.Machine.execSafetyExchangeReceived dest source s
  | .firSample lane channel samples => Sys2Proof.Machine.execFirSample lane channel samples s
  | .analogInputInvalid lane channel => Sys2Proof.Machine.execAnalogInputInvalid lane channel s
  | .analogInputValid lane channel => Sys2Proof.Machine.execAnalogInputValid lane channel s
  | .analogFillComplete lane channel => Sys2Proof.Machine.execAnalogFillComplete lane channel s
  | .anChannel lane msg channel start alt => Sys2Proof.Machine.execAnChannel lane msg channel start alt s
  | .anCoeffLoad lane msg slot len design taps => Sys2Proof.Machine.execAnCoeffLoad lane msg slot len design taps s
  | .anOutSet lane msg output value => Sys2Proof.Machine.execAnOutSet lane msg output value s
  | .anOutTimeout lane output => Sys2Proof.Machine.execAnOutTimeout lane output s
  | .analogReadbackFault lane output => Sys2Proof.Machine.execAnalogReadbackFault lane output s
  | .discreteOutputOverload output => Sys2Proof.Machine.execDiscreteOutputOverload output s
  | .discreteOutputRetry output => Sys2Proof.Machine.execDiscreteOutputRetry output s
  | .networkFrameReceived lane port frame arrival => Sys2Proof.Machine.execNetworkFrameReceived lane port frame arrival s
  | .prpSupervision lane => Sys2Proof.Machine.execPrpSupervision lane s
  | .linkChange lane port up => Sys2Proof.Machine.execLinkChange lane port up s
  | .nodeForget lane source => Sys2Proof.Machine.execNodeForget lane source s
  | .incrWrite lane value => Sys2Proof.Machine.execIncrWrite lane value s
  | .stepArm lane => Sys2Proof.Machine.execStepArm lane s
  | .stepApply lane => Sys2Proof.Machine.execStepApply lane s
  | .slewComplete lane => Sys2Proof.Machine.execSlewComplete lane s
  | .timeSnapshotRead lane => Sys2Proof.Machine.execTimeSnapshotRead lane s
  | .timestampCapture lane unit ns => Sys2Proof.Machine.execTimestampCapture lane unit ns s
  | .captureNow lane ns => Sys2Proof.Machine.execCaptureNow lane ns s
  | .captureRelease lane unit => Sys2Proof.Machine.execCaptureRelease lane unit s
  | .ptpMessageReceived lane lan message ns => Sys2Proof.Machine.execPtpMessageReceived lane lan message ns s
  | .ptpSyncSend lane lan ns => Sys2Proof.Machine.execPtpSyncSend lane lan ns s
  | .foreignMasterAgeOut lane identity => Sys2Proof.Machine.execForeignMasterAgeOut lane identity s
  | .sourceQualified lane source offset => Sys2Proof.Machine.execSourceQualified lane source offset s
  | .holdoverEntry lane => Sys2Proof.Machine.execHoldoverEntry lane s
  | .freerunEntry lane => Sys2Proof.Machine.execFreerunEntry lane s
  | .pulseArm lane generator ns => Sys2Proof.Machine.execPulseArm lane generator ns s
  | .pulseEdge lane generator => Sys2Proof.Machine.execPulseEdge lane generator s
  | .pulseWidthEnd lane generator => Sys2Proof.Machine.execPulseWidthEnd lane generator s
  | .timePulse lane msg output pulse => Sys2Proof.Machine.execTimePulse lane msg output pulse s
  | .openSession lane msg => Sys2Proof.Machine.execOpenSession lane msg s
  | .close lane msg => Sys2Proof.Machine.execClose lane msg s
  | .keepalive lane msg => Sys2Proof.Machine.execKeepalive lane msg s
  | .read lane msg => Sys2Proof.Machine.execRead lane msg s
  | .subscribe lane msg => Sys2Proof.Machine.execSubscribe lane msg s
  | .sessionTimeout lane session => Sys2Proof.Machine.execSessionTimeout lane session s
  | .canvasRequest lane region => Sys2Proof.Machine.execCanvasRequest lane region s
  | .canvasTick inp => Sys2Proof.Machine.execCanvasTick inp s
  | .canvasPhaseBoundary => Sys2Proof.Machine.execCanvasPhaseBoundary s
  | .canvasRailsIdle => Sys2Proof.Machine.execCanvasRailsIdle s
  | .canvasRailRetry => Sys2Proof.Machine.execCanvasRailRetry s
  | .crackLoopCheck ohm => Sys2Proof.Machine.execCrackLoopCheck ohm s
  | .canvasTemperatureClear => Sys2Proof.Machine.execCanvasTemperatureClear s
  | .canvasPowerFail => Sys2Proof.Machine.execCanvasPowerFail s
  | .canvasStart readable ohm => Sys2Proof.Machine.execCanvasStart readable ohm s
  | .canvasRestart lane msg => Sys2Proof.Machine.execCanvasRestart lane msg s
  | .canvasStatusTimeout lane => Sys2Proof.Machine.execCanvasStatusTimeout lane s
  | .registerWrite lane reg value => Sys2Proof.Machine.execRegisterWrite lane reg value s
  | .filteredLineChange lane channel sample a b z ca cb cz => Sys2Proof.Machine.execFilteredLineChange lane channel sample a b z ca cb cz s
  | .sineCosineConversion lane channel sample sine cosine => Sys2Proof.Machine.execSineCosineConversion lane channel sample sine cosine s
  | .alarmAcknowledgement lane msg code item => Sys2Proof.Machine.execAlarmAcknowledgement lane msg code item s
  | .makerCommand lane op => Sys2Proof.Machine.execMakerCommand lane op s
  | .captureValidRead lane unit => Sys2Proof.Machine.execCaptureValidRead lane unit s
  | .railsRampDown part => Sys2Proof.Machine.execRailsRampDown part s
  | .calendarOscillatorStop clock => Sys2Proof.Machine.execCalendarOscillatorStop clock s
  | .muslinSerialLaneFailed second => Sys2Proof.Machine.execMuslinSerialLaneFailed second s
  | .gnssFrontEndFault lane antenna low => Sys2Proof.Machine.execGnssFrontEndFault lane antenna low s
  | .ptpDelayRequest lane lan ns => Sys2Proof.Machine.execPtpDelayRequest lane lan ns s
  | .muslinTransferReceived lane item => Sys2Proof.Machine.execMuslinTransferReceived lane item s

end Sys2Proof.Machine
end

