-- ==== Sys2Proof/Safety.lean ====
section
/-!
DEFINITION. The terms statements are made in: the WRITE of the operator protocol that a lane takes, the lane after it, and
the conditions a safe block keeps at every step.
-/

namespace Sys2Proof

namespace Machine

/-! ## Commands of the operator protocol (15 R455, R457, R458; 03 R110) -/

/-- A lane takes a message as a WRITE of one item: its session after the message, the datagram, the value written
(15 R455, R457). -/
def LaneState.writes (x : LaneState) (m : Msg) (object : Nat) (ses : SessionState) (q : Session) (d : Datagram) (v : Bytes) : Prop :=
  x.ses.enter m = some (ses, q, d) ∧ d.type = 0x11 ∧ writeItem d.body = some (object, v)

/-- A lane takes a message of a type other than WRITE (15 R455, R457). -/
def LaneState.hearsType (x : LaneState) (m : Msg) (type : Nat) (ses : SessionState) (q : Session) (d : Datagram) : Prop :=
  x.ses.enter m = some (ses, q, d) ∧ d.type = type

/-- The lane with the one-item REPLY to a message waiting for its next frame (15 R455, R458). -/
def LaneState.replies (x : LaneState) (ses : SessionState) (q : Session) (d : Datagram) (status reason object : Nat) : LaneState :=
  { x with ses := ses.answer q 0x12 d.seq [⟨status, reason, object, []⟩] [] }

/-- The lane with a change in its ledger (03 R110, R112). -/
def LaneState.logs (x : LaneState) (role object keyId : Nat) (old new : Bytes) : LaneState :=
  { x with ledger := x.ledger.add (x.entry role 2 object keyId old new) }

/-- The lane that has accepted a WRITE as an operator change (role 1) or an installer change (role 2). -/
def LaneState.accepted (x : LaneState) (ses : SessionState) (q : Session) (d : Datagram) (role object : Nat) (old new : Bytes) : LaneState :=
  (x.logs role object q.keyId old new).replies ses q d 0 0 object

/-- A lane accepts a WRITE to an object: the station holds the right, an operator change meets the active lane, the ledger
writes and reads back. `u` is the state in which the reply with status 0 waits and the change stands in the ledger:
`change` is its old and its new value (the value written where none is given); none of a command that is no change. -/
def State.accepts (s : State) (l : Lane) (m : Msg) (object right role : Nat) (change : Option (Bytes × Option Bytes)) (u : State) : Prop :=
  ∃ ses q d v, (s.lane l).writes m object ses q d v ∧ q.rights &&& right = right ∧ (role = 1 → (s.lane l).active = true) ∧
    (s.lane l).ledger.failing = false ∧
    u = s.setLane l (match change with
      | none => (s.lane l).replies ses q d 0 0 object
      | some (old, new) => (s.lane l).accepted ses q d role object old (new.getD v))

end Machine

open Machine in
/-- The WRITE commands: the lane that hears it, the message, the object, the right it needs (03 R93), the role it belongs to (1
operator, 2 installer; 03 R106) and whether it is a change that goes to the ledger (03 R110). -/
def Instr.asks (s : State) : Instr → Option (Lane × Msg × Nat × Nat × Nat × Bool)
  | .laneSwitch l m => some (l, m, 0x1020, 0x200, 2, true)
  | .laneIsolate l m _ => some (l, m, 0x1021, 0x200, 2, true)
  | .laneAdoptImage l m => some (l, m, 0x1022, 0x200, 2, true)
  | .laneRestart l m _ => some (l, m, 0x1023, 0x200, 2, true)
  | .partnerTakeCommand l m _ => some (l, m, 0x1031, 0x10, 1, true)
  | .cellarWriteOpen l m _ _ _ => some (l, m, 0x1310, 0x100, 2, true)
  | .cellarWriteChunk l m _ _ => some (l, m, 0x1311, 0x100, 2, false)
  | .cellarWriteClose l m => some (l, m, 0x1312, 0x100, 2, false)
  | .cellarWriteAbort l m => some (l, m, 0x1313, 0x100, 2, false)
  | .cellarSelect l m bank => some (l, m, 0x1314, 0x100, 2, bank != (s.lane l).cellar.selected)
  | .keyStoreAdd l m _ _ _ _ | .keyStoreRemove l m _ _ => some (l, m, namedObject m, 0x1000, 2, true)
  | .powerClaim l m _ => some (l, m, 0x1401, 0x400, 2, true)
  | .refsSelect l m _ _ => some (l, m, 0x4201, 1, 1, true)
  | .refsAccept l m _ => some (l, m, 0x4202, 1, 1, true)
  | .refsAnchor l m _ => some (l, m, 0x4203, 1, 1, true)
  | .ctrlMode l m mode => some (l, m, 0x2201, if mode = 8 ∨ (s.lane l).ctrl.mode = 8 then 0x21 else 1, 1, true)
  | .ctrlSetpoint l m _ _ _ _ _ => some (l, m, 0x2202, 1, 1, true)
  | .ctrlGainBank l m _ => some (l, m, 0x2203, 4, 1, true)
  | .ctrlJoystick l m _ _ _ _ => some (l, m, 0x2204, 1, 1, false)
  | .ctrlFootprint l m _ _ _ => some (l, m, 0x2205, 1, 1, true)
  | .ctrlBiasRelease l m => some (l, m, 0x2206, 1, 1, true)
  | .ctrlTrackPoint l m _ _ => some (l, m, 0x2210, 2, 1, true)
  | .ctrlTrackCommit l m _ => some (l, m, 0x2211, 2, 1, true)
  | .ctrlTargetOffset l m _ _ => some (l, m, 0x2221, 2, 1, true)
  | .allocExclude l m _ _ => some (l, m, 0x3010, 1, 1, true)
  | .loopReset l m _ => some (l, m, 0x3410, if m.port == 1 then 0x400 else 1, if m.port == 1 then 2 else 1, true)
  | .fbArm l m _ => some (l, m, 0x5210, 0x400, 2, true)
  | .fbClear l m _ => some (l, m, 0x5211, 0x400, 2, true)
  | .anChannel l m _ _ _ => some (l, m, 0x5020, 0x400, 2, true)
  | .anCoeffLoad l m _ _ _ _ => some (l, m, 0x5021, 0x400, 2, true)
  | .anOutSet l m _ _ => some (l, m, 0x5030, 0x400, 2, true)
  | .timePulse l m _ _ => some (l, m, 0x6020, 0x400, 2, true)
  | .canvasRestart l m => some (l, m, 0x1501, 0x400, 2, true)
  | .alarmAcknowledgement l m _ _ => some (l, m, namedObject m, 0x8, 1, true)
  | _ => none

namespace Machine

/-! ## Parts of a lane that an event changes -/

/-- The lane with one feedback channel replaced (11), one axis slot (10), one bus (12), one analog input or output (14), one
actuator (09), one timestamp unit or pulse generator (15), one antenna (05). -/
def LaneState.setChan (x : LaneState) (n : Nat) (f : FbChan) : LaneState := { x with fb := { x.fb with chans := x.fb.chans.set n f } }
def LaneState.setAxis (x : LaneState) (n : Nat) (a : AxisSlot) : LaneState := { x with loop := { x.loop with axes := x.loop.axes.set n a } }
def LaneState.setBus (x : LaneState) (n : Nat) (b : Bus) : LaneState := { x with can := { x.can with buses := x.can.buses.set n b } }
def LaneState.setInput (x : LaneState) (n : Nat) (a : AnChan) : LaneState := { x with analog := { x.analog with chans := x.analog.chans.set n a } }
def LaneState.setOutput (x : LaneState) (n : Nat) (o : AnOut) : LaneState := { x with analog := { x.analog with outs := x.analog.outs.set n o } }
def LaneState.setStamp (x : LaneState) (n : Nat) (u : StampUnit) : LaneState := { x with stamps := x.stamps.set n u }
def LaneState.setPulse (x : LaneState) (n : Nat) (g : PulseGen) : LaneState := { x with pulses := x.pulses.set n g }
def LaneState.setAnt (x : LaneState) (k : Nat) (a : AntennaState) : LaneState := { x with gnss := x.gnss.setAnt k a }

/-- Those parts of a lane. -/
def LaneState.chan (x : LaneState) (n : Nat) : FbChan := nth default x.fb.chans n
def LaneState.axis (x : LaneState) (n : Nat) : AxisSlot := nth default x.loop.axes n
def LaneState.bus (x : LaneState) (n : Nat) : Bus := nth default x.can.buses n
def LaneState.input (x : LaneState) (n : Nat) : AnChan := nth default x.analog.chans n
def LaneState.output (x : LaneState) (n : Nat) : AnOut := nth default x.analog.outs n
def LaneState.stamp (x : LaneState) (n : Nat) : StampUnit := nth default x.stamps n
def LaneState.pulse (x : LaneState) (n : Nat) : PulseGen := nth default x.pulses n

/-- A lane with the active codes and the Larder of another: what raising and clearing codes changes. -/
def LaneState.codesOf (x y : LaneState) : LaneState := { x with alarms := y.alarms, larder := y.larder }

/-- `t` is `s` but for what `f` takes of the lane `l` of `t`, and for that lane's active codes and Larder. -/
def State.laneOnly (s t : State) (l : Lane) (f : LaneState → LaneState → LaneState) : Prop :=
  t = s.setLane l ((f (s.lane l) (t.lane l)).codesOf (t.lane l))

/-- The active codes and the Larder of a lane are as they were. -/
def State.alarmsKept (t s : State) (l : Lane) : Prop := (t.lane l).alarms = (s.lane l).alarms ∧ (t.lane l).larder = (s.lane l).larder

/-! ## What every step keeps -/

/-- The indices of a lane stay in their ranges: 20 frame slots, 50 motion cycles, 8 microframes (01 R12, R14). -/
def FrameState.inRange (f : FrameState) : Prop := f.slot < 20 ∧ f.motion < 50 ∧ f.micro < 8

/-- INCR lies within 200 ppm of 8 ns and TICK_SLEW within 50 ppm (15 R439 to R441). -/
def ClockState.inBounds (c : ClockState) : Prop := incrLow ≤ c.incr ∧ c.incr ≤ incrHigh ∧ -slewMax ≤ c.tickSlew ∧ c.tickSlew ≤ slewMax

/-- Indices and clock registers of both lanes, and the indices of the Baize. -/
def State.indicesOk (s : State) : Prop :=
  (∀ l, (s.lane l).frame.inRange ∧ (s.lane l).clock.inBounds) ∧ s.baize.slot < 20 ∧ s.baize.motion < 50

/-- The tables of a lane hold no more than the spec gives them: 2 048 ledger entries (03 R113), 4 sessions (15 R453), 256
PRP sources (15 R435), 8 foreign masters (15 R444), 64 frames in each receive FIFO (12 R366). -/
def LaneState.tablesOk (x : LaneState) : Prop :=
  x.ledger.ring.length ≤ 2048 ∧ x.ses.sessions.length ≤ 4 ∧ x.net.nodes.length ≤ 256 ∧ x.ptp.masters.length ≤ 8 ∧
  ∀ b ∈ x.can.buses, b.fifo.length ≤ 64

/-- The tables of both lanes; 16 analog and 8 discrete outputs (02 R36). -/
def State.tablesOk (s : State) : Prop :=
  (∀ l, (s.lane l).tablesOk) ∧ s.analogOut.length = 16 ∧ s.discreteOut.length = 8 ∧ s.overload.length = 8

/-- No voter that its lane or its cores have lost commands a switch: a FAILED lane's and a disagreeing Baize's commands are
off (02 R40; 13 R386). -/
def State.votersOff (s : State) : Prop :=
  (∀ l, (s.lane l).life.state = .failed → (s.lane l).voter.cmd = 0) ∧
  (s.baize.coresAgree = false ∨ s.baize.safe = none → s.baize.voter.cmd = 0)

/-- The key in a socket is stored in canonical form (03 R79). -/
def State.keysOk (s : State) : Prop := ∀ l k, s.key l = some k → cellsWf k.cells = true

end Machine

end Sys2Proof
end

