-- ==== Sys2Proof/Certificates/Slice0/Obligations.lean ====
section
/-!
DEFINITION. The statements for the provers.
-/

open Sys2Proof Sys2Proof.Machine

/-! ## The queue, reset, and what every step keeps -/

/-- A step runs the command at the front of the queue on the state with the rest of the queue; on an empty queue the block
idles (the second clause is the model's choice, log entry 3). -/
def Obligations.StepRunsFrontCommand : Prop :=
  (∀ (s : State) (c : Instr) (rest : List Instr), s.pending = c :: rest → step s = exec c { s with pending := rest }) ∧
  ∀ s : State, s.pending = [] → step s = .next s

/-- Registers at reset with the reset values of their maps: the clock registers (15 R441), the timestamp units (15 R442),
the pulse generators (15 R451), the engine control registers (09 R278), the transmit buffers and counters of a controller
that no image enables (12 R380); no lane runs; the analog outputs hold 0 (14 R424). -/
def Obligations.ResetRegisters : Prop :=
  ∀ l : Lane,
    let x := State.reset.lane l
    (x.clock.s = 0 ∧ x.clock.ns = 0 ∧ x.clock.incrNs = 8 ∧ x.clock.incrLo = 0 ∧ x.clock.incrHi = 0 ∧ x.clock.incr = 8 * 2 ^ 40 ∧
      x.clock.stepS = 0 ∧ x.clock.stepNs = 0 ∧ x.clock.stepPending = false ∧ x.clock.stepDone = false ∧
      x.clock.incrClamped = false ∧ x.clock.tickSlew = 0 ∧ x.clock.tickOffset = 0) ∧
    (x.stamps.length = 8 ∧ ∀ u ∈ x.stamps, u.valid = false ∧ u.overrun = false ∧ u.s = 0 ∧ u.ns = 0) ∧
    (x.pulses.length = 2 ∧ ∀ g ∈ x.pulses, g.mode = 0 ∧ g.polarity = 0 ∧ g.running = false ∧ g.missed = false ∧ g.omitted = false ∧
      g.startS = 0 ∧ g.startNs = 0 ∧ g.period = 0 ∧ g.width = 0 ∧ g.skipped = 0) ∧
    (x.alloc.eng.run = none ∧ x.alloc.eng.ready = false ∧ x.alloc.eng.refused = false ∧ x.alloc.eng.resetAct = 0 ∧
      x.alloc.eng.resetPow = 0 ∧ x.alloc.eng.lastCycles = 0) ∧
    (x.can.buses.length = 4 ∧ ∀ b ∈ x.can.buses, b.enabled = false ∧ b.tec = 0 ∧ b.rec_ = 0 ∧ b.stateCode = 0 ∧ b.txOk = 0 ∧
      b.errors = 0 ∧ b.fifo = [] ∧ b.bufs.length = 3 ∧ ∀ t ∈ b.bufs, t.state = 0) ∧
    (x.fb.chans.length = 24 ∧ ∀ f ∈ x.fb.chans, f.status = 0 ∧ f.count = 0 ∧ f.ampMin = 0xFFFF ∧ f.phaseErrors = 0) ∧
    x.runs = false ∧ State.reset.analogOut = List.replicate 16 ⟨1, 0⟩ ∧ State.reset.pending = []

/-- The conditions that every step keeps hold at reset. -/
def Obligations.InvariantsAtReset : Prop :=
  State.reset.indicesOk ∧ State.reset.tablesOk ∧ State.reset.votersOff ∧ State.reset.keysOk

/-- Whatever a command does, the frame slot, motion index and microframe index stay in their ranges, and INCR and TICK_SLEW
within their bounds: from every state in which they are, not only from states that runs reach. -/
def Obligations.IndicesAndClockStayInRange : Prop :=
  ∀ s t : State, s.indicesOk → step s = .next t → t.indicesOk

/-- Whatever a command does, no table of a lane grows past the room the spec gives it, and the shared outputs stay 16 and 8. -/
def Obligations.TablesStayBounded : Prop :=
  ∀ s t : State, s.tablesOk → step s = .next t → t.tablesOk

/-- Whatever a command does, a lane that is FAILED commands none of its safety switches, nor does the Baize while its cores
differ or it holds no SAFE record. -/
def Obligations.LostVotersCommandNothing : Prop :=
  ∀ s t : State, s.votersOff → step s = .next t → t.votersOff

/-- Whatever a command does, the keys in the sockets keep their canonical form. -/
def Obligations.KeysStayCanonical : Prop :=
  ∀ s t : State, s.keysOk → step s = .next t → t.keysOk

/-- No command changes the queue that waits behind it, nor the variant or the serial number of the module. -/
def Obligations.QueueAndIdentityUntouched : Prop :=
  ∀ (c : Instr) (s : State), ∃ t, exec c s = .next t ∧ t.pending = s.pending ∧ t.variant = s.variant ∧ t.serial = s.serial

/-- A key in a socket is changed by no command but those the spec gives that effect: its removal or insertion, a chunk, a
close, a flip and a maker's write (03 R80, R97, R98, R101, R106). -/
def Obligations.OnlyKeyCommandsChangeKeys : Prop :=
  ∀ (c : Instr) (s t : State), exec c s = .next t →
    (match c with
     | .cellarKeyRemoved _ | .cellarKeyInserted _ _ | .cellarWriteChunk _ _ _ _ | .cellarWriteClose _ _ | .cellarSelect _ _ _
     | .makerCommand _ _ => True
     | _ => t.keyA = s.keyA ∧ t.keyB = s.keyB)

/-! ## Supply (04 R115 to R118, R120, R124, R131) -/

/-- A feed of a lane enters GOOD, LOST while the other stays, its low and its high voltage, a calendar clock that stops. Each
equation gives the whole next state.
The loss of the second of a lane's feeds makes it abdicate with cause 0x0005 and write-protect its FRAM after the flush
of its operating hours; the other lane, the Baize and the shared outputs stay. The rails of a lane without a feed then ramp
down: it has no power, keeps FRAM, ledger and calendar clock, and runs nothing. -/
def Obligations.FeedEvents : Prop :=
  (∀ (s : State) (l : Lane) (feed r : Nat), feed = 1 ∨ feed = 2 → ((s.lane l).power.feed feed).good = false →
    (s.lane l).life.powered = true → s.baize.powered = true →
    exec (.feedGood l feed r) s = .next (s.onLane l fun x =>
      ({ x with power := { x.power.setFeed feed ⟨true, r⟩ with onHoldup := false, inRun := x.power.inRun.set (feed - 1) 0 } } :
        LaneState).clear ⟨.pw, 1⟩ feed)) ∧
  (∀ (s : State) (l : Lane) (feed r : Nat), feed = 1 ∨ feed = 2 → ((s.lane l).power.feed feed).good = false →
    s.baize.powered = false →
    ∃ t, exec (.feedGood l feed r) s = .next t ∧ t.baize.powered = true ∧ t.baize.ready = false ∧ t.baize.cal = s.baize.cal ∧
      t.baize.active = none ∧ (t.lane l).power.feed feed = ⟨true, r⟩ ∧ t.lane l.other = s.lane l.other) ∧
  (∀ (s : State) (l : Lane) (feed r : Nat), feed = 1 ∨ feed = 2 → ((s.lane l).power.feed feed).good = true →
    ((s.lane l).power.feed (3 - feed)).good = true → (s.lane l).life.powered = true →
    exec (.feedLost l feed r) s = .next (s.onLane l fun x =>
      ({ x with power := { x.power.setFeed feed ⟨false, r⟩ with losses := satInc 16 x.power.losses } } : LaneState).codes
        (AlarmOp.ifOn (if feed = 2 then x.attic.claim2 else x.attic.claim1) ⟨.pw, 1⟩ feed 0 ++
          [.clear ⟨.pw, 2⟩ feed, .clear ⟨.pw, 3⟩ feed]))) ∧
  (∀ (s : State) (l : Lane) (feed : Nat), (s.lane l).life.powered = true → ((s.lane l).power.feed feed).good = true →
    exec (.feedLowVoltage l feed) s = .next (s.onLane l fun x => x.codes [.hold ⟨.pw, 2⟩ feed 0]) ∧
    exec (.feedHighVoltage l feed) s = .next (s.onLane l fun x => x.codes [.hold ⟨.pw, 3⟩ feed 0])) ∧
  (∀ (s : State) (l : Lane), exec (.calendarOscillatorStop (.lane l)) s =
    .next (s.onLane l fun x => { x with cal := { x.cal with valid := false } })) ∧
  (∀ s : State, exec (.calendarOscillatorStop .baize) s = .next { s with baize := { s.baize with cal := { s.baize.cal with valid := false } } }) ∧
  (∀ (s : State) (l : Lane) (feed r : Nat), feed = 1 ∨ feed = 2 → ((s.lane l).power.feed feed).good = true →
    ((s.lane l).power.feed (3 - feed)).good = false → (s.lane l).life.powered = true → (s.lane l).life.state ≠ .failed →
    ∃ t, exec (.feedLost l feed r) s = .next t ∧ (t.lane l).life.state = .failed ∧ (t.lane l).life.cause = 0x0005 ∧
      (t.lane l).voter.cmd = 0 ∧ (t.lane l).power.writeProtected = true ∧ (t.lane l).power.onHoldup = true ∧
      (t.lane l).power.powerUpNext = true ∧
      (t.lane l).attic.opHours = (s.lane l).power.opHours ∧ (t.lane l).attic.opFrac = (s.lane l).power.opFrac ∧
      hasAlarm (t.lane l).alarms ⟨.ln, 4⟩ 0 = true ∧
      t.lane l.other = s.lane l.other ∧ t.baize = s.baize ∧ t.analogOut = s.analogOut ∧ t.discreteOut = s.discreteOut) ∧
  (∀ (s : State) (l : Lane), (s.lane l).life.powered = true → (s.lane l).powerFail = true →
    ∃ t, exec (.railsRampDown (.lane l)) s = .next t ∧ (t.lane l).life.powered = false ∧ (t.lane l).power.regulated = false ∧
      (t.lane l).image = none ∧ (t.lane l).ses.sessions = [] ∧ (t.lane l).attic = (s.lane l).attic ∧
      (t.lane l).ledger = (s.lane l).ledger ∧ (t.lane l).cal = (s.lane l).cal ∧ t.analogOut = s.analogOut) ∧
  (∀ s : State, s.baize.powered = true → s.laneA.powerFail = true → s.laneB.powerFail = true →
    ∃ t, exec (.railsRampDown .baize) s = .next t ∧ t.baize.powered = false ∧ t.baize.active = none ∧ t.baize.cal = s.baize.cal)

/-! ## Start of a lane (04 R120, R126 to R132; 03 R95; 02 R40, R41) -/

/-- A GOOD feed brings up the rails of a lane without power: a start that is no restart, one more power cycle, and the analog
and discrete outputs at their power-up values where no lane drives them. -/
def Obligations.LanePowersUp : Prop :=
  ∀ (s : State) (l : Lane) (feed : Nat), (s.lane l).life.powered = false → ((s.lane l).power.feed feed).good = true →
    ∃ t, exec (.lanePowerUp l feed) s = .next t ∧ (t.lane l).life.powered = true ∧ (t.lane l).life.state = .starting ∧
      (t.lane l).life.phase = .boot ∧ (t.lane l).power.regulated = true ∧ (t.lane l).power.losses = 0 ∧
      (t.lane l).power.opHours = (s.lane l).attic.opHours ∧
      (t.lane l).attic.powerCycles = ((s.lane l).attic.powerCycles + 1) % 2 ^ 32 ∧ (t.lane l).image = none ∧
      (t.lane l).ses.sessions = [] ∧ (t.lane l).ledger = (s.lane l).ledger ∧ (t.lane l).cal = (s.lane l).cal ∧
      t.lane l.other = s.lane l.other ∧ t.baize = { s.baize with suspended := false } ∧
      ((s.lane l.other).power.regulated = false → t.analogOut = List.replicate 16 ⟨1, 0⟩ ∧ t.discreteOut = List.replicate 8 false) ∧
      ((s.lane l.other).power.regulated = true → t.analogOut = s.analogOut ∧ t.discreteOut = s.discreteOut)

/-- Boot complete seeds module time from the first source of 04 R132 that serves: the other lane with its quality, the lane's
own calendar clock, which has run on by a free number of ticks (log entry 50), the Baize's, the creation time of the image; the
key is read next. -/
def Obligations.BootSeedsTime : Prop :=
  ∀ (s : State) (l : Lane) (err : Int), (s.lane l).life.powered = true → (s.lane l).life.state = .starting →
    (s.lane l).life.phase = .boot →
    ∃ t, exec (.bootComplete l err) s = .next t ∧ (t.lane l).life.phase = .key ∧ (t.lane l).life.state = .starting ∧
      (t.lane l).attic.bootCause = 0 ∧ t.lane l.other = s.lane l.other ∧ t.baize = s.baize ∧
      (let o := s.lane l.other
       let c := (t.lane l).clock
       let muslin := (s.lane l).muslin.serial0 || (s.lane l).muslin.serial1
       if o.frame.ticked = true ∧ muslin = true ∧ 1 < o.src.quality.code then
         (t.lane l).src.quality = o.src.quality ∧ (t.lane l).src.source = .other ∧
         (-1000 ≤ err → err ≤ 1000 → c.s = ((o.nowNs : Int) + err).toNat / 1000000000 % 2 ^ 48 ∧
           c.ns = ((o.nowNs : Int) + err).toNat % 1000000000)
       else if (s.lane l).cal.valid = true then
         (t.lane l).src.quality = .calendar ∧ (t.lane l).src.source = .calendar ∧ c.ns = 0 ∧
         c.s = ((s.lane l).cal.ticks + Config.freshNat s.fresh + 32767) / 32768 % 2 ^ 48
       else if s.baize.powered = true ∧ s.baize.cal.valid = true then
         (t.lane l).src.quality = .calendar ∧ (t.lane l).src.source = .calendar ∧ c.ns = 0 ∧
         c.s = (if s.baize.cal.frac = 0 then s.baize.cal.s else s.baize.cal.s + 1) % 2 ^ 48 ∧
         (t.lane l).cal.sinceSet = s.baize.cal.sinceSet
       else
         (t.lane l).src.quality = .unset ∧ (t.lane l).src.source = .image ∧ c.s = s.creationTime l % 2 ^ 48 ∧ c.ns = 0 ∧
         hasAlarm (t.lane l).alarms ⟨.tm, 13⟩ 0 = true)

/-- A boot that does not complete starts the lane again with cause 0x0013 kept in the Attic, a start that counts toward the
restart latch; the third start within 600 s of the calendar clock ends in FAILED. The key check runs the image it finds, or
fails the lane with the cause it found; without a key in the socket that is 0x0011. The self-test ends in the wait for the
frame indices, in STANDBY or ISOLATED, or in FAILED with cause 0x0012. -/
def Obligations.LaneStartsOrFails : Prop :=
  (∀ (s : State) (l : Lane), (s.lane l).life.powered = true → (s.lane l).life.state = .starting → (s.lane l).life.phase = .boot →
    ∃ t, exec (.bootWatchdogReset l) s = .next t ∧ (t.lane l).attic.bootCause = 0x0013 ∧ (t.lane l).life.cause = 0x0013 ∧
      (t.lane l).attic.starts = ((s.lane l).cal.ticks :: (s.lane l).attic.starts).take 8 ∧
      (t.lane l).life.state = (if 3 ≤ ((((s.lane l).cal.ticks :: (s.lane l).attic.starts).take 8).filter
          fun k => decide ((s.lane l).cal.ticks < k + 600 * 32768)).length then LaneLife.failed else .starting) ∧
      t.lane l.other = s.lane l.other ∧ t.baize = s.baize) ∧
  (∀ (s : State) (l : Lane), (s.lane l).life.state = .starting → (s.lane l).life.phase = .key →
    ∃ t, exec (.keyCheckComplete l) s = .next t ∧ t.lane l.other = s.lane l.other ∧ t.baize = s.baize ∧
      (match ((s.lane l).cellar.start (s.key l) s.variant (s.lane l).attic.signerKeys).2.1 with
       | some i => (t.lane l).image = some i ∧ (t.lane l).life.state = .starting ∧ (t.lane l).life.phase = .selfTest
       | none => (t.lane l).life.state = .failed ∧
          (t.lane l).life.cause = ((s.lane l).cellar.start (s.key l) s.variant (s.lane l).attic.signerKeys).2.2.2)) ∧
  (∀ (s : State) (l : Lane), (s.lane l).life.state = .starting → (s.lane l).life.phase = .key → s.key l = none →
    ∃ t, exec (.keyCheckComplete l) s = .next t ∧ (t.lane l).life.state = .failed ∧ (t.lane l).life.cause = 0x0011 ∧
      hasAlarm (t.lane l).alarms ⟨.cl, 1⟩ 0 = true) ∧
  (∀ (s : State) (l : Lane) (test : StartTest), (s.lane l).life.state = .starting → (s.lane l).life.phase = .selfTest →
    ∃ t, exec (.startSelfTestComplete l test) s = .next t ∧ t.lane l.other = s.lane l.other ∧ t.baize = s.baize ∧
      (t.lane l).power.holdup = test.holdup ∧ (t.lane l).muslin.serial0 = test.serial0 ∧ (t.lane l).muslin.serial1 = test.serial1 ∧
      (if test.faults ≠ [] then
         (t.lane l).life.state = .failed ∧ (t.lane l).life.cause = 0x0012 ∧ (t.lane l).life.startFailed = test.faults
       else if (s.lane l).frame.ticked = true ∧ (s.lane l).frame.adopted = true then
         (t.lane l).life.phase = .done ∧ (t.lane l).life.cause = 0 ∧
         (t.lane l).life.state = (if (s.lane l).imageDiffers = true then LaneLife.isolated else .standby)
       else (t.lane l).life.state = .starting ∧ (t.lane l).life.phase = .adopt))

/-! ## Ticks of a lane (00 R8; 01 R12 to R18; 02 R36, R53) -/

/-- A frame tick of a lane that has its ticks: the frame number advances by one, the frame slot and the motion index follow it
through 20 slots and 50 motion cycles, microframe 0 begins, and the tick acknowledgements are the tick's. Module time advances
by 1 ms where the ticks do not slew and no source moves it. The first tick of a lane that hears no other takes its indices
from module time, on a whole millisecond. -/
def Obligations.FrameTickAdvances : Prop :=
  (∀ (s : State) (l : Lane) (inp : FrameIn), (s.lane l).clocked = true → (s.lane l).frame.ticked = true →
    ∃ t, exec (.frameTick l inp) s = .next t ∧
      (let f := (s.lane l).frame
       let g := (t.lane l).frame
       g.number = (f.number + 1) % 2 ^ 64 ∧ g.micro = 0 ∧ g.ticked = true ∧ g.acks = inp.acks ∧
       (f.adopted = true →
         g.slot = (if f.slot = 19 then 0 else f.slot + 1) ∧ g.motion = (if f.slot = 19 then (f.motion + 1) % 50 else f.motion)) ∧
       ((s.lane l).clock.tickSlew = 0 → inp.time.offset = none → (s.lane l).clock.frac < 2 ^ 40 → (s.lane l).clock.ns < 1000000000 →
         (s.lane l).clock.s + 1 < 2 ^ 48 → (t.lane l).clock.total = (s.lane l).clock.total + 1000000))) ∧
  (∀ (s : State) (l : Lane) (inp : FrameIn), (s.lane l).clocked = true → (s.lane l).frame.ticked = false → (s.lane l).hears = false →
    (s.lane l).clock.frac = 0 →
    ∃ t, exec (.frameTick l inp) s = .next t ∧
      (let ms := ((s.lane l).clock.total + 999999) / 1000000
       let g := (t.lane l).frame
       g.ticked = true ∧ g.adopted = true ∧ g.number = (s.lane l).frame.number ∧ g.micro = 0 ∧
       g.slot = ms % 1000 % 20 ∧ g.motion = ms % 1000 / 20 ∧
       (t.lane l).clock.ns = ms * 1000000 % 1000000000 ∧ (t.lane l).clock.s = ms * 1000000 / 1000000000 % 2 ^ 48))

/-- A microframe tick advances the microframe index through 0 to 7 and leaves the other indices. A lane that is not ACTIVE writes
no analog and no discrete output; an output without an ANOU entry keeps its value; the discrete outputs are written in
microframe 0 alone. In microframe 0 the contacts of the lane that waits for them close. -/
def Obligations.MicroframeTickAdvances : Prop :=
  ∀ (s : State) (l : Lane) (inp : MicroIn), (s.lane l).clocked = true → (s.lane l).frame.ticked = true →
    ∃ t, exec (.microframeTick l inp) s = .next t ∧ (t.lane l).frame = { (s.lane l).frame with micro := ((s.lane l).frame.micro + 1) % 8 } ∧
      t.lane l.other = s.lane l.other ∧
      ((s.lane l).active = false → t.analogOut = s.analogOut ∧ t.discreteOut = s.discreteOut) ∧
      (∀ n, anouOf (s.lane l).img.anou n = none → nth default t.analogOut n = nth default s.analogOut n) ∧
      ((s.lane l).frame.micro ≠ 0 → t.discreteOut = s.discreteOut ∧ t.baize = s.baize) ∧
      ((s.lane l).frame.micro = 0 → s.baize.closing = some l → t.baize = { s.baize with contacts := some l, closing := none })

/-- A frame tick or a microframe tick of one lane leaves the other lane as it was but for its active codes with their Larder,
what both lanes hold of the DP-3 pair, and, of a microframe tick, nothing. -/
def Obligations.TicksTouchTheirOwnLane : Prop :=
  ∀ (s : State) (l : Lane) (inp : FrameIn), ∃ t as g p, exec (.frameTick l inp) s = .next t ∧
    t.lane l.other = { s.lane l.other with alarms := as, larder := g, partner := p } ∧ t.keyA = s.keyA ∧ t.keyB = s.keyB ∧
    t.canvas = s.canvas ∧ t.pulse = s.pulse ∧ t.analogOut = s.analogOut ∧ t.discreteOut = s.discreteOut ∧ t.overload = s.overload

/-! ## The Baize (02 R48 to R70) -/

/-- The Baize begins to count when it has supply; at its tick its frame count, indices and counts of missing heartbeats advance;
the home-only period ends after 10 s; the command traffic of a lane that is not active inhibits that lane's transmitters,
and so does the assertion on the former active lane. -/
def Obligations.BaizeCountsAndInhibits : Prop :=
  (∀ s : State, s.baize.powered = true → s.baize.ready = false →
    exec .baizeReady s = .next { s.tick with
      baize := { s.baize with ready := true, frame := 0, homeOnly := s.activeLane.isNone, sinceReady := 0, coresAgree := true,
                              cal := s.baize.cal.runOn (Config.freshNat s.fresh) } }) ∧
  (∀ (s : State) (inp : BaizeIn), s.baize.powered = true → s.baize.ready = true →
    ∃ t, exec (.baizeTick inp) s = .next t ∧ t.baize.frame = (s.baize.frame + 1) % 2 ^ 32 ∧
      t.baize.sinceReady = min 10000 (s.baize.sinceReady + 1) ∧ t.baize.coresAgree = inp.coresAgree ∧
      (∀ l, (t.baize.view l).missing = (if (s.baize.view l).seenNow then 0 else (s.baize.view l).missing + 1) ∧
        (t.baize.view l).seenNow = false ∧ (t.baize.view l).last = (s.baize.view l).last ∧
        (t.baize.view l).out = (t.baize.status l).bytes) ∧
      ((s.baize.slot < 19 → t.baize.slot = s.baize.slot + 1) ∧ (s.baize.slot = 19 → t.baize.slot = 0))) ∧
  (∀ s : State, s.baize.ready = true → 10000 ≤ s.baize.sinceReady → ∃ t, exec .homeOnlyPeriodEnd s = .next t ∧ t.baize.homeOnly = false ∧
    t.laneA = s.laneA ∧ t.laneB = s.laneB) ∧
  (∀ (s : State) (l : Lane) (bus : Nat), s.refereed = true → s.baize.active ≠ some l → (s.baize.view l).inhibit = false →
    ∃ t, exec (.baizeBusFrameSeen l bus) s = .next t ∧ (t.baize.view l).inhibit = true ∧ hasAlarm t.baize.alarms ⟨.ln, 5⟩ l.code = true ∧
      t.baize.view l.other = s.baize.view l.other ∧ t.laneA = s.laneA ∧ t.laneB = s.laneB ∧ t.baize.contacts = s.baize.contacts) ∧
  (∀ (s : State) (l : Lane), s.refereed = true → s.baize.former = some l → s.baize.active = some l.other → (s.lane l.other).active = true →
    1 ≤ (s.lane l.other).life.sinceActive →
    ∃ t, exec (.transmitInhibitAssert l) s = .next t ∧ (t.baize.view l).inhibit = true ∧ t.baize.former = none ∧
      t.baize.view l.other = s.baize.view l.other ∧ t.laneA = s.laneA ∧ t.laneB = s.laneB)

/-- The third Baize frame without a heartbeat of the active lane: it is declared failed, its contacts open, it is ordered to
stop, and a standby that is heard ready is granted ACTIVE in the same tick (rows 2 and 9 of 02 R49).
With neither lane heard for 3 Baize frames the Baize changes nothing of its decision (row 4 of 02 R49, R70). -/
def Obligations.BaizeReplacesSilentLane : Prop :=
  (∀ (s : State) (inp : BaizeIn) (l : Lane) (h : Heartbeat), s.baize.powered = true → s.baize.ready = true → inp.coresAgree = true →
    s.unrefereed = false → s.baize.active = some l → (s.baize.view l).seenNow = false → 2 ≤ (s.baize.view l).missing →
    (s.baize.view l.other).seenNow = true → (s.baize.view l.other).last = some h → (s.baize.view l.other).failed = false →
    h.state = 1 → h.readiness ≠ 1 → s.baize.homeOnly = false →
    ∃ t, exec (.baizeTick inp) s = .next t ∧ t.baize.active = some l.other ∧ (t.baize.view l.other).order = 1 ∧
      (t.baize.view l).failed = true ∧ (t.baize.view l).order = 2 ∧ t.baize.contacts ≠ some l ∧ t.baize.former = some l ∧
      t.baize.holdoff = none ∧ t.baize.switchTo = none ∧ hasAlarm t.baize.alarms ⟨.ln, 4⟩ l.code = true) ∧
  (∀ (s : State) (inp : BaizeIn), s.baize.powered = true → s.baize.ready = true →
    (∀ l, (s.baize.view l).seenNow = false ∧ 2 ≤ (s.baize.view l).missing) →
    ∃ t, exec (.baizeTick inp) s = .next t ∧ t.baize.active = s.baize.active ∧ t.baize.contacts = s.baize.contacts ∧
      t.baize.closing = s.baize.closing ∧ t.baize.switchTo = s.baize.switchTo ∧ t.baize.holdoff = s.baize.holdoff ∧
      ∀ l, (t.baize.view l).order = (s.baize.view l).order ∧ (t.baize.view l).failed = (s.baize.view l).failed ∧
        (t.baize.view l).inhibit = (s.baize.view l).inhibit)

/-- The revert hold-off that has run orders the switch to the home lane; with the order received by both lanes, the switch at
frame slot 0 makes the ordered lane ACTIVE and the active lane STANDBY, opens all contacts and leaves the new lane's to close. -/
def Obligations.SwitchExchangesLanes : Prop :=
  (∀ (s : State) (n : Nat), s.baize.holdoff = some n → s.refereed = true → 1000 * (s.lane s.home.other).role.revertHoldoff ≤ n →
    (s.baize.view s.home).failed = false → (s.baize.view s.home).missing < 3 → s.baize.active = some s.home.other →
    (∃ h, (s.baize.view s.home).last = some h ∧ h.state = 1) → s.baize.linkDown = false →
    ∃ t, exec .revertHoldoffEnd s = .next t ∧ t.baize.switchTo = some s.home ∧ t.baize.reverting = true ∧ t.baize.holdoff = none ∧
      (∀ l, (t.baize.view l).order = 3) ∧ t.laneA = s.laneA ∧ t.laneB = s.laneB ∧ t.baize.contacts = s.baize.contacts) ∧
  (∀ (s : State) (l : Lane), s.refereed = true → s.baize.switchTo = some l → (s.lane l).life.orderSwitch = true →
    (s.lane l.other).life.orderSwitch = true → (s.lane l.other).active = true → (s.lane l).life.state = .standby →
    (s.lane l).imageDiffers = false → (s.lane l.other).frame.slot = 0 →
    ∃ t, exec (.commandedSwitchover l) s = .next t ∧ (t.lane l).life.state = .active ∧ (t.lane l.other).life.state = .standby ∧
      (t.lane l).attic.takeoverSeq = ((s.lane l).newestSeq + 1) % 256 ∧ (∀ b ∈ (t.lane l.other).can.buses, b.list = []) ∧
      t.baize.active = some l ∧ t.baize.former = some l.other ∧ t.baize.contacts = none ∧ t.baize.closing = some l ∧
      t.baize.switchTo = none ∧ t.analogOut = s.analogOut ∧ t.discreteOut = s.discreteOut)

/-- A lane that has lost the Baize sees it absent, and with both lanes so the module is unrefereed: BZ-001 in both, and no
inhibit and no order stands. After 1 000 good frames in both lanes the Baize is present again and adopts the lane that is
ACTIVE, without a switchover. -/
def Obligations.BaizeAbsenceAndReturn : Prop :=
  (∀ (s : State) (l : Lane), (s.lane l).frame.ticked = true → (s.lane l).link.lostNow = true → (s.lane l).link.absent = false →
    (s.lane l.other).link.absent = true →
    ∃ t, exec (.baizeAbsent l) s = .next t ∧ t.unrefereed = true ∧ (∀ k, hasAlarm (t.lane k).alarms ⟨.bz, 1⟩ 0 = true) ∧
      (∀ k, (t.baize.view k).inhibit = false ∧ (t.baize.view k).order = 0) ∧ t.baize.holdoff = none ∧ t.baize.switchTo = none ∧
      (∀ k, (t.lane k).life.state = (s.lane k).life.state) ∧ (t.lane l).life.orderTakeover = false) ∧
  (∀ s : State, s.baize.powered = true → s.baize.ready = true → s.unrefereed = true → 1000 ≤ s.laneA.link.good → 1000 ≤ s.laneB.link.good →
    ∃ t, exec .baizePresentAgain s = .next t ∧ t.unrefereed = false ∧ t.baize.active = s.activeLane ∧ t.baize.contacts = s.connected ∧
      (∀ k, (t.lane k).life = (s.lane k).life ∧ hasAlarm (t.lane k).alarms ⟨.bz, 1⟩ 0 = false))

/-- While unrefereed, the outputs of the one ACTIVE lane are connected; with neither or both ACTIVE, those of the home lane. -/
def Obligations.UnrefereedLatch : Prop :=
  ∀ s : State, s.unrefereed = true →
    (∀ l, (s.lane l).active = true → (s.lane l.other).active = false → s.connected = some l) ∧
    (s.laneA.active = s.laneB.active → s.connected = some s.home)

/-! ## Heartbeats, copies and takeover (02 R40 to R47, R50, R54, R65 to R67) -/

/-- A valid heartbeat of the other lane is the peer's newest and ends its absence; an active lane that hears the other ACTIVE
with a newer takeover sequence fails at once; at the Baize it ends the lane's count of missing frames. A frame that is not a
valid heartbeat changes nothing. -/
def Obligations.HeartbeatsAreTaken : Prop :=
  (∀ (s : State) (l : Lane) (bytes : Bytes) (offset : Int) (h : Heartbeat), parseHeartbeat bytes = some h → h.lane = l.other.code → h.kind = 1 →
    (s.lane l).life.powered = true → (s.lane l).muslin.serial0 = true → heartbeatValid (s.lane l).peer.last (s.lane l).peer.missing h = true →
    ∃ t, exec (.heartbeatReceived (.lane l) bytes offset) s = .next t ∧ (t.lane l).peer.last = some h ∧ (t.lane l).peer.missing = 0 ∧
      (t.lane l).peer.seenNow = true ∧ (t.lane l).muslin.tickOffset = offset ∧ t.lane l.other = s.lane l.other ∧ t.baize = s.baize ∧
      ((s.lane l).life.state = .active → h.state = 2 → newer 8 h.takeoverSeq (s.lane l).attic.takeoverSeq = true →
        (t.lane l).life.state = .failed ∧ (t.lane l).voter.cmd = 0) ∧
      ((s.lane l).life.state = .active → h.state ≠ 2 → (t.lane l).life = (s.lane l).life)) ∧
  (∀ (s : State) (l : Lane) (bytes : Bytes) (offset : Int) (h : Heartbeat), parseHeartbeat bytes = some h → h.lane = l.code → h.kind = 1 →
    s.baize.powered = true → s.baize.ready = true → heartbeatValid (s.baize.view l).last (s.baize.view l).missing h = true →
    ∃ t, exec (.heartbeatReceived .baize bytes offset) s = .next t ∧ (t.baize.view l).last = some h ∧ (t.baize.view l).missing = 0 ∧
      (t.baize.view l).seenNow = true ∧ (t.baize.view l).failed = decide (h.state = 3) ∧ t.baize.active = s.baize.active ∧
      t.baize.contacts = s.baize.contacts ∧ t.baize.view l.other = s.baize.view l.other) ∧
  (∀ (s : State) (dest : Unit3) (bytes : Bytes) (offset : Int), parseHeartbeat bytes = none → exec (.heartbeatReceived dest bytes offset) s = .next s)

/-- A complete state copy replaces the older of the two buffers; a damaged one leaves both unchanged. -/
def Obligations.StateCopyReplacesOlderBuffer : Prop :=
  (∀ (s : State) (l : Lane) (c : StateCopy), (s.lane l.other).copyOut = some c → (s.lane l).life.powered = true → (s.lane l).active = false →
    (s.lane l).muslin.serial0 = true →
    ∃ t, exec (.stateCopyReceived l 0) s = .next t ∧ (t.lane l).copyNew = some c ∧ (t.lane l).copyOld = (s.lane l).copyNew ∧
      (t.lane l).muslin.copySeq = c.seq ∧ (t.lane l).muslin.copyAge = 0 ∧ t.lane l.other = s.lane l.other ∧ t.baize = s.baize) ∧
  (∀ (s : State) (l : Lane) (damage : Nat), damage ≠ 0 → exec (.stateCopyReceived l damage) s = .next s)

/-- A lane in which a cause of abdication holds stops its outputs and enters FAILED with that cause: its safety switches are
commanded off, no frame waits for its drive buses, LN-004 stands.
An abdication frame: in an unrefereed module the standby that receives it is to take over; at the Baize the active lane that
sent it is declared failed and its contacts open. -/
def Obligations.AbdicationStopsTheLane : Prop :=
  (∀ (s : State) (l : Lane) (cause : Nat), (s.lane l).life.powered = true → (s.lane l).life.state ≠ .failed → s.causeHolds l cause = true →
    ∃ t, exec (.abdication l cause) s = .next t ∧ (t.lane l).life.state = .failed ∧ (t.lane l).life.cause = cause ∧ (t.lane l).voter.cmd = 0 ∧
      (∀ b ∈ (t.lane l).can.buses, b.list = []) ∧ hasAlarm (t.lane l).alarms ⟨.ln, 4⟩ 0 = true ∧
      (3 ≤ (s.lane l).recentStarts.length → (s.lane l).power.powerUpNext = false → (t.lane l).life.latched = true) ∧
      ((s.lane l).frame.ticked = true → (t.lane l).hbOut = (t.heartbeat l 2).bytes) ∧
      t.lane l.other = s.lane l.other ∧ t.baize = s.baize ∧ t.analogOut = s.analogOut ∧ t.discreteOut = s.discreteOut) ∧
  (∀ (s : State) (l : Lane) (bytes : Bytes) (h : Heartbeat), parseHeartbeat bytes = some h → h.lane = l.other.code → h.kind = 2 →
    (s.lane l).life.powered = true → (s.lane l).muslin.serial0 = true → abdicationValid (s.lane l).peer.last (s.lane l).peer.missing h = true →
    exec (.abdicationFrameReceived (.lane l) bytes) s = .next (s.onLane l fun x =>
      { x with peer := { x.peer with last := some h, missing := 0, seenNow := true },
               life := { x.life with orderTakeover := x.life.orderTakeover || (s.unrefereed && x.life.state == .standby) } })) ∧
  (∀ (s : State) (l : Lane) (bytes : Bytes) (h : Heartbeat), parseHeartbeat bytes = some h → h.lane = l.code → h.kind = 2 → s.refereed = true →
    abdicationValid (s.baize.view l).last (s.baize.view l).missing h = true → s.baize.active = some l →
    ∃ t, exec (.abdicationFrameReceived .baize bytes) s = .next t ∧ (t.baize.view l).failed = true ∧ t.baize.active ≠ some l ∧
      t.baize.contacts ≠ some l ∧ hasAlarm t.baize.alarms ⟨.ln, 4⟩ l.code = true ∧ t.laneA = s.laneA ∧ t.laneB = s.laneB)

/-- A lane obeys the orders of a status frame while it sees the Baize present with agreeing cores: 1 orders a standby to take
over, 2 stops an active lane, 3 orders the switch. -/
def Obligations.StatusOrdersAreObeyed : Prop :=
  ∀ (s : State) (l : Lane) (bytes : Bytes) (b : BaizeStatus), parseStatus bytes = some b → (s.lane l).life.powered = true →
    (s.lane l).link.absent = false → b.flags.testBit 2 = true →
    ∃ t, exec (.baizeStatusReceived l bytes) s = .next t ∧ (t.lane l).link.last = some b ∧ (t.lane l).link.seenNow = true ∧
      (b.order = 2 → (s.lane l).life.state = .active → (t.lane l).life.state = .failed ∧ (t.lane l).voter.cmd = 0) ∧
      (b.order ≠ 2 ∨ (s.lane l).life.state ≠ .active → (t.lane l).life =
        { (s.lane l).life with orderTakeover := decide (b.order = 1 ∧ (s.lane l).life.state = .standby),
                               orderSwitch := decide (b.order = 3 ∧ (s.lane l).runs = true) }) ∧
      t.lane l.other = s.lane l.other ∧ t.baize = s.baize

/-- A standby under order to take over becomes ACTIVE with a newer takeover sequence and the codes of a takeover; the contacts
open and close on it, where a referee serves; an unrefereed standby with its evidence complete is put under that order. -/
def Obligations.TakeoverMakesActive : Prop :=
  (∀ (s : State) (l : Lane), (s.lane l).life.state = .standby → (s.lane l).life.orderTakeover = true →
    ∃ t, exec (.takeover l) s = .next t ∧ (t.lane l).life.state = .active ∧ (t.lane l).life.sinceActive = 0 ∧
      (t.lane l).life.orderTakeover = false ∧ (t.lane l).attic.takeoverSeq = ((s.lane l).newestSeq + 1) % 256 ∧
      hasAlarm (t.lane l).alarms ⟨.ln, 1⟩ l.code = true ∧ t.lane l.other = s.lane l.other ∧
      (t.lane l).life.noCopy = !(s.lane l).hasCopy ∧
      (s.unrefereed = false → t.baize = { s.baize with contacts := none, closing := some l }) ∧
      (s.unrefereed = true → t.baize = s.baize) ∧ t.analogOut = s.analogOut ∧ t.discreteOut = s.discreteOut) ∧
  (∀ (s : State) (l : Lane), s.unrefereed = true → (s.lane l).life.state = .standby → (s.lane l).aloneLong = true → (s.lane l).readiness l ≠ 1 →
    exec (.unrefereedTakeover l) s = .next (s.onLane l fun x => { x with life := { x.life with orderTakeover := true } }))

/-- A FAILED lane with a GOOD feed starts again unless the latch holds it; a loss of both feeds in between makes the start a
power-up. -/
def Obligations.FailedLaneRestarts : Prop :=
  ∀ (s : State) (l : Lane), (s.lane l).life.powered = true → (s.lane l).life.state = .failed → (s.lane l).powerFail = false →
    ((s.lane l).life.latched = false → ∃ t, exec (.autoRestart l) s = .next t ∧ (t.lane l).life.state = .starting ∧
      (t.lane l).life.phase = .boot ∧ (t.lane l).image = none ∧ (t.lane l).ledger = (s.lane l).ledger ∧ t.lane l.other = s.lane l.other ∧
      ((s.lane l).power.powerUpNext = false → (t.lane l).attic.starts = ((s.lane l).cal.ticks :: (s.lane l).attic.starts).take 8) ∧
      ((s.lane l).power.powerUpNext = true → (t.lane l).attic.powerCycles = ((s.lane l).attic.powerCycles + 1) % 2 ^ 32)) ∧
    ((s.lane l).life.latched = true → (s.lane l).power.powerUpNext = false → exec (.autoRestart l) s = .next s)

/-! ## Partner link and shadow comparison (02 R57, R73 to R78) -/

/-- The partner link of a DP-3 pair: a message taken is the newest of both lanes; a request lapses after 5 motion cycles; one
silent fibre is LN-050, both LN-051; the backup module takes command by itself. -/
def Obligations.PartnerLinkEvents : Prop :=
  (∀ (s : State) (l : Lane) (bytes : Bytes) (m : PartnerMsg), parsePartner bytes = some m → (s.lane l).runs = true →
    (s.lane l).role.partnerRole ≠ 0 → (s.lane l).partner.takes m = true →
    ∃ t, exec (.partnerMessageReceived l bytes) s = .next t ∧ (t.lane l).partner.last = some m ∧ (t.lane l).partner.missing = 0 ∧
      (∀ k, (t.lane k).partner.newestMsg = some m ∧ (t.lane k).partner.newestAge = 0 ∧
        (t.lane k).partner.inCommand = (s.lane k).partner.inCommand) ∧ hasAlarm (t.lane l).alarms ⟨.ln, 51⟩ 0 = false ∧ t.baize = s.baize) ∧
  (∀ (s : State) (l : Lane), (s.lane l).partner.request = true → 5 ≤ (s.lane l).partner.requestAge → (s.lane l).partner.takePending = false →
    exec (.partnerRequestLapse l) s = .next { s with
      laneA := { s.laneA with partner := { s.laneA.partner with request := false, requestAge := 0 } },
      laneB := { s.laneB with partner := { s.laneB.partner with request := false, requestAge := 0 } } }) ∧
  (∀ (s : State) (l : Lane), (s.lane l).role.partnerRole ≠ 0 → 5 ≤ (s.lane l).partner.missing →
    ∃ t, exec (.partnerMessagesLost l) s = .next t ∧
      (∀ k, (s.lane k).runs = true → hasAlarm (t.lane k).alarms (if 5 ≤ (s.lane l.other).partner.missing then ⟨.ln, 51⟩ else ⟨.ln, 50⟩) 0 = true) ∧
      ∀ k, (t.lane k).partner = (s.lane k).partner) ∧
  (∀ (s : State) (l : Lane), (s.lane l).active = true → (s.lane l).role.partnerRole = 2 → (s.lane l).role.partnerAuto = 1 →
    (s.lane l).partner.inCommand = false → 5 ≤ (s.lane l).partner.lostRun →
    ∃ t, exec (.partnerAutoTakeover l) s = .next t ∧ (∀ k, (t.lane k).partner.inCommand = true ∧ (t.lane k).partner.forced = false) ∧
      hasAlarm (t.lane l).alarms ⟨.ln, 52⟩ 0 = true) ∧
  (∀ (s : State) (l : Lane), 250 ≤ (s.lane l).health.shadowRun →
    exec (.shadowComparisonFault l) s = .next (s.onLane l fun x => x.codes [.hold ⟨.ln, 40⟩ 0 0]))

/-! ## The Muslin link (02 R65; 11 R346; 14 R418, R419; 04 R132) -/

/-- A serial lane of the Muslin link fails for both lanes: LN-022, or LN-021 where it was the last.
Transfers of the Muslin link that a lane takes: an arming and a channel command wait for its frame tick, a time-transfer frame
is stamped by unit 4, the leap count is stored, coefficient CRCs that differ raise AN-021. -/
def Obligations.MuslinLink : Prop :=
  (∀ (s : State) (second : Bool), ∃ t, exec (.muslinSerialLaneFailed second) s = .next t ∧
    ∀ l, (t.lane l).muslin = (if second then { (s.lane l).muslin with serial1 := false } else { (s.lane l).muslin with serial0 := false }) ∧
      ((s.lane l).runs = true →
        (if second then (s.lane l).muslin.serial0 else (s.lane l).muslin.serial1) = true → hasAlarm (t.lane l).alarms ⟨.ln, 22⟩ 0 = true) ∧
      ((s.lane l).runs = true →
        (if second then (s.lane l).muslin.serial0 else (s.lane l).muslin.serial1) = false → hasAlarm (t.lane l).alarms ⟨.ln, 21⟩ 0 = true)) ∧
  (∀ (s : State) (l : Lane), (s.lane l).life.powered = true → (s.lane l).muslin.serial0 = true ∨ (s.lane l).muslin.serial1 = true →
    (∀ (n : Nat) (r : Fbch), fbRec (s.lane l).img.fbch n = some r → r.indexMode = 2 → (nth default (s.lane l).fb.chans n).armed = false →
      exec (.muslinTransferReceived l (.fbArm n)) s = .next (s.onLane l fun x =>
        { x with fb := { x.fb with chans := x.fb.chans.set n { nth default x.fb.chans n with armNext := true } } })) ∧
    (∀ (n : Nat) (start alt : Bool) (r : Anin), aninOf (s.lane l).img.anin n = some r →
      exec (.muslinTransferReceived l (.anChannel n start alt)) s = .next (s.onLane l fun x =>
        { x with analog := { x.analog with chans := x.analog.chans.set n { nth default x.analog.chans n with next := some (start, alt) } } })) ∧
    (∀ ns : Nat, (nth default (s.lane l).stamps 4).valid = false → (s.lane l).stamps.length = 8 →
      ∃ t, exec (.muslinTransferReceived l (.timeTransfer ns)) s = .next t ∧
        nth default (t.lane l).stamps 4 = { nth default (s.lane l).stamps 4 with
          valid := true, s := ((s.lane l).clock.total + ns) / 1000000000, ns := ((s.lane l).clock.total + ns) % 1000000000 }) ∧
    (∀ leap : Nat, exec (.muslinTransferReceived l (.aiding leap)) s =
      .next (s.onLane l fun x => { x with gnss := { x.gnss with leap := some leap } })) ∧
    (∀ crcs : List Nat, crcs.drop 4 ≠ (s.lane l).customCrcs.drop 4 →
      exec (.muslinTransferReceived l (.coeffCrcs crcs)) s = .next (s.onLane l fun x => x.codes [.hold ⟨.an, 21⟩ 0 0])))

/-! ## WRITE commands (15 R455 to R459; 03 R93, R106, R110, R111) -/

/-- Whatever a WRITE command asks for: a message that no session accepts is counted as discarded and changes nothing else; one
whose station lacks the right is answered RIGHTS; an operator's command that meets a lane that is not active is answered
NOT_ACTIVE; and neither changes anything else. -/
def Obligations.WritesNeedSessionRightAndActiveLane : Prop :=
  ∀ (s : State) (c : Instr) (l : Lane) (m : Msg) (object right role : Nat) (logged : Bool),
    c.asks s = some (l, m, object, right, role, logged) →
    ((s.lane l).ses.enter m = none →
      exec c s = .next (s.setLane l { s.lane l with ses := (s.lane l).ses.discard m })) ∧
    (∀ ses q d v, (s.lane l).writes m object ses q d v → q.rights &&& right ≠ right →
      exec c s = .next (s.setLane l ((s.lane l).replies ses q d 0x06 0 object))) ∧
    (∀ ses q d v, (s.lane l).writes m object ses q d v → q.rights &&& right = right → role = 1 → (s.lane l).active = false →
      exec c s = .next (s.setLane l ((s.lane l).replies ses q d 0x0C 0 object)))

/-- A ledger that cannot be written raises CL-021. An operator change is still applied: the state after it differs from that with
a ledger that writes in the lane's active codes, Larder and ledger alone. An installer change is refused with LEDGER, a maker
change is not applied, and the bank whose verified content cannot enter the ledger does not become valid. What needs no entry
(a refusal, a discarded message) is as with a ledger that writes. -/
def Obligations.FailingLedgerRefusesInstallerNotOperator : Prop :=
  (∀ (s s' t' : State) (c : Instr) (l : Lane) (m : Msg) (object right role : Nat), c.asks s = some (l, m, object, right, role, true) →
    (s.lane l).ledger.failing = true → s' = s.onLane l (fun x => { x with ledger := { x.ledger with failing := false } }) →
    exec c s' = .next t' →
    ((t'.lane l).ledger = (s'.lane l).ledger →
      ∃ t, exec c s = .next t ∧ t.setLane l { t.lane l with ledger := (t'.lane l).ledger } = t') ∧
    ((t'.lane l).ledger ≠ (s'.lane l).ledger → role = 2 →
      ∃ ses q d, exec c s = .next (s.setLane l (((s.lane l).raise ⟨.cl, 21⟩ 0 0).replies ses q d 0x08 0 object))) ∧
    ((t'.lane l).ledger ≠ (s'.lane l).ledger → role = 1 →
      ∃ t, exec c s = .next t ∧ hasAlarm (t.lane l).alarms ⟨.cl, 21⟩ 0 = true ∧ (t.lane l).ledger = (s.lane l).ledger ∧
        t.setLane l { t.lane l with alarms := (t'.lane l).alarms, larder := (t'.lane l).larder, ledger := (t'.lane l).ledger } = t')) ∧
  (∀ (s : State) (l : Lane) (op : MakerOp), (s.lane l).maker.token = true → s.makerMay l op = true → (s.lane l).ledger.failing = true →
    exec (.makerCommand l op) s = .next (s.onLane l fun x => x.raise ⟨.cl, 21⟩ 0 0)) ∧
  (∀ (s : State) (l : Lane) (w : KeyWrite), (s.lane l).cellar.write = some w → w.closing = true → w.bank ≤ 1 →
    (s.lane l).ledger.failing = true → ((s.lane l).verify (s.key l) s.variant w).reason = 0 →
    ∃ t, exec (.cellarVerifyComplete l) s = .next t ∧ hasAlarm (t.lane l).alarms ⟨.cl, 21⟩ 0 = true ∧
      ((t.lane l).cellar.bank w.bank).state ≠ 0 ∧ (t.lane l).ledger = (s.lane l).ledger)

/-! ## Installer commands of 02, 03 and 04 -/

/-- lane.switch and lane.adopt_image order the switch to the lane that is not active; lane.isolate takes a standby out of the pair
or releases it; lane.restart makes the lane abdicate with cause 0x0006 and start. -/
def Obligations.LaneCommands : Prop :=
  (∀ (s u : State) (l k : Lane) (m : Msg), s.activeLane = some k.other → s.refereed = true → (s.lane k).life.state = .standby →
    (s.lane k).readiness k ≠ 1 → s.accepts l m 0x1020 0x200 2 (some (leBytes 1 k.other.code, none)) u →
    exec (.laneSwitch l m) s = .next { u with
      baize := { u.baize with switchTo := some k, reverting := false, holdoff := none, suspended := k != s.home } }) ∧
  (∀ (s u : State) (l k : Lane) (m : Msg), s.activeLane = some k.other → s.refereed = true → (s.lane k).life.state = .isolated →
    (s.lane k).readyButImage = true → (s.lane k).img.header.vesselId = (s.lane k.other).img.header.vesselId →
    s.accepts l m 0x1022 0x200 2 (some (leBytes 1 k.other.code, none)) u →
    exec (.laneAdoptImage l m) s = .next { u with
      baize := { u.baize with switchTo := some k, reverting := false, holdoff := none, suspended := k != s.home } }) ∧
  (∀ (s u : State) (l : Lane) (m : Msg), (s.lane l).life.state = .standby →
    s.accepts l m 0x1021 0x200 2 (some (leBytes 1 1, none)) u →
    exec (.laneIsolate l m 1) s = .next (u.onLane l fun x =>
      ({ x with life := { x.life with state := .isolated, byInstaller := true, orderTakeover := false } } : LaneState).raise ⟨.ln, 10⟩ l.code 0)) ∧
  (∀ (s u : State) (l : Lane) (m : Msg), (s.lane l).life.state = .isolated → (s.lane l).imageDiffers = false →
    s.accepts l m 0x1021 0x200 2 (some (leBytes 1 4, none)) u →
    exec (.laneIsolate l m 0) s = .next (u.onLane l fun x =>
      ({ x with life := { x.life with state := .standby, byInstaller := false } } : LaneState).codes [.clear ⟨.ln, 10⟩ l.code, .clear ⟨.cl, 11⟩ 0])) ∧
  (∀ (s u : State) (l k : Lane) (m : Msg), (s.lane k).life.powered = true → (s.lane k).powerFail = false →
    ((s.lane k).active = true → s.laneReady k.other = true) →
    s.accepts l m 0x1023 0x200 2 (some (leBytes 1 (s.lane k).life.state.code, none)) u →
    ∃ t, exec (.laneRestart l m k) s = .next t ∧ (t.lane k).life.state = .starting ∧ (t.lane k).life.phase = .boot ∧
      (t.lane k).image = none ∧ (t.lane k).ledger = (u.lane k).ledger ∧ (t.lane k).life.latched = false ∧ t.lane k.other = u.lane k.other)

/-- The write to a cellar bank: opened on a bank that is neither protected nor under a write, it owns the key; a chunk in order enters
transaction and key; an abort leaves the bank invalid with reason 0x02; so does a silence of write_timeout; a close hands the bank
to the check.
The check after a close ends the transaction: a bank that fails keeps the reason of its first failure and raises CL-013; one
that passes is valid with its hash once the change stands in the ledger. -/
def Obligations.CellarWriteCommands : Prop :=
  (∀ (s u : State) (l : Lane) (m : Msg) (bank length : Nat) (expected : Bytes), (s.lane l).cellar.keyPresent = true →
    (s.lane l).cellar.write = none → bank ≤ 1 → 0 < length → length ≤ 16777216 → expected.length = 32 →
    (s.lane l).cellar.running ≠ bank → ((s.lane l).cellar.selected = bank → ((s.lane l).cellar.bank bank).state ≠ 0) →
    s.accepts l m 0x1310 0x100 2 (some (leBytes 1 ((s.lane l).cellar.bank bank).state, none)) u →
    exec (.cellarWriteOpen l m bank length expected) s = .next (u.onLane l fun x =>
      { x with cellar := { x.cellar with write := some ⟨bank, length, expected, 0, m.session, 0, [], [], false, 0⟩ } })) ∧
  (∀ (s u : State) (l : Lane) (m : Msg) (w : KeyWrite) (k : Key) (data : Bytes), (s.lane l).cellar.keyPresent = true →
    (s.lane l).cellar.write = some w → w.owner = m.session → w.closing = false → s.key l = some k → 1 ≤ data.length → data.length ≤ 1024 →
    w.next + data.length ≤ w.length → s.accepts l m 0x1311 0x100 2 none u →
    exec (.cellarWriteChunk l m w.next data) s = .next ((u.onLane l fun x =>
      { x with cellar := { x.cellar with write := some (w.chunk k data).1 } }).setKey l (some (w.chunk k data).2))) ∧
  (∀ (s u : State) (l : Lane) (m : Msg) (w : KeyWrite) (k : Key), (s.lane l).cellar.keyPresent = true →
    (s.lane l).cellar.write = some w → w.owner = m.session → w.closing = false → s.key l = some k → s.accepts l m 0x1312 0x100 2 none u →
    ∃ t w', exec (.cellarWriteClose l m) s = .next t ∧ (t.lane l).cellar.write = some w' ∧ w'.closing = true ∧ w'.bank = w.bank ∧
      w'.expected = w.expected ∧ t.key l = some (w.finish k) ∧ (t.lane l).ses.answers = (s.lane l).ses.answers ∧
      t.lane l.other = s.lane l.other) ∧
  (∀ (s u : State) (l : Lane) (m : Msg) (w : KeyWrite), (s.lane l).cellar.keyPresent = true → (s.lane l).cellar.write = some w →
    w.owner = m.session → w.closing = false → s.accepts l m 0x1313 0x100 2 none u →
    ∃ t, exec (.cellarWriteAbort l m) s = .next t ∧ (t.lane l).cellar.write = none ∧
      (w.bank ≤ 1 → ((t.lane l).cellar.bank w.bank).state = 1 ∧ ((t.lane l).cellar.bank w.bank).reason = 0x02) ∧
      hasAlarm (t.lane l).alarms ⟨.cl, 13⟩ w.bank = true ∧ t.key l = s.key l) ∧
  (∀ (s : State) (l : Lane) (w : KeyWrite), (s.lane l).cellar.write = some w → w.closing = false →
    1000 * (s.lane l).role.writeTimeout ≤ w.idle →
    ∃ t, exec (.cellarWriteTimeout l) s = .next t ∧ (t.lane l).cellar.write = none ∧
      (w.bank ≤ 1 → ((t.lane l).cellar.bank w.bank).state = 1 ∧ ((t.lane l).cellar.bank w.bank).reason = 0x02) ∧
      hasAlarm (t.lane l).alarms ⟨.cl, 13⟩ w.bank = true ∧ t.key l = s.key l) ∧
  (∀ (s : State) (l : Lane) (w : KeyWrite), (s.lane l).cellar.write = some w → w.closing = true → w.bank ≤ 1 →
    (s.lane l).ledger.failing = false →
    (let r := (s.lane l).verify (s.key l) s.variant w
     ∃ t, exec (.cellarVerifyComplete l) s = .next t ∧ (t.lane l).cellar.write = none ∧ t.key l = s.key l ∧
       ((t.lane l).cellar.bank w.bank).reason = r.reason ∧
       (r.reason ≠ 0 → ((t.lane l).cellar.bank w.bank).state = 1 ∧ hasAlarm (t.lane l).alarms ⟨.cl, 13⟩ w.bank = true) ∧
       (r.reason = 0 → ((t.lane l).cellar.bank w.bank).state = 0 ∧ ((t.lane l).cellar.bank w.bank).hash = r.hash ∧ r.hash = w.expected ∧
         (t.lane l).ledger.nextSeq = ((s.lane l).ledger.nextSeq + 1) % 2 ^ 32)))

/-- A flip to a valid bank writes the bank-select entry of the key and the lane's view of it, once; a flip to the bank selected
changes neither; a key removed from its socket raises CL-012 and leaves the running image; an inserted key is not read. -/
def Obligations.FlipsAndSockets : Prop :=
  (∀ (s u : State) (l : Lane) (m : Msg) (bank : Nat) (k : Key) (q : Session), (s.lane l).cellar.keyPresent = true → (s.lane l).cellar.write = none →
    bank ≤ 1 → bank ≠ (s.lane l).cellar.selected → ((s.lane l).cellar.bank bank).state = 0 → s.key l = some k →
    (s.lane l).ses.find m.session = some q →
    s.accepts l m 0x1314 0x100 2 (some (leBytes 1 (s.lane l).cellar.selected, some (leBytes 1 bank))) u →
    exec (.cellarSelect l m bank) s = .next ((u.onLane l fun x =>
      { x with cellar := { x.cellar with selected := bank, generation := k.select.flipGen } }).setKey l
        (some (k.flip bank q.keyId (s.lane l).power.opHours (s.lane l).attic.powerCycles)))) ∧
  (∀ (s u : State) (l : Lane) (m : Msg), (s.lane l).cellar.keyPresent = true → (s.lane l).cellar.write = none →
    (s.lane l).cellar.selected ≤ 1 → s.accepts l m 0x1314 0x100 2 none u →
    exec (.cellarSelect l m (s.lane l).cellar.selected) s = .next u) ∧
  (∀ (s : State) (l : Lane), (s.lane l).cellar.keyPresent = true →
    exec (.cellarKeyRemoved l) s = .next ((s.setKey l none).onLane l fun x =>
      ({ x with cellar := { x.cellar with keyPresent := false } } : LaneState).raise ⟨.cl, 12⟩ 0 0)) ∧
  (∀ (s : State) (l : Lane) (k : Key), cellsWf k.cells = true → exec (.cellarKeyInserted l k) s = .next (s.setKey l (some k)))

/-- The key store: an addition that is in order stores the key under its ID in place of an older one; a removal that leaves an
installer key and a signer key takes it out. -/
def Obligations.KeyStoreCommands : Prop :=
  (∀ (s u : State) (l : Lane) (m : Msg) (keyId : Nat) (key : Bytes), key.length = 32 → 0 < keyId → keyId < 0xFFFFFFFF →
    ((s.lane l).attic.signerKeys.filter fun k => k.keyId != keyId).length < 8 →
    s.accepts l m (namedObject m) 0x1000 2 (some ([], some (leBytes 4 keyId))) u →
    exec (.keyStoreAdd l m true keyId 0 key) s = .next (u.onLane l fun x =>
      { x with attic := { x.attic with signerKeys := (x.attic.signerKeys.filter fun k => k.keyId != keyId) ++ [⟨keyId, key⟩] } })) ∧
  (∀ (s u : State) (l : Lane) (m : Msg) (keyId : Nat), ((s.lane l).attic.signerKeys.any fun k => k.keyId == keyId) = true →
    (s.lane l).attic.signerKeys.any (fun k => k.keyId != keyId) = true →
    s.accepts l m (namedObject m) 0x1000 2 (some (leBytes 4 keyId, some [])) u →
    exec (.keyStoreRemove l m true keyId) s = .next (u.onLane l fun x =>
      { x with attic := { x.attic with signerKeys := x.attic.signerKeys.filter fun k => k.keyId != keyId } })) ∧
  (∀ (s u : State) (l : Lane) (m : Msg) (keyId : Nat), ((s.lane l).attic.sessionKeys.any fun k => k.keyId == keyId) = true →
    (s.lane l).attic.sessionKeys.any (fun k => k.keyId != keyId && k.kind == 2) = true →
    s.accepts l m (namedObject m) 0x1000 2 (some (leBytes 4 keyId, some [])) u →
    exec (.keyStoreRemove l m false keyId) s = .next (u.onLane l fun x =>
      { x with attic := { x.attic with sessionKeys := x.attic.sessionKeys.filter fun k => k.keyId != keyId } }))

/-- The maker: a token lapses when its link drops or 8 h after its entry; with a valid token a write goes into the ledger and takes
effect; without one nothing changes. A token is valid only if it is issued for this module's serial number. -/
def Obligations.MakerCommands : Prop :=
  (∀ (s : State) (l : Lane) (serial : Nat) (token response : Bytes), (s.lane l).life.powered = true →
    (serial ≠ s.serial → exec (.makerTokenEntry l serial token response) s = .next s) ∧
    (Config.makerTokenValid s.serial token response = true → exec (.makerTokenEntry l s.serial token response) s =
      .next (s.onLane l fun x => { x with maker := { x.maker with token := true, link := true, entered := x.cal.ticks } }))) ∧
  (∀ (s : State) (l : Lane), exec (.makerTokenLapse l true) s =
    .next (s.onLane l fun x => { x with maker := { x.maker with token := false, link := false } })) ∧
  (∀ (s : State) (l : Lane), (s.lane l).maker.entered + 8 * 3600 * 32768 ≤ (s.lane l).cal.ticks →
    exec (.makerTokenLapse l false) s = .next (s.onLane l fun x => { x with maker := { x.maker with token := false } })) ∧
  (∀ (s : State) (l : Lane) (data : Bytes), (s.lane l).maker.token = true → (s.lane l).ledger.failing = false →
    exec (.makerCommand l (.firmware data)) s = .next (s.onLane l fun x =>
      { x.logs 3 0xFFFF 0xFFFFFFFF x.maker.firmware data with maker := { x.maker with firmware := data } }) ∧
    exec (.makerCommand l (.trims data)) s = .next (s.onLane l fun x =>
      { x.logs 3 0xFFFF 0xFFFFFFFF x.maker.trims data with maker := { x.maker with trims := data } }) ∧
    exec (.makerCommand l (.factory data)) s = .next (s.onLane l fun x =>
      { x.logs 3 0xFFFF 0xFFFFFFFF x.maker.factory data with maker := { x.maker with factory := data } })) ∧
  (∀ (s : State) (l : Lane) (op : MakerOp), (s.lane l).maker.token = false → exec (.makerCommand l op) s = .next s)

/-- power.claim stores the two claims of the lane that hears it, partner.take_command requests or forces command, an
acknowledgement marks the code in the list of the lane that hears it. -/
def Obligations.ClaimsPartnerAndAcknowledgement : Prop :=
  (∀ (s u : State) (l : Lane) (m : Msg) (mask : Nat), mask ≤ 15 → mask % 4 ≠ 0 → mask / 4 ≠ 0 →
    s.accepts l m 0x1401 0x400 2 (some (leBytes 1 s.claims, none)) u →
    ∃ t, exec (.powerClaim l m mask) s = .next t ∧
      (t.lane l).attic = { (s.lane l).attic with claim1 := (if l = .a then mask % 4 else mask / 4).testBit 0,
                                                  claim2 := (if l = .a then mask % 4 else mask / 4).testBit 1 } ∧
      t.lane l.other = s.lane l.other ∧ (t.lane l).ses = (u.lane l).ses ∧ (t.lane l).ledger = (u.lane l).ledger) ∧
  (∀ (s u : State) (l : Lane) (m : Msg), (s.lane l).inCommand = false → s.accepts l m 0x1031 0x10 1 (some (leBytes 1 0, none)) u →
    (∃ t, exec (.partnerTakeCommand l m 1) s = .next t ∧ ∀ k, (t.lane k).partner = { (s.lane k).partner with request := true, requestAge := 0 }) ∧
    (∃ t, exec (.partnerTakeCommand l m 2) s = .next t ∧ ∀ k, (t.lane k).partner = { (s.lane k).partner with forcePending := true })) ∧
  (∀ (s u : State) (l : Lane) (m : Msg) (c : Code) (item : Nat), hasAlarm (s.lane l).alarms c item = true →
    s.accepts l m (namedObject m) 0x8 1 (some ([], some (codeAscii c))) u →
    exec (.alarmAcknowledgement l m c item) s = .next (u.onLane l fun x =>
      { x with alarms := x.alarms.map fun a => if a.code = c ∧ a.item = item then { a with acked := true } else a }))

/-! ## Operator commands of 06, 08, 09 and 10 -/

/-- The commands of 08 R262 in a module in command: a mode whose entry conditions hold, a setpoint, a gain bank, a footprint, a bias
release, a track commit and a target offset are posted to slot 2 from the next frame; the joystick and a waypoint act at once. -/
def Obligations.ControlCommands : Prop :=
  ∀ (s u : State) (l : Lane) (m : Msg), (s.lane l).inCommand = true →
    (∀ mode, modeRefusal (s.lane l).ctrlCtx (s.lane l).ctrl mode = 0 →
      s.accepts l m 0x2201 (if mode = 8 ∨ (s.lane l).ctrl.mode = 8 then 0x21 else 1) 1 (some ([BitVec.ofNat 8 (s.lane l).ctrl.mode], none)) u →
      exec (.ctrlMode l m mode) s = .next (u.onLane l fun x => x.post (.mode mode))) ∧
    (∀ gen x y h, (s.lane l).ctrl.mode = 2 ∨ (s.lane l).ctrl.mode = 3 ∨ (s.lane l).ctrl.mode = 4 → gen = (s.lane l).obs.originGen →
      s.accepts l m 0x2202 1 1 (some (tripleBytes (s.lane l).ctrl.target, none)) u →
      exec (.ctrlSetpoint l m 0 gen x y h) s = .next (u.onLane l fun v => v.post (.setpoint 0 gen x y h))) ∧
    (∀ bank, bank < (s.lane l).img.gain.length → s.accepts l m 0x2203 4 1 (some ([BitVec.ofNat 8 (s.lane l).ctrl.bank], none)) u →
      exec (.ctrlGainBank l m bank) s = .next (u.onLane l fun x => x.post (.bank bank))) ∧
    (∀ (x y z : Rat) (seq : Nat), -1 ≤ x ∧ x ≤ 1 → -1 ≤ y ∧ y ≤ 1 → -1 ≤ z ∧ z ≤ 1 → s.accepts l m 0x2204 1 1 none u →
      exec (.ctrlJoystick l m x y z seq) s = .next (u.onLane l fun v =>
        ({ v with ctrl := { v.ctrl with stick := ⟨x, y, z⟩, stickAge := some 0, stickSeq := seq } } : LaneState).clear ⟨.vc, 10⟩ 0)) ∧
    (∀ (cn ce : Option Rat) (radius : Rat), 0 < radius →
      s.accepts l m 0x2205 1 1 (some (leF32 (s.lane l).ctrl.fpCentre.x ++ leF32 (s.lane l).ctrl.fpCentre.y ++ leF32 (s.lane l).ctrl.fpRadius, none)) u →
      exec (.ctrlFootprint l m cn ce radius) s = .next (u.onLane l fun x => x.post (.footprint cn ce radius))) ∧
    (s.accepts l m 0x2206 1 1 (some (tripleBytes (s.lane l).ctrl.hold, none)) u →
      exec (.ctrlBiasRelease l m) s = .next (u.onLane l fun x => x.post .biasRelease)) ∧
    (∀ (n : Nat) (point : Waypoint), n < 64 → 1 / 100 ≤ point.speed → point.speed ≤ (s.lane l).img.mode.trackSpeedMax →
      s.accepts l m 0x2210 2 1 (some ([], none)) u →
      exec (.ctrlTrackPoint l m n point) s = .next (u.onLane l fun x =>
        { x with ctrl := { x.ctrl with edit := x.ctrl.edit.set n (some point) } })) ∧
    (∀ n, 2 ≤ n → n ≤ 64 → (∀ w ∈ (s.lane l).ctrl.edit.take n, w.isSome = true) → (s.lane l).obs.floating = false →
      (s.lane l).obs.originSet = true →
      s.accepts l m 0x2211 2 1 (some ([BitVec.ofNat 8 (s.lane l).ctrl.committed.length], none)) u →
      exec (.ctrlTrackCommit l m n) s = .next (u.onLane l fun x => x.post (.commit n))) ∧
    (∀ (x y : Rat), s.accepts l m 0x2221 2 1 (some (leF32 (s.lane l).ctrl.offset.x ++ leF32 (s.lane l).ctrl.offset.y, none)) u →
      exec (.ctrlTargetOffset l m x y) s = .next (u.onLane l fun v => v.post (.offset x y)))

/-- A module of a DP-3 pair that is not in command refuses every command of 08 R262 with reason 0x08, and keeps its control state. -/
def Obligations.ControlRefusedOutOfCommand : Prop :=
  ∀ (s : State) (c : Instr) (l : Lane) (m : Msg) (object right : Nat) (logged : Bool),
    c.asks s = some (l, m, object, right, 1, logged) → 0x2201 ≤ object → object ≤ 0x2221 → (s.lane l).inCommand = false →
    (s.lane l).active = true → (∀ code item, c ≠ .alarmAcknowledgement l m code item) →
    ∀ ses q d v, (s.lane l).writes m object ses q d v → q.rights &&& right = right →
    exec c s = .next (s.setLane l ((s.lane l).replies ses q d 0x0F 8 object))

/-- References: selected or not, the single candidate offered under RF-050 accepted, a relative reference anchored anew. -/
def Obligations.ReferenceCommands : Prop :=
  (∀ (s u : State) (l : Lane) (m : Msg) (ref : Nat) (on : Bool), ((s.lane l).refRec ref).isSome = true →
    s.accepts l m 0x4201 1 1 (some ([BitVec.ofNat 8 ref, BitVec.ofNat 8 (b2n (nth default (s.lane l).refs.refs ref).selected)], none)) u →
    exec (.refsSelect l m ref on) s = .next (u.onLane l fun x =>
      { x with refs := { x.refs with refs := modNth x.refs.refs ref fun r => { r with selected := on } } })) ∧
  (∀ (s u : State) (l : Lane) (m : Msg) (ref : Nat) (r : RefRec), (s.lane l).refRec ref = some r → r.kind = 1 → (s.lane l).refs.offeredPos = true →
    (nth default (s.lane l).refs.refs ref).candidate = true → s.accepts l m 0x4202 1 1 (some ([BitVec.ofNat 8 ref], none)) u →
    exec (.refsAccept l m ref) s = .next (u.onLane l fun x => { x with refs := { x.refs with acceptPos := true } })) ∧
  (∀ (s u : State) (l : Lane) (m : Msg) (ref : Nat) (r : RefRec), (s.lane l).refRec ref = some r → r.kind = 2 → (s.lane l).refs.offeredHdg = true →
    (nth default (s.lane l).refs.refs ref).candidate = true → s.accepts l m 0x4202 1 1 (some ([BitVec.ofNat 8 ref], none)) u →
    exec (.refsAccept l m ref) s = .next (u.onLane l fun x => { x with refs := { x.refs with acceptHdg := true } })) ∧
  (∀ (s u : State) (l : Lane) (m : Msg) (ref : Nat) (r : RefRec), (s.lane l).refRec ref = some r → r.format = 0x11 ∨ r.format = 0x12 →
    s.accepts l m 0x4203 1 1 (some ([BitVec.ofNat 8 ref], none)) u →
    exec (.refsAnchor l m ref) s = .next (u.onLane l fun x =>
      { x with refs := { x.refs with refs := modNth x.refs.refs ref fun r => { r with reanchor := true } } }))

/-- An exclusion that leaves a thruster takes a working actuator out of the allocation; its end lets it in again; loop.reset of an axis
with a pending latch whose fe_latch is 0 clears the latch and sets the fault-reset bit of the drive's next command. -/
def Obligations.ExclusionAndLoopReset : Prop :=
  (∀ (s u : State) (l : Lane) (m : Msg) (i : Nat), ((s.lane l).thru? i).isSome = true → i < (s.lane l).alloc.acts.length →
    excludeRefused (s.lane l).allocCtx (s.lane l).alloc i = false →
    s.accepts l m 0x3010 1 1 (some ([BitVec.ofNat 8 i, BitVec.ofNat 8 (b2n ((s.lane l).alloc.act i).exclusion)], none)) u →
    ∃ t, exec (.allocExclude l m i true) s = .next t ∧ ((t.lane l).alloc.act i).exclusion = true ∧
      (((s.lane l).alloc.act i).working = true → ((t.lane l).alloc.act i).mode = .excluded ∧ ((t.lane l).alloc.act i).goal = none) ∧
      (((s.lane l).alloc.act i).working = false → ((t.lane l).alloc.act i).mode = ((s.lane l).alloc.act i).mode) ∧
      (∀ j, j ≠ i → (t.lane l).alloc.act j = (s.lane l).alloc.act j) ∧ hasAlarm (t.lane l).alarms ⟨.al, 2⟩ i = true ∧
      t.lane l.other = s.lane l.other) ∧
  (∀ (s u : State) (l : Lane) (m : Msg) (i : Nat), ((s.lane l).thru? i).isSome = true → i < (s.lane l).alloc.acts.length →
    s.accepts l m 0x3010 1 1 (some ([BitVec.ofNat 8 i, BitVec.ofNat 8 (b2n ((s.lane l).alloc.act i).exclusion)], none)) u →
    ∃ t, exec (.allocExclude l m i false) s = .next t ∧ ((t.lane l).alloc.act i).exclusion = false ∧
      ((t.lane l).alloc.act i).mode ≠ .excluded ∧ (∀ j, j ≠ i → (t.lane l).alloc.act j = (s.lane l).alloc.act j) ∧
      hasAlarm (t.lane l).alarms ⟨.al, 2⟩ i = false ∧ t.lane l.other = s.lane l.other) ∧
  (∀ (s u : State) (l : Lane) (m : Msg) (n : Nat) (r : AxisRec), ((s.lane l).img.axes.find? fun r => r.axis == n) = some r →
    n < (s.lane l).loop.axes.length → hasCause (nth default (s.lane l).loop.axes n).causes 3 = true → r.feLatch = 0 →
    (nth default (s.lane l).loop.axes n).latchDone = false →
    s.accepts l m 0x3410 (if m.port == 1 then 0x400 else 1) (if m.port == 1 then 2 else 1) (some ([BitVec.ofNat 8 n], none)) u →
    ∃ t, exec (.loopReset l m n) s = .next t ∧ (nth default (t.lane l).loop.axes n).latchDone = true ∧
      r.actuator ∈ (t.lane l).can.faultReset ∧ hasAlarm (t.lane l).alarms ⟨.lp, 30⟩ n = false ∧ t.lane l.other = s.lane l.other)

/-! ## Installer commands of 11, 14, 15 and 17 -/

/-- Channels armed and cleared, an analog channel stopped or started at the next tick, a coefficient set stored, a commissioning
output, a time pulse, the panel restarted. -/
def Obligations.CommissioningCommands : Prop :=
  ∀ (s u : State) (l : Lane) (m : Msg),
    (∀ (n : Nat) (r : Fbch), fbRec (s.lane l).img.fbch n = some r → n < s.variant.channels → r.indexMode = 2 →
      (s.lane l).muslinFailed = false → (nth default (s.lane l).fb.chans n).armed = false →
      s.accepts l m 0x5210 0x400 2 (some ([BitVec.ofNat 8 n], none)) u →
      exec (.fbArm l m n) s = .next (u.onLane l fun x =>
        { x with fb := { x.fb with chans := x.fb.chans.set n { nth default x.fb.chans n with armNext := true } } })) ∧
    (∀ (n : Nat) (r : Fbch), fbRec (s.lane l).img.fbch n = some r → n < s.variant.channels →
      s.accepts l m 0x5211 0x400 2 (some ([BitVec.ofNat 8 n], none)) u →
      exec (.fbClear l m n) s = .next (u.onLane l fun x =>
        { x with fb := { x.fb with chans := x.fb.chans.set n { nth default x.fb.chans n with
            phaseErrors := 0, disagrees := 0, ssiInvalid := 0, ampMin := 0xFFFF } } })) ∧
    (∀ (n : Nat) (r : Anin) (start alt : Bool), aninOf (s.lane l).img.anin n = some r → (s.lane l).muslinFailed = false →
      (start = true → startRefused r (s.lane l).attic.coeffs alt = false) →
      s.accepts l m 0x5020 0x400 2 (some ((s.lane l).channelBytes n, none)) u →
      exec (.anChannel l m n start alt) s = .next (u.onLane l fun x =>
        { x with analog := { x.analog with chans := x.analog.chans.set n { nth default x.analog.chans n with next := some (start, alt) } } })) ∧
    (∀ (slot len design : Nat) (taps : List Int), 4 ≤ slot → slot ≤ 7 → coeffOk len taps = true →
      (∀ a ∈ (s.lane l).analog.chans, a.running = true → a.set ≠ slot) →
      s.accepts l m 0x5021 0x400 2 (some (leBytes 4 (slotCrc (s.lane l).attic.coeffs slot), some (leBytes 4 (crc32c (coeffBytes len design taps))))) u →
      exec (.anCoeffLoad l m slot len design taps) s = .next (u.onLane l fun x =>
        { x with attic := { x.attic with coeffs := x.attic.coeffs.set (slot - 4) (some ⟨len, design, taps, crc32c (coeffBytes len design taps)⟩) } })) ∧
    (∀ (n : Nat) (r : Anou) (value : Rat), anouOf (s.lane l).img.anou n = some r → r.source = 2 →
      s.accepts l m 0x5030 0x400 2 (some (leF32 ((nth default (s.lane l).analog.outs n).object.getD 0), none)) u →
      exec (.anOutSet l m n value) s = .next (u.onLane l fun x =>
        ({ x with analog := { x.analog with outs := x.analog.outs.set n { nth default x.analog.outs n with
            object := some value, age := 0, timedOut := false } } } : LaneState).clear ⟨.an, 32⟩ n)) ∧
    (∀ (output : Nat) (p : PulseIn), (s.lane l).pulseRefused l output p = none → (nth default (s.lane l).pulses (output % 2)).high = false →
      (s.lane l).pulses.length = 2 → (p.mode = 1 → (s.lane l).clock.total + 1000 ≤ p.startS * 1000000000 + p.startNs) →
      s.accepts l m 0x6020 0x400 2 (some (leBytes 1 output ++ leBytes 1 (nth default (s.lane l).pulses (output % 2)).actMode ++
        leBytes 8 (nth default (s.lane l).pulses (output % 2)).actStart, none)) u →
      ∃ t, exec (.timePulse l m output p) s = .next t ∧
        (let g := nth default (t.lane l).pulses (output % 2)
         g.running = true ∧ g.actMode = p.mode ∧ g.actStart = p.startS * 1000000000 + p.startNs ∧ g.actPeriod = p.period ∧
         g.actWidth = p.width ∧ g.fired = false) ∧
        nth default (t.lane l).pulses (1 - output % 2) = nth default (s.lane l).pulses (1 - output % 2) ∧ t.lane l.other = s.lane l.other) ∧
    (s.accepts l m 0x1501 0x400 2 (some ([], none)) u →
      ∃ t, exec (.canvasRestart l m) s = .next t ∧ t.canvas.running = false ∧ t.canvas.rails = .down ∧ t.canvas.stopped = 0 ∧
        t.canvas.image = s.canvas.image ∧ t.canvas.counts = s.canvas.counts ∧ t.laneA = u.laneA ∧ t.laneB = u.laneB)

/-! ## Events of 05 -/

/-- The receiver of a lane whose key check has passed: a dump moves a slot between pull-in, locked and time-synchronised; a search
hit fills the first idle slot; a slot goes idle where a case of release holds; a bias fault after 10 motion cycles and its
retry; a message goes into the ring; a wrong correction frame is discarded; the other lane's solution is taken; three
time-outs. A front end out of use idles the slots of its band. -/
def Obligations.GnssEvents : Prop :=
  (∀ (s : State) (l : Lane) (k : Nat), (s.lane l).intake = true →
    (∀ obs : List DumpObs, ∃ t, exec (.gnssDump l k obs) s = .next t ∧ t.lane l.other = s.lane l.other ∧
      ∀ (n : Nat) (o : DumpObs), n < ((s.lane l).gnss.ant k).slots.length → obs.find? (fun o => o.slot == n) = some o →
        (let u := nth default ((s.lane l).gnss.ant k).slots n
         let v := nth default ((t.lane l).gnss.ant k).slots n
         (u.state = 0 → v = u) ∧
         (u.state ≠ 0 → v.signal = u.signal ∧ v.svid = u.svid ∧ v.cn0 = o.cn0 ∧
           v.state = (if o.codeLock && o.carrierLock then (if o.timeKnown then 3 else 2) else 1) ∧
           v.lockMs = (if o.carrierLock && !o.slip then u.lockMs + 1 else 0)))) ∧
    (∀ (signal svid cn0 : Nat) (elevation channel : Int) (i : Nat), (s.lane l).searches l k signal svid elevation = true →
      ((s.lane l).gnss.ant k).slots.findIdx? (fun t => t.state == 0) = some i →
      ∃ t, exec (.searchHit l k signal svid cn0 elevation channel) s = .next t ∧ t.lane l.other = s.lane l.other ∧
        ((∀ x ∈ ((s.lane l).gnss.ant k).leftOut, x.signal = signal → x.svid = svid → x.waiting = false) →
          ((t.lane l).gnss.ant k).slots = ((s.lane l).gnss.ant k).slots.set i
            { GnssSlot.idle with state := 1, signal := signal, svid := svid, cn0 := cn0, elevation := elevation, gloChannel := channel })) ∧
    (∀ (signal svid cn0 : Nat) (elevation channel : Int), (s.lane l).searches l k signal svid elevation = false →
      exec (.searchHit l k signal svid cn0 elevation channel) s = .next s) ∧
    (∀ slot : Nat, slot < ((s.lane l).gnss.ant k).slots.length →
      (let u := nth default ((s.lane l).gnss.ant k).slots slot
       let cfg := (s.lane l).img.gnss
       (100 ≤ u.lowRun ∨ u.elevation < (cfg.elevationMask : Int) - 2 ∨ signalEnabled cfg u.signal = false →
         exec (.slotRelease l k slot) s = .next (s.onLane l fun x =>
           x.setAnt k { x.gnss.ant k with slots := (x.gnss.ant k).slots.set slot GnssSlot.idle })) ∧
       (u.lowRun < 100 → (cfg.elevationMask : Int) - 2 ≤ u.elevation → signalEnabled cfg u.signal = true →
         exec (.slotRelease l k slot) s = .next s))) ∧
    (10 ≤ ((s.lane l).gnss.ant k).overRun → exec (.antennaBiasFault l k) s = .next (s.onLane l fun x =>
      (x.setAnt k { x.gnss.ant k with biasOn := false, biasShort := true, overRun := 0, offRun := 0 }).raise ⟨.gn, 1⟩ k 1)) ∧
    (((s.lane l).gnss.ant k).overRun < 10 → 10 ≤ ((s.lane l).gnss.ant k).underRun →
      exec (.antennaBiasFault l k) s = .next (s.onLane l fun x =>
        (x.setAnt k { x.gnss.ant k with biasOpen := true }).raise ⟨.gn, 1⟩ k 2)) ∧
    (((s.lane l).gnss.ant k).biasShort = true → 500 ≤ ((s.lane l).gnss.ant k).offRun →
      exec (.antennaBiasRetry l k) s = .next (s.onLane l fun x =>
        x.setAnt k { x.gnss.ant k with biasOn := true, overRun := 0, offRun := 0 })) ∧
    (((s.lane l).gnss.ant k).offRun < 500 → exec (.antennaBiasRetry l k) s = .next s) ∧
    (∀ nav : NavIn, ∃ t, exec (.navMessage l nav) s = .next t ∧ t.lane l.other = s.lane l.other ∧
      (let g := (s.lane l).gnss
       let h := (t.lane l).gnss
       let st := navStatus nav.kind nav.headOk nav.checkOk nav.corrected nav.wordMask
       h.navSeq = (g.navSeq + 1) % 2 ^ 32 ∧
       h.navRing = (⟨g.navSeq, 2 * l.code + nav.antenna, nav.signal, nav.svid, nav.kind, nav.timeS, nav.timeNs, navBits nav.kind, st,
         min 255 nav.corrected, if nav.kind = 1 then nav.wordMask % 1024 else 0, nav.bits⟩ :: g.navRing).take 256 ∧
       (st = 1 → h.ephs = g.ephs ∧ h.leap = g.leap) ∧
       (st ≠ 1 → ∀ n, nav.leap = some n → h.leap = some n) ∧
       (st ≠ 1 → st ≠ 3 → ∀ e, nav.eph = some e → nav.near = true → { e with acceptedAt := (s.lane l).clock.s } ∈ h.ephs) ∧
       (st = 3 → h.ephs = g.ephs) ∧
       (t.lane l).attic.ephs = h.ephs ∧
       hasAlarm (t.lane l).alarms ⟨.gn, 50⟩ (256 * nav.signal + nav.svid) = h.navPoor nav.signal nav.svid)) ∧
    ((s.lane l).img.gnss.rtcmSource = 0xFF → ∀ bytes : Bytes, exec (.rtcmFrameReceived l bytes) s = .next s) ∧
    (∀ bytes : Bytes, (s.lane l).img.gnss.rtcmSource ≠ 0xFF → rtcmOk bytes = false → exec (.rtcmFrameReceived l bytes) s = .next (s.onLane l fun x =>
      { x with gnss := { x.gnss with rtcmDiscarded := x.gnss.rtcmDiscarded + 1 } })) ∧
    (∀ bytes : Bytes, (s.lane l).img.gnss.rtcmSource ≠ 0xFF → rtcmOk bytes = true → rtcmType bytes = 1005 ∨ rtcmType bytes = 1006 →
      exec (.rtcmFrameReceived l bytes) s = .next (s.onLane l fun x =>
        { x with gnss := { x.gnss with rtcmUsed := x.gnss.rtcmUsed + 1, stationAge := some 0, baseId := rtcmStation bytes } })) ∧
    ((s.lane l).muslin.serial0 = true ∨ (s.lane l).muslin.serial1 = true → (s.lane l.other).gnss.withheld = false →
      exec (.gnssPeerSolutionReceived l) s = .next (s.onLane l fun x =>
        let p := (s.lane l.other).gnss
        { x with gnss := { x.gnss with peer := some ⟨p.pvt, p.heading, p.residuals⟩, peerAge := 0 } })) ∧
    ((s.lane l.other).gnss.withheld = true → exec (.gnssPeerSolutionReceived l) s = .next s) ∧
    ((s.lane l).gnss.firstFix = true → 250 ≤ (s.lane l).gnss.noSolution →
      exec (.gnssSolutionTimeout l) s = .next (s.onLane l fun x => x.raise ⟨.gn, 10⟩ 0 0)) ∧
    ((s.lane l).gnss.firstHeading = true → 250 ≤ (s.lane l).gnss.noHeading →
      exec (.headingFixTimeout l) s = .next (s.onLane l fun x => x.raise ⟨.gn, 15⟩ 0 0)) ∧
    (60 ≤ ((s.lane l).gnss.ant k).untrackedRun →
      exec (.untrackedTimeout l k) s = .next (s.onLane l fun x => x.raise ⟨.gn, 21⟩ k 0))) ∧
  (∀ (s : State) (l : Lane) (k : Nat) (low : Bool), ∃ t, exec (.gnssFrontEndFault l k low) s = .next t ∧
    hasAlarm (t.lane l).alarms ⟨.gn, 2⟩ (2 * k + b2n low) = true ∧
    (if low then ((t.lane l).gnss.ant k).lowOk = false else ((t.lane l).gnss.ant k).highOk = false) ∧
    ((t.lane l).gnss.ant k).slots = ((s.lane l).gnss.ant k).slots.map (fun u => if signalLow u.signal = low then GnssSlot.idle else u))

/-! ## Events of 06 and 07 -/

/-- A whole sentence or binary frame gives its reference a measurement that waits; a sentence that is not whole is counted as
refused at its port; a lost reference, a pair of references that fail the prediction alone, the limit of dead reckoning. -/
def Obligations.ReferenceEvents : Prop :=
  (∀ (s : State) (l : Lane) (source arrival : Nat) (bytes : Bytes) (sen : Sentence) (r : RefRec) (v : RefValue × Bool × Option Nat),
    (s.lane l).intake = true → (s.lane l).framed source 0 = true → (∀ p, (s.lane l).refs.ports[source]? = some p → p.fill + bytes.length ≤ 1024) →
    parseSentence bytes = some sen → (s.lane l).img.refs.Pairwise (fun p q => p.refId ≠ q.refId) →
    r ∈ (s.lane l).img.refs → takesSentence r source sen = true → sentenceValue r sen = some v → r.flags.testBit 0 = true →
    r.refId ≠ (s.lane l).img.mode.targetRef → r.refId < (s.lane l).refs.refs.length →
    ∃ t, exec (.sentenceReceived l source bytes arrival) s = .next t ∧ t.lane l.other = s.lane l.other ∧
      (let m := measurementTime r arrival (s.lane l).cal.leap (s.lane l).timeGood v.2.2
       (nth default (t.lane l).refs.refs r.refId).waiting = some ⟨arrival, m.1, v.1, v.2.1, false, m.2.1, m.2.2, none⟩)) ∧
  (∀ (s : State) (l : Lane) (source arrival : Nat) (bytes : Bytes), (s.lane l).intake = true → (s.lane l).framed source 0 = true →
    parseSentence bytes = none → (∀ p, (s.lane l).refs.ports[source]? = some p → p.fill + bytes.length ≤ 1024) → source < (s.lane l).refs.ports.length →
    ∃ t, exec (.sentenceReceived l source bytes arrival) s = .next t ∧ t.lane l.other = s.lane l.other ∧
      (nth default (t.lane l).refs.ports source).refused = (nth default (s.lane l).refs.ports source).refused + 1 ∧
      (nth default (t.lane l).refs.ports source).chars = (nth default (s.lane l).refs.ports source).chars + bytes.length ∧
      ∀ n, (nth default (t.lane l).refs.refs n).waiting = (nth default (s.lane l).refs.refs n).waiting) ∧
  (∀ (s : State) (l : Lane) (source arrival : Nat) (bytes : Bytes) (r : RefRec) (v : RefValue) (ok deg : Bool) (ms : Option Nat),
    (s.lane l).intake = true → (s.lane l).framed source 1 = true → (∀ p, (s.lane l).refs.ports[source]? = some p → p.fill + bytes.length ≤ 1024) →
    binaryOk bytes = true → (s.lane l).img.refs.Pairwise (fun p q => p.refId ≠ q.refId) →
    r ∈ (s.lane l).img.refs → takesBinary r source bytes = true → binaryValue r bytes = some (v, ok, deg, ms) → r.flags.testBit 0 = true →
    r.refId ≠ (s.lane l).img.mode.targetRef → r.refId < (s.lane l).refs.refs.length →
    ∃ t, exec (.referenceBinaryFrame l source bytes arrival) s = .next t ∧ t.lane l.other = s.lane l.other ∧
      (let m := measurementTime r arrival (s.lane l).cal.leap (s.lane l).timeGood ms
       (nth default (t.lane l).refs.refs r.refId).waiting = some ⟨arrival, m.1, v, ok, deg, m.2.1, m.2.2, none⟩)) ∧
  (∀ (s : State) (l : Lane) (source arrival : Nat) (bytes : Bytes),
    ((s.lane l).framed source 0 = false → exec (.sentenceReceived l source bytes arrival) s = .next s) ∧
    ((s.lane l).framed source 1 = false → exec (.referenceBinaryFrame l source bytes arrival) s = .next s)) ∧
  (∀ (s : State) (l : Lane) (n : Nat) (r : RefRec), (s.lane l).refRec n = some r → n < (s.lane l).refs.refs.length →
    (nth default (s.lane l).refs.refs n).mode = .qualifying ∨ (nth default (s.lane l).refs.refs n).mode = .accepted ∨
      (nth default (s.lane l).refs.refs n).mode = .rejected → r.lostTime ≤ (nth default (s.lane l).refs.refs n).lostFrames →
    ∃ t, exec (.referenceLost l n) s = .next t ∧ (nth default (t.lane l).refs.refs n).mode = .absent ∧
      (nth default (t.lane l).refs.refs n).reason = 0x0A ∧ (nth default (t.lane l).refs.refs n).anchored = false ∧
      (∀ k, k ≠ n → nth default (t.lane l).refs.refs k = nth default (s.lane l).refs.refs k) ∧ hasAlarm (t.lane l).alarms ⟨.rf, 1⟩ n = true) ∧
  (∀ (s : State) (l : Lane), 250 ≤ (s.lane l).refs.predOnlyPos → exec (.predictionOnlyTimeout l false) s = .next (s.onLane l fun x =>
    ({ x with refs := { x.refs with offeredPos := true } } : LaneState).raise ⟨.rf, 50⟩ 1 0)) ∧
  (∀ (s : State) (l : Lane), 250 ≤ (s.lane l).refs.predOnlyHdg → exec (.predictionOnlyTimeout l true) s = .next (s.onLane l fun x =>
    ({ x with refs := { x.refs with offeredHdg := true } } : LaneState).raise ⟨.rf, 50⟩ 2 0)) ∧
  (∀ (s : State) (l : Lane), (s.lane l).obs.drPos = true → 50 * (s.lane l).img.vmod.drLimitPos ≤ (s.lane l).obs.drPosT →
    ∃ t, exec (.deadReckoningLimit l false) s = .next t ∧ (t.lane l).obs = { (s.lane l).obs with limitPos := true } ∧
      (t.lane l).eligible = false ∧ hasAlarm (t.lane l).alarms ⟨.ob, 11⟩ 0 = true ∧
      ((s.lane l).ctrl.mode ≤ 2 → (s.lane l).obs.status ≠ 0 → (s.lane l).obs.limitHdg = false → (t.lane l).ctrl = (s.lane l).ctrl)) ∧
  (∀ (s : State) (l : Lane), (s.lane l).obs.drHdg = true → 50 * (s.lane l).img.vmod.drLimitHdg ≤ (s.lane l).obs.drHdgT →
    ∃ t, exec (.deadReckoningLimit l true) s = .next t ∧ (t.lane l).obs = { (s.lane l).obs with limitHdg := true } ∧
      (t.lane l).eligible = false ∧ hasAlarm (t.lane l).alarms ⟨.ob, 13⟩ 0 = true ∧
      (2 ≤ (s.lane l).ctrl.mode → (s.lane l).ctrl.mode ≤ 8 → (t.lane l).ctrl.mode = 1))

/-! ## Events of 08 and 09 -/

/-- The joystick that has been silent for its time-out no longer commands; a cross-track error or a lost target that lasts leaves
the mode. A write to ENG_START starts a run on the problem block, or is refused while one runs; the end of a run frees the
engine; an actuator re-enters after 50 motion cycles; a transit that takes too long makes it unavailable with cause 5. -/
def Obligations.ControlAndAllocationEvents : Prop :=
  (∀ (s : State) (l : Lane) (a : Nat), (s.lane l).ctrl.stickAge = some a → (s.lane l).img.mode.joystickTimeout ≤ a →
    ∃ t, exec (.joystickTimeout l) s = .next t ∧ (t.lane l).ctrl = { (s.lane l).ctrl with stick := V3.zero, stickAge := none } ∧
      ((s.lane l).img.mode.joystickSource = 0 → (s.lane l).ctrl.mode = 1 ∨ (s.lane l).ctrl.mode = 2 →
        hasAlarm (t.lane l).alarms ⟨.vc, 10⟩ 0 = true)) ∧
  (∀ (s : State) (l : Lane), (s.lane l).ctrl.mode = 5 → 500 ≤ (s.lane l).ctrl.xteRun → (s.lane l).obs.status ≠ 0 →
    (s.lane l).obs.limitPos = false → (s.lane l).obs.limitHdg = false →
    ∃ t, exec (.crossTrackTimeout l) s = .next t ∧ (t.lane l).ctrl.mode = 3 ∧ (t.lane l).ctrl.target = (s.lane l).ctrl.xd ∧
      (t.lane l).ctrl.fallbackCause = 4 ∧ hasAlarm (t.lane l).alarms ⟨.vc, 33⟩ 0 = true) ∧
  (∀ (s : State) (l : Lane), (s.lane l).img.mode.targetLostTime ≤ (s.lane l).ctrl.tracker.lostFrames → (s.lane l).obs.status ≠ 0 →
    (s.lane l).obs.limitPos = false → (s.lane l).obs.limitHdg = false →
    ∃ t, exec (.targetLost l) s = .next t ∧ (t.lane l).ctrl.tracker.valid = false ∧
      ((s.lane l).ctrl.mode = 6 → (t.lane l).ctrl.mode = 3 ∧ (t.lane l).ctrl.fallbackCause = 5 ∧ hasAlarm (t.lane l).alarms ⟨.vc, 34⟩ 0 = true) ∧
      ((s.lane l).ctrl.mode ≠ 6 → (t.lane l).ctrl.mode = (s.lane l).ctrl.mode)) ∧
  (∀ (s : State) (l : Lane) (value : Nat), (s.lane l).alloc.eng.run = none →
    ∃ t duals, exec (.engStart l value) s = .next t ∧
      (t.lane l).alloc = { (s.lane l).alloc with eng := { (s.lane l).alloc.eng with
        state := 1, ready := false, resetAct := 0, resetPow := 0, run := some ((s.lane l).alloc.problem, duals) } } ∧
      ((s.lane l).alloc.problem.flags.testBit 0 = true → ∀ v ∈ duals, v = 0)) ∧
  (∀ (s : State) (l : Lane) (value : Nat), (s.lane l).alloc.eng.run.isSome = true →
    exec (.engStart l value) s = .next (s.onLane l fun x =>
      { x with alloc := { x.alloc with eng := { x.alloc.eng with refused := true } } })) ∧
  (∀ (s : State) (l : Lane) (damaged : Bool) (p : Problem) (duals : List Rat), (s.lane l).alloc.eng.run = some (p, duals) →
    ∃ t, exec (.engineRunComplete l damaged) s = .next t ∧
      (let e := (t.lane l).alloc.eng
       let r := (t.lane l).alloc.result
       e.state = 0 ∧ e.ready = true ∧ e.run = none ∧ e.lastCycles = 250000 ∧ r.seq = p.seq ∧ r.store = p.store ∧ r.crcOk = !damaged ∧
       (p.crcOk = false → r.flags = 4 ∧ e.stores = (s.lane l).alloc.eng.stores)) ∧
      (t.lane l).alloc.acts = (s.lane l).alloc.acts ∧ (t.lane l).alloc.problem = (s.lane l).alloc.problem) ∧
  (∀ (s : State) (l : Lane) (n : Nat) (r : Thru), (s.lane l).thru? n = some r → n < (s.lane l).alloc.acts.length →
    ((s.lane l).alloc.act n).mode = .unavailable → 50 ≤ ((s.lane l).alloc.act n).clearRun →
    ∃ t, exec (.actuatorReentry l n) s = .next t ∧ ((t.lane l).alloc.act n).cause = 0 ∧
      ((t.lane l).alloc.act n).mode ≠ .unavailable ∧
      (((s.lane l).alloc.act n).exclusion = true → ((t.lane l).alloc.act n).mode = .excluded) ∧
      (((s.lane l).alloc.act n).exclusion = false → r.kind ≠ 1 → ((t.lane l).alloc.act n).mode = .allocated) ∧
      (∀ k, k ≠ n → (t.lane l).alloc.act k = (s.lane l).alloc.act k) ∧ hasAlarm (t.lane l).alarms ⟨.al, 1⟩ n = false) ∧
  (∀ (s : State) (l : Lane) (n : Nat), n < (s.lane l).alloc.acts.length →
    ((s.lane l).alloc.act n).mode = .ramp ∨ ((s.lane l).alloc.act n).mode = .turn →
    1000 * (s.lane l).img.aloc.transitTimeout < ((s.lane l).alloc.act n).transit →
    ∃ t, exec (.transitTimeout l n) s = .next t ∧ ((t.lane l).alloc.act n).mode = .unavailable ∧ ((t.lane l).alloc.act n).cause = 5 ∧
      (∀ k, k ≠ n → (t.lane l).alloc.act k = (s.lane l).alloc.act k) ∧
      hasAlarm (t.lane l).alarms ⟨.al, 12⟩ n = true ∧ hasAlarm (t.lane l).alarms ⟨.al, 1⟩ n = true)

/-! ## Events of 10 -/

/-- A following error or a frozen feedback that has lasted puts a running axis into SAFE with its cause; the latch of a following
error ends with its time; an output at its limit for a second raises LP-010. -/
def Obligations.LoopEvents : Prop :=
  ∀ (s : State) (l : Lane) (n : Nat) (r : AxisRec), ((s.lane l).img.axes.find? fun r => r.axis == n) = some r →
    n < (s.lane l).loop.axes.length →
    (8 * r.feTime ≤ ((s.lane l).axis n).feRun →
      ∃ t, exec (.followingErrorFault l n) s = .next t ∧ hasAlarm (t.lane l).alarms ⟨.lp, 1⟩ n = true ∧
        (∀ k, k ≠ n → (t.lane l).axis k = (s.lane l).axis k) ∧ ((t.lane l).axis n).latchLeft = 1000 * r.feLatch ∧
        (((s.lane l).axis n).mode = .run ∨ ((s.lane l).axis n).mode = .release → ((t.lane l).axis n).mode = .safe ∧
          ((t.lane l).axis n).causes = 2 ^ 3 ∧ ((t.lane l).axis n).out = ((s.lane l).axis n).out) ∧
        (((s.lane l).axis n).mode = .safe → ((t.lane l).axis n).mode = .safe ∧ hasCause ((t.lane l).axis n).causes 3 = true)) ∧
    (8 * r.freezeTime ≤ ((s.lane l).axis n).freezeRun →
      ∃ t, exec (.feedbackFreeze l n) s = .next t ∧ hasAlarm (t.lane l).alarms ⟨.fb, 12⟩ r.channel = true ∧
        (∀ k, k ≠ n → (t.lane l).axis k = (s.lane l).axis k) ∧ ((t.lane l).axis n).frozenAt = ((s.lane l).axis n).freezeBase ∧
        (((s.lane l).axis n).mode = .run ∨ ((s.lane l).axis n).mode = .release → ((t.lane l).axis n).mode = .safe ∧
          ((t.lane l).axis n).causes = 2 ^ 2 ∧ ((t.lane l).axis n).out = ((s.lane l).axis n).out) ∧
        (((s.lane l).axis n).mode = .safe → ((t.lane l).axis n).mode = .safe ∧ hasCause ((t.lane l).axis n).causes 2 = true)) ∧
    (hasCause ((s.lane l).axis n).causes 3 = true → r.feLatch ≠ 0 → ((s.lane l).axis n).latchLeft = 0 →
      exec (.feLatchExpiry l n) s = .next (s.onLane l fun x => x.setAxis n { x.axis n with latchDone := true })) ∧
    (8000 ≤ ((s.lane l).axis n).limitRun → exec (.outLimitTimeout l n) s = .next (s.onLane l fun x => x.raise ⟨.lp, 10⟩ n 0))

/-! ## Events of 11 -/

/-- A count after a step of it, with the invert flag, and after an index event, the two that change it: with modulus 0 it is a signed
32-bit value that wraps, with modulus M it is reduced to [0, M) after every change. -/
def Obligations.CountsStayReduced : Prop :=
  (∀ (r : Fbch) (f : FbChan) (d : Int) (sample : Nat),
    let e := if r.flags.testBit 0 then -d else d
    let c := (f.step r d sample).count
    (e = 0 → c = f.count) ∧
    (e ≠ 0 → r.modulus = 0 → -2147483648 ≤ c ∧ c < 2147483648 ∧ ∃ k : Int, f.count + e - c = k * 4294967296) ∧
    (e ≠ 0 → r.modulus ≠ 0 → 0 ≤ c ∧ c < r.modulus ∧ ∃ k : Int, f.count + e - c = k * r.modulus)) ∧
  (∀ (r : Fbch) (f : FbChan),
    let c := (f.index r).1.count
    (c = f.count ∨ c = reduceCount r.modulus r.indexValue) ∧
    (c ≠ f.count → r.modulus = 0 → -2147483648 ≤ c ∧ c < 2147483648) ∧ (c ≠ f.count → r.modulus ≠ 0 → 0 ≤ c ∧ c < r.modulus))

/-- A channel of a lane: a quadrature line, a conversion and an SSI frame move its count; a loss flag with its criterion is set by
a fault that has lasted and cleared after clear_time; supplies, index events, and the latch read. -/
def Obligations.FeedbackEvents : Prop :=
  ∀ (s : State) (l : Lane) (n : Nat) (r : Fbch), fbRec (s.lane l).img.fbch n = some r → n < (s.lane l).fb.chans.length →
    (∀ (sample : Nat) (a b z ca cb cz : Bool), r.mode = 2 → r.flags.testBit 0 = false →
      ∃ t, exec (.filteredLineChange l n sample a b z ca cb cz) s = .next t ∧ t.lane l.other = s.lane l.other ∧
        (let f := (s.lane l).chan n
         let g := (t.lane l).chan n
         let d := (grayIndex a b + 4 - grayIndex f.lineA f.lineB) % 4
         g.lineA = a ∧ g.lineB = b ∧ g.lineZ = z ∧
         (d = 0 → g.count = f.count) ∧ (d = 1 → g.count = reduceCount r.modulus (f.count + 1)) ∧
         (d = 3 → g.count = reduceCount r.modulus (f.count - 1)) ∧
         (d = 2 → g.count = f.count ∧ g.phaseErrors = satInc 16 f.phaseErrors ∧ g.illegalSeen = true))) ∧
    (∀ (sample : Nat) (sine cosine : Rat), ∃ t, exec (.sineCosineConversion l n sample sine cosine) s = .next t ∧
      t.lane l.other = s.lane l.other ∧
      (let f := (s.lane l).chan n
       let g := (t.lane l).chan n
       let amp := (sine * sine + cosine * cosine) / (25 / 100)
       g.conversions = f.conversions + 1 ∧ g.ampOut = decide (amp < 6 / 10 ∨ 13 / 10 ≤ amp) ∧
       g.ampRun = (if amp < 6 / 10 ∨ 13 / 10 ≤ amp then f.ampRun + 1 else 0) ∧ g.phase = wrap360 (atan2Q sine cosine) ∧
       (f.hasPhase = false → g.count = reduceCount r.modulus (wrap360 (atan2Q sine cosine) / 360 * (r.interp : Rat)).floor))) ∧
    (∀ (sample : Nat) (fr : SsiFrame), ∃ t, exec (.ssiFrameComplete l n sample fr) s = .next t ∧ t.lane l.other = s.lane l.other ∧
      (let f := (s.lane l).chan n
       let g := (t.lane l).chan n
       (fr.valid r f.ssiRaw = true → g.ssiValid = true ∧ g.ssiRaw = some (fr.position r) ∧ g.ssiMissRun = 0 ∧ g.ssiTime = fr.time % 2 ^ 64 ∧
         (f.ssiRaw = none → g.count = reduceCount r.modulus (fr.position r)) ∧
         (∀ p, f.ssiRaw = some p → r.flags.testBit 0 = false → ssiDiff r.ssiBits (fr.position r) p ≠ 0 →
           g.count = reduceCount r.modulus (f.count + ssiDiff r.ssiBits (fr.position r) p))) ∧
       (fr.valid r f.ssiRaw = false → g = { f with ssiMissRun := f.ssiMissRun + 1, ssiValid := false, ssiInvalid := satInc 8 f.ssiInvalid }))) ∧
    (r.mode = 5 → r.ssiMiss ≤ ((s.lane l).chan n).ssiMissRun → ((s.lane l).chan n).loss = false →
      exec (.ssiLoss l n) s = .next (s.onLane l fun x =>
        (x.setChan n { x.chan n with clearRun := 0, loss := true, criterion := 3, losses := satInc 16 (x.chan n).losses }).raise ⟨.fb, 10⟩ r.channel 3)) ∧
    (r.mode = 1 → r.ampSamples ≤ ((s.lane l).chan n).ampRun →
      ∃ t, exec (.amplitudeLoss l n) s = .next t ∧ ((t.lane l).chan n).loss = true ∧
        (((s.lane l).chan n).loss = false → ((t.lane l).chan n).criterion = 1 ∧ hasAlarm (t.lane l).alarms ⟨.fb, 10⟩ r.channel = true)) ∧
    (∀ a b c d : Nat, ((s.lane l).chan n).illegal = [a, b, c, d] → a - d < 1024 →
      ∃ t, exec (.illegalTransitionFault l n) s = .next t ∧ ((t.lane l).chan n).loss = true ∧ hasAlarm (t.lane l).alarms ⟨.fb, 4⟩ r.channel = true ∧
        ((t.lane l).chan n).illegal = [] ∧
        (((s.lane l).chan n).loss = false → ((t.lane l).chan n).criterion = 6 ∧ hasAlarm (t.lane l).alarms ⟨.fb, 10⟩ r.channel = true)) ∧
    (∀ sample : Nat, r.mode = 4 → ((s.lane l).chan n).alike.testBit 0 = true → ((s.lane l).chan n).alike.testBit 3 = false → nth 0 ((s.lane l).chan n).alikeSince 0 + 3 ≤ sample →
      ∃ t, exec (.wireDisagree l n sample) s = .next t ∧ ((t.lane l).chan n).loss = true ∧ ((t.lane l).chan n).holds.testBit 2 = true ∧
        ((t.lane l).chan n).disagrees = satInc 8 ((s.lane l).chan n).disagrees ∧
        (((s.lane l).chan n).loss = false → ((t.lane l).chan n).criterion = 2)) ∧
    (((s.lane l).chan n).supplyOn = true → 80 ≤ ((s.lane l).chan n).shortRun →
      ∃ t, exec (.sensorSupplyShort l n) s = .next t ∧ ((t.lane l).chan n).supplyOn = false ∧ ((t.lane l).chan n).loss = true ∧
        ((t.lane l).chan n).holds.testBit 5 = true ∧ hasAlarm (t.lane l).alarms ⟨.fb, 20⟩ r.channel = true ∧
        (((s.lane l).chan n).loss = false → ((t.lane l).chan n).criterion = 5)) ∧
    (r.supplyOpenMa ≠ 0 → 800 ≤ ((s.lane l).chan n).openRun →
      ∃ t, exec (.sensorSupplyOpen l n) s = .next t ∧ ((t.lane l).chan n).loss = true ∧ ((t.lane l).chan n).supplyOn = ((s.lane l).chan n).supplyOn ∧
        (((s.lane l).chan n).loss = false → ((t.lane l).chan n).criterion = 4)) ∧
    (((s.lane l).chan n).holds.testBit 5 = true →
      exec (.sensorSupplyRetry l n) s = .next (s.onLane l fun x =>
        (x.setChan n { x.chan n with supplyOn := true, shortRun := 0, holds := (x.chan n).holds - 32 }).clear ⟨.fb, 20⟩ r.channel)) ∧
    (((s.lane l).chan n).loss = true → 8 * r.clearTime ≤ ((s.lane l).chan n).clearRun →
      r.flags.testBit 2 = false ∨ ((s.lane l).chan n).referenced = true →
      exec (.lossClear l n) s = .next (s.onLane l fun x =>
        (x.setChan n { x.chan n with loss := false, criterion := 0 }).codes
          [.clear ⟨.fb, 10⟩ r.channel, .clear ⟨.fb, 4⟩ r.channel, .clear ⟨.fb, 13⟩ r.channel])) ∧
    (r.flags.testBit 2 = true → ((s.lane l).chan n).referenced = false → exec (.lossClear l n) s = .next s) ∧
    (∃ t, exec (.indexEvent l n) s = .next t ∧ ((t.lane l).chan n).capture = ((s.lane l).chan n).count ∧ ((t.lane l).chan n).indexSeen = true ∧
      ((t.lane l).chan n).disc = indexDisc r ((s.lane l).chan n).count ∧
      (r.indexMode = 1 → ((t.lane l).chan n).referenced = true ∧ ((s.lane l).chan n).referenced = false →
        ((t.lane l).chan n).count = reduceCount r.modulus r.indexValue) ∧
      (r.indexMode = 2 → ((s.lane l).chan n).armed = true → ((t.lane l).chan n).count = reduceCount r.modulus r.indexValue ∧
        ((t.lane l).chan n).referenced = true ∧ ((t.lane l).chan n).armed = false) ∧
      (r.indexMode = 2 → ((s.lane l).chan n).armed = false → ((t.lane l).chan n).count = ((s.lane l).chan n).count) ∧
      (r.indexMode = 0 → ((t.lane l).chan n).count = ((s.lane l).chan n).count)) ∧
    exec (.countLatchRead l n) s = .next (s.onLane l fun x => x.setChan n { x.chan n with held := (x.chan n).latch })

/-! ## Events of 12 -/

/-- The buffers of a controller: a request marks a loaded buffer pending, a cancel before the sample point takes its content out,
one after it lets the frame end; a completed frame frees its buffer; an error raises the transmit counter and may end in
bus-off, from which 128 idle sequences recover. The inhibit cancels what is loaded and lists nothing until its release. -/
def Obligations.DriveBusTransmits : Prop :=
  (∀ (s : State) (l : Lane) (n : Nat), n < (s.lane l).can.buses.length →
    (∀ k since : Nat, ((s.lane l).bus n).inhibited = false → k < ((s.lane l).bus n).bufs.length →
      (nth default ((s.lane l).bus n).bufs k).item.isSome = true →
      exec (.txbRequest l n k since) s = .next (s.onLane l fun x => x.setBus n { x.bus n with
        bufs := (x.bus n).bufs.set k { nth default (x.bus n).bufs k with state := 1, since := since } })) ∧
    (∀ k : Nat, k < ((s.lane l).bus n).bufs.length → (nth default ((s.lane l).bus n).bufs k).item.isSome = true →
      (nth default ((s.lane l).bus n).bufs k).state = 1 ∨ (nth default ((s.lane l).bus n).bufs k).state = 2 →
      (exec (.txbCancel l n k .after) s = .next (s.onLane l fun x => x.setBus n { x.bus n with
        bufs := (x.bus n).bufs.set k { nth default (x.bus n).bufs k with late := true, state := 2 } })) ∧
      (((s.lane l).bus n).list = [] → (nth default ((s.lane l).bus n).bufs k).next = none →
        exec (.txbCancel l n k .before) s = .next (s.onLane l fun x => x.setBus n { x.bus n with
          bufs := (x.bus n).bufs.set k { nth default (x.bus n).bufs k with state := 5, item := none, late := false } }))) ∧
    (∀ sof ns k : Nat, ((s.lane l).bus n).busOff = false → ((s.lane l).bus n).inhibited = false → ((s.lane l).bus n).offered sof = some k →
      k < ((s.lane l).bus n).bufs.length → ((s.lane l).bus n).list = [] → (nth default ((s.lane l).bus n).bufs k).next = none →
      ∃ t, exec (.canFrameComplete l n sof ns) s = .next t ∧ ((t.lane l).bus n).txOk = (((s.lane l).bus n).txOk + 1) % 2 ^ 32 ∧
        ((t.lane l).bus n).tec = ((s.lane l).bus n).tec - 1 ∧
        (nth default ((t.lane l).bus n).bufs k).item = none ∧ (nth default ((t.lane l).bus n).bufs k).time = ns ∧
        (nth default ((t.lane l).bus n).bufs k).state = (if (nth default ((s.lane l).bus n).bufs k).late then 4 else 3) ∧
        (∀ m, m ≠ n → (t.lane l).bus m = (s.lane l).bus m) ∧ 
        (∀ i, (nth default ((s.lane l).bus n).bufs k).item = some i → i.key ≠ laneMarkKey → hasAlarm (t.lane l).alarms ⟨.db, 10⟩ n = false)) ∧
    (∀ sof : Nat, ((s.lane l).bus n).busOff = false → ((s.lane l).bus n).inhibited = false →
      (∃ t, exec (.canTxError l n sof .arbitration) s = .next t ∧ ((t.lane l).bus n).arbLost = satInc 16 ((s.lane l).bus n).arbLost ∧
        ((t.lane l).bus n).errors = ((s.lane l).bus n).errors ∧ ((t.lane l).bus n).bufs = ((s.lane l).bus n).bufs) ∧
      (∃ t, exec (.canTxError l n sof .transmit) s = .next t ∧ ((t.lane l).bus n).errors = satInc 16 ((s.lane l).bus n).errors ∧
        ((t.lane l).bus n).tec = ((s.lane l).bus n).tec + 8 ∧ ((t.lane l).bus n).busOff = decide (255 < ((s.lane l).bus n).tec + 8) ∧
        hasAlarm (t.lane l).alarms ⟨.db, 3⟩ n = decide (255 < ((s.lane l).bus n).tec + 8)) ∧
      (∃ t, exec (.canTxError l n sof .acknowledge) s = .next t ∧ ((t.lane l).bus n).ackRun = min 31 (((s.lane l).bus n).ackRun + 1) ∧
        hasAlarm (t.lane l).alarms ⟨.db, 7⟩ n = decide (16 ≤ min 31 (((s.lane l).bus n).ackRun + 1)))) ∧
    (((s.lane l).bus n).busOff = true → ∃ t, exec (.busOffRecovery l n) s = .next t ∧ ((t.lane l).bus n).busOff = false ∧
      ((t.lane l).bus n).tec = 0 ∧ ((t.lane l).bus n).rec_ = 0 ∧ ((t.lane l).bus n).bufs.length = ((s.lane l).bus n).bufs.length ∧
      hasAlarm (t.lane l).alarms ⟨.db, 3⟩ n = false) ∧
    (∀ key : Nat, (∃ e ∈ ((s.lane l).bus n).stagings, e.1 = key ∧ e.2 + 2 ≤ (s.lane l).frame.number) →
      exec (.commandLate l n key) s = .next (s.onLane l fun x => (x.setBus n { x.bus n with
        late := satInc 16 (x.bus n).late, degraded := true, stagings := (x.bus n).stagings.filter fun e => e.1 != key }).raise ⟨.db, 10⟩ n key)) ∧
    exec (.fifoPop l n) s = .next (s.onLane l fun x => x.setBus n { x.bus n with fifo := (x.bus n).fifo.tail })) ∧
  (∀ (s : State) (l : Lane), (s.baize.view l).inhibit = true →
    ∃ t, exec (.transmitInhibit l) s = .next t ∧ t.lane l.other = s.lane l.other ∧ t.baize = s.baize ∧
      ∀ b ∈ (t.lane l).can.buses, b.inhibited = true ∧ b.list = [] ∧ ∀ x ∈ b.bufs, x.item = none) ∧
  (∀ (s : State) (l : Lane), (s.baize.view l).inhibit = false →
    exec (.transmitInhibitRelease l) s = .next (s.onLane l fun x =>
      { x with can := { x.can with buses := x.can.buses.map fun b => { b with inhibited := false } } }))

/-- A frame received on an enabled bus: a remote frame is counted as discarded, the module's own identifier raises DB-015, a status
frame of the default profile renews its source and its three status fields, another frame that passes a filter waits in
the FIFO. A source that has been silent for its time-out is timed out, with DB-012. -/
def Obligations.DriveBusReceives : Prop :=
  (∀ (s : State) (l : Lane) (n : Nat) (f : RxFrame), n < (s.lane l).can.buses.length → ((s.lane l).bus n).enabled = true →
    ((s.lane l).bus n).busOff = false → otherTraffic (s.lane l) l n f.frame = none →
    (f.frame.remote = true → ∃ t, exec (.canFrameReceived l n f) s = .next t ∧
      ((t.lane l).bus n).discarded = satInc 16 ((s.lane l).bus n).discarded ∧ ((t.lane l).bus n).fifo = ((s.lane l).bus n).fifo ∧
      (t.lane l).can.sources = (s.lane l).can.sources) ∧
    (f.frame.remote = false → moduleId (s.lane l).img.canp (s.lane l).img.thru n f.frame = true →
      ∃ t, exec (.canFrameReceived l n f) s = .next t ∧ hasAlarm (t.lane l).alarms ⟨.db, 15⟩ n = true ∧
        ((t.lane l).bus n).degraded = true ∧ ((t.lane l).bus n).fifo = ((s.lane l).bus n).fifo ∧
        (t.lane l).can.sources = (s.lane l).can.sources) ∧
    (f.frame.remote = false → moduleId (s.lane l).img.canp (s.lane l).img.thru n f.frame = false →
      (∀ d, rxEntry (s.lane l).img.canp (s.lane l).img.thru n f.frame = some (d, 16, none) → f.frame.data.length = 16 →
        d < (s.lane l).can.sources.length →
        ∃ t, exec (.canFrameReceived l n f) s = .next t ∧ hasAlarm (t.lane l).alarms ⟨.db, 12⟩ d = false ∧
          (let r := nth default (t.lane l).can.sources d
           r.seen = true ∧ r.age = 0 ∧ r.timedOut = false ∧ r.status = fieldN f.frame.data 0 1 ∧ r.seq = fieldN f.frame.data 1 1 ∧
           r.motion = fieldN f.frame.data 2 1) ∧
          (∀ k, k < 3 → d ≤ 20 → 3 * d + k < (s.lane l).can.status.length →
            nth 0 (t.lane l).can.status (3 * d + k) = fieldF f.frame.data (4 + 4 * k)) ∧
          ((t.lane l).bus n).fifo = ((s.lane l).bus n).fifo) ∧
      (∀ c, rxEntry (s.lane l).img.canp (s.lane l).img.thru n f.frame = none → canbOf (s.lane l).img.canb n = some c →
        ((c.filters.take c.filterCount).any fun q => q.passes f.frame) = true → ((s.lane l).bus n).fifo.length < 64 →
        ∃ t, exec (.canFrameReceived l n f) s = .next t ∧ ((t.lane l).bus n).fifo = ((s.lane l).bus n).fifo ++ [f]) ∧
      (∀ c, rxEntry (s.lane l).img.canp (s.lane l).img.thru n f.frame = none → canbOf (s.lane l).img.canb n = some c →
        ((c.filters.take c.filterCount).any fun q => q.passes f.frame) = true → 64 ≤ ((s.lane l).bus n).fifo.length →
        ∃ t, exec (.canFrameReceived l n f) s = .next t ∧ ((t.lane l).bus n).fifo = ((s.lane l).bus n).fifo ∧
          ((t.lane l).bus n).fifoDropped = satInc 16 ((s.lane l).bus n).fifoDropped ∧ hasAlarm (t.lane l).alarms ⟨.db, 5⟩ n = true))) ∧
  (∀ (s : State) (l : Lane) (d : Nat), sourceUsed (s.lane l).img.canp (s.lane l).img.thru d = true → d < 128 →
    sourceTimeout (s.lane l).img.canp d ≤ (nth default (s.lane l).can.sources d).age →
    exec (.driveStatusTimeout l d) s = .next (s.onLane l fun x =>
      ({ x with can := { x.can with sources := x.can.sources.set d { nth default x.can.sources d with timedOut := true } } } :
        LaneState).raise ⟨.db, 12⟩ d 0))

/-! ## Events of 13 -/

/-- A voter whose watchdog expires commands nothing and is lost; a source line of the test pulses; the Baize takes the SAFE record
of the lane it first heard in STANDBY where it has none, and locks every instance where a changed record comes from the ACTIVE lane; an exchange
frame is held by the voter that receives it, with the Baize's hash. -/
def Obligations.SafetyEvents : Prop :=
  (∀ (s : State) (u : Unit3), ∃ t, exec (.voterWatchdogExpiry u) s = .next t ∧ (t.voterOf u).watchdog = true ∧ (t.voterOf u).cmd = 0 ∧
    (∀ v, v ≠ u → t.voterOf v = s.voterOf v) ∧
    (∀ l, (s.lane l).runs = true → hasAlarm (t.lane l).alarms ⟨.sf, 30⟩ u.index = true)) ∧
  (∀ (s : State) (second low : Bool), exec (.testPulse second low) s = .next { s with
    pulse := if second then { s.pulse with t2Low := low } else { s.pulse with t1Low := low } }) ∧
  (∀ (s : State) (l : Lane) (i : Image), s.baize.powered = true → s.baize.ready = true → s.baize.safe = none →
    s.baize.safeFrom = some l → (s.lane l).image = some i →
    ∃ t, exec (.safeRecordTransfer l) s = .next t ∧ t.baize.safe = some i.safe ∧
      (s.baize.coresAgree = true → t.pulse = { s.pulse with mask := i.safe.testPulses }) ∧
      t.baize.voter.cmd = 0 ∧ (∀ n, n < 24 → (nth default t.baize.voter.insts n).mode = .init) ∧ t.laneA = s.laneA ∧ t.laneB = s.laneB) ∧
  (∀ (s : State) (l k : Lane) (r : SafeRec) (i : Image), s.baize.safe = some r → s.baize.active = some k → (s.lane k).active = true →
    (s.lane k).image = some i → i.safe.hash ≠ r.hash →
    ∃ t, exec (.safeRecordTransfer l) s = .next t ∧ t.baize.safe = some i.safe ∧ hasAlarm (t.lane k).alarms ⟨.sf, 41⟩ 0 = true ∧
      ∀ u, (t.voterOf u).votes = 0 ∧ ∀ x ∈ (t.voterOf u).insts, x.mode = .lockout ∧ x.cause = 4) ∧
  (∀ (s : State) (l : Lane), ∃ t, exec (.safetyExchangeReceived (.lane l) .baize) s = .next t ∧
    (let e := s.baize.voter.exchange (s.safeHash .baize)
     (t.lane l).voter.fromBaize = some e ∧ (t.lane l).voter.cmd = (s.lane l).voter.cmd ∧
     (∀ r, s.baize.safe = some r → (t.lane l).voter.baizeHash = some r.hash ∧ (t.lane l).voter.baizeDirect = true ∧
       ∀ i, (s.lane l).image = some i → hasAlarm (t.lane l).alarms ⟨.sf, 40⟩ l.code = (i.safe.hash != r.hash))) ∧
    t.lane l.other = s.lane l.other ∧ t.baize = s.baize) ∧
  (∀ (s : State) (l : Lane), ∃ t, exec (.safetyExchangeReceived (.lane l) (.lane l.other)) s = .next t ∧
    (t.lane l).voter.heard (.lane l.other) = some ((s.lane l.other).voter.exchange (s.safeHash (.lane l.other))) ∧
    ((s.lane l).voter.baizeDirect = true → (t.lane l).voter.baizeHash = (s.lane l).voter.baizeHash) ∧
    t.lane l.other = s.lane l.other ∧ t.baize = s.baize) ∧
  (∀ (s : State) (l : Lane), s.baize.safe = none →
    exec (.safetyExchangeReceived .baize (.lane l)) s = .next (s.onBaize fun b => { b with
      voter := b.voter.receive .baize (.lane l) ((s.lane l).voter.exchange (s.safeHash (.lane l))) })) ∧
  (∀ (s : State) (u : Unit3), exec (.safetyExchangeReceived u u) s = .next s)

/-! ## Events of 14 -/

/-- An analog input: a final sample of a running channel is the sum of its taps over the newest filter outputs; it becomes
invalid, valid and filled after its times. An output whose object has not been written for its time-out, and one whose
read-back has differed for 100 ms in the active lane. A discrete output that is overloaded switches off and is tried again. -/
def Obligations.AnalogEvents : Prop :=
  (∀ (s : State) (l : Lane) (n : Nat) (r : Anin), aninOf (s.lane l).img.anin n = some r → n < (s.lane l).analog.chans.length →
    (∀ xs : List Rat, ((s.lane l).input n).running = true → r.flags.testBit 0 = false →
      exec (.firSample l n xs) s = .next (s.onLane l fun x =>
        let v := sumQ (List.zipWith (· * ·) (slotTaps x.attic.coeffs (x.input n).set) xs)
        x.setInput n { x.input n with x := some v, y := v })) ∧
    (∀ (xs : List Rat) (d : Rat), ((s.lane l).input n).running = true → r.flags.testBit 0 = true → ((s.lane l).input n).dcest = some d →
      ((s.lane l).input n).cause = 0 → ((s.lane l).input n).oorRun = 0 → r.dcFreeze = 0 →
      (let v := sumQ (List.zipWith (· * ·) (slotTaps (s.lane l).attic.coeffs ((s.lane l).input n).set) xs)
       r.loLimit ≤ v → v < r.hiLimit →
       exec (.firSample l n xs) s = .next (s.onLane l fun x =>
        let e := d + 2 * Config.pi * r.dcFc / (8000000 / ((r.cicR * r.firD : Nat) : Rat)) * (v - d)
        x.setInput n { x.input n with x := some v, dcest := some e, y := v - e, frozen := false }))) ∧
    (∀ xs : List Rat, ((s.lane l).input n).running = false → exec (.firSample l n xs) s = .next s) ∧
    (((s.lane l).input n).cause = 0 → r.oorSamples ≤ ((s.lane l).input n).oorRun →
      exec (.analogInputInvalid l n) s = .next (s.onLane l fun x =>
        (x.setInput n { x.input n with cause := if (x.input n).above then 2 else 1 }).raise ⟨.an, 10⟩ r.channel
          (if (x.input n).above then 2 else 1))) ∧
    (((s.lane l).input n).cause = 1 ∨ ((s.lane l).input n).cause = 2 → 8 * r.clearTime ≤ ((s.lane l).input n).goodRun →
      exec (.analogInputValid l n) s = .next (s.onLane l fun x =>
        (x.setInput n { x.input n with cause := 0 }).clear ⟨.an, 10⟩ r.channel)) ∧
    (((s.lane l).input n).cause = 4 → ((s.lane l).input n).fill = 0 →
      exec (.analogFillComplete l n) s = .next (s.onLane l fun x => x.setInput n { x.input n with cause := 0 }))) ∧
  (∀ (s : State) (l : Lane) (n : Nat) (r : Anou), anouOf (s.lane l).img.anou n = some r →
    (r.source = 2 → ((s.lane l).output n).object.isSome = true → r.objTimeout ≤ ((s.lane l).output n).age →
      exec (.anOutTimeout l n) s = .next (s.onLane l fun x =>
        (x.setOutput n { x.output n with timedOut := true }).raise ⟨.an, 32⟩ r.output 0)) ∧
    (n < (s.lane l).analog.outs.length → (s.lane l).active = true → ((s.lane l).output n).diffRun = 800 → ((s.lane l).output n).complRun ≠ 800 →
      exec (.analogReadbackFault l n) s = .next (s.onLane l fun x => x.raise ⟨.an, 30⟩ n 0)) ∧
    (n < (s.lane l).analog.outs.length → (s.lane l).active = true → ((s.lane l).output n).complRun = 800 → ((s.lane l).output n).diffRun ≠ 800 →
      exec (.analogReadbackFault l n) s = .next (s.onLane l fun x => x.raise ⟨.an, 31⟩ n 0))) ∧
  (∀ (s : State) (n : Nat), nth false s.discreteOut n = true → nth false s.overload n = false →
    ∃ t, exec (.discreteOutputOverload n) s = .next t ∧ t.overload = s.overload.set n true ∧ t.discreteOut = s.discreteOut ∧
      (∀ l, s.activeLane = some l → hasAlarm (t.lane l).alarms ⟨.an, 40⟩ n = true ∧ t.lane l.other = s.lane l.other)) ∧
  (∀ (s : State) (n : Nat), nth false s.overload n = true →
    ∃ t, exec (.discreteOutputRetry n) s = .next t ∧ t.overload = s.overload.set n false ∧ t.discreteOut = s.discreteOut ∧
      (∀ l, s.activeLane = some l → hasAlarm (t.lane l).alarms ⟨.an, 40⟩ n = false ∧ t.lane l.other = s.lane l.other))

/-! ## Network and sessions (15 R433 to R437, R453 to R460) -/

/-- A frame at a port: past the policer it takes its tokens, else it is dropped and counted; a duplicate of a LAN is discarded. A
supervision frame leaves on both LANs that have a link; a link that changes shows in its codes; a silent node is forgotten. -/
def Obligations.NetworkEvents : Prop :=
  (∀ (s : State) (l : Lane) (port arrival : Nat) (f : NetFrame), f.special = false → ((s.lane l).net.port port).tokens < f.length →
    exec (.networkFrameReceived l port f arrival) s = .next (s.onLane l fun x =>
      ({ x with net := x.net.setPort port { x.net.port port with drops := satInc 32 (x.net.port port).drops, dropping := true } } :
        LaneState).codes [.hold ⟨.nt, 10⟩ port 0])) ∧
  (∀ (s : State) (l : Lane) (port arrival : Nat) (f : NetFrame), 2 ≤ port → f.special = false → f.length ≤ ((s.lane l).net.port port).tokens →
    exec (.networkFrameReceived l port f arrival) s = .next (s.onLane l fun x =>
      { x with net := x.net.setPort port { x.net.port port with framesIn := satInc 32 (x.net.port port).framesIn,
                                                                tokens := (x.net.port port).tokens - f.length } })) ∧
  (∀ (s : State) (l : Lane) (port arrival source seq : Nat) (f : NetFrame) (e : NodeEntry), port ≤ 1 → f.special = true →
    f.prp = some (source, seq) → (s.lane l).net.nodes.find? (fun e => e.source == source) = some e → (e.hear port seq).2 = true →
    ∃ t, exec (.networkFrameReceived l port f arrival) s = .next t ∧
      ((t.lane l).net.port port).duplicates = satInc 32 ((s.lane l).net.port port).duplicates ∧ (t.lane l).refs = (s.lane l).refs ∧
      (t.lane l).gnss = (s.lane l).gnss ∧ (t.lane l).net.streamDiscards = (s.lane l).net.streamDiscards) ∧
  (∀ (s : State) (l : Lane), ∃ t, exec (.prpSupervision l) s = .next t ∧ (t.lane l).net.supervision = satInc 32 (s.lane l).net.supervision ∧
    (t.lane l).net.prpSeq = ((s.lane l).net.prpSeq + 1) % 65536 ∧
    (t.lane l).net.lanA.framesOut = (if (s.lane l).net.lanA.link then satInc 32 (s.lane l).net.lanA.framesOut else (s.lane l).net.lanA.framesOut) ∧
    (t.lane l).net.lanB.framesOut = (if (s.lane l).net.lanB.link then satInc 32 (s.lane l).net.lanB.framesOut else (s.lane l).net.lanB.framesOut) ∧
    t.lane l.other = s.lane l.other) ∧
  (∀ (s : State) (l : Lane) (port : Nat) (up : Bool), ∃ t, exec (.linkChange l port up) s = .next t ∧ ((t.lane l).net.port port).link = up ∧
    hasAlarm (t.lane l).alarms ⟨.nt, 1⟩ 0 = !(t.lane l).net.lanA.link ∧ hasAlarm (t.lane l).alarms ⟨.nt, 1⟩ 1 = !(t.lane l).net.lanB.link ∧
    hasAlarm (t.lane l).alarms ⟨.nt, 2⟩ 0 = (!(t.lane l).net.lanA.link && !(t.lane l).net.lanB.link) ∧
    hasAlarm (t.lane l).alarms ⟨.nt, 3⟩ 0 = !(t.lane l).net.service.link ∧ hasAlarm (t.lane l).alarms ⟨.nt, 4⟩ 0 = !(t.lane l).net.partner.link) ∧
  (∀ (s : State) (l : Lane) (source : Nat), (∀ e ∈ (s.lane l).net.nodes, e.source = source → 1000 * (s.lane l).img.netw.nodeForget ≤ e.age) →
    ∃ t, exec (.nodeForget l source) s = .next t ∧ (t.lane l).net.nodes = (s.lane l).net.nodes.filter (fun e => e.source != source) ∧
      ((t.lane l).net.nodes.length < 256 → hasAlarm (t.lane l).alarms ⟨.nt, 11⟩ 0 = false))

/-- Messages of a session other than a WRITE: CLOSE ends it, KEEPALIVE is answered, READ and SUBSCRIBE are answered item by item;
an OPEN of a station with its key gives a session, a fifth one is BUSY; a silent session ends. -/
def Obligations.SessionMessages : Prop :=
  (∀ (s : State) (l : Lane) (m : Msg) (d : Datagram) (p : Station × SessionKey), (s.lane l).image.isSome = true → (s.lane l).life.powered = true →
    parseDatagram m.bytes = some d → d.type = 0x01 → d.session = 0 → d.body.length = 20 → (s.lane l).openStation m d = some p →
    ((s.lane l).ses.sessions.length < 4 → ∃ t q, exec (.openSession l m) s = .next t ∧
      (t.lane l).ses.sessions = (s.lane l).ses.sessions ++ [q] ∧ q.keyId = p.2.keyId ∧ q.kind = p.1.kind ∧ q.rights = p.1.rights ∧
      q.address = m.address ∧ q.udpPort = m.udpPort ∧ q.newest = d.seq ∧ (t.lane l).ses.lastNumber = q.number ∧
      t.lane l.other = s.lane l.other) ∧
    (4 ≤ (s.lane l).ses.sessions.length → ∃ t, exec (.openSession l m) s = .next t ∧ (t.lane l).ses.sessions = (s.lane l).ses.sessions ∧
      hasAlarm (t.lane l).alarms ⟨.nt, 21⟩ 0 = true ∧ (t.lane l).ses.answers.length = (s.lane l).ses.answers.length + 1)) ∧
  (∀ (s : State) (l : Lane) (m : Msg), (s.lane l).image.isSome = true → (s.lane l).life.powered = true → parseDatagram m.bytes = none →
    ∃ t, exec (.openSession l m) s = .next t ∧ (t.lane l).ses.badOpens = satInc 32 (s.lane l).ses.badOpens ∧
      (t.lane l).ses.sessions = (s.lane l).ses.sessions ∧ (t.lane l).ses.answers = (s.lane l).ses.answers) ∧
  (∀ (s : State) (l : Lane) (m : Msg) (ses : SessionState) (q : Session) (d : Datagram), (s.lane l).hearsType m 0x03 ses q d →
    ∃ t, exec (.close l m) s = .next t ∧ (∀ k ∈ (t.lane l).ses.sessions, k.number ≠ q.number) ∧
      (t.lane l).ses.find q.number = none ∧ t.lane l.other = s.lane l.other ∧
      ((s.lane l).ownsWrite q.number = true → (t.lane l).cellar.write = none)) ∧
  (∀ (s : State) (l : Lane) (m : Msg) (ses : SessionState) (q : Session) (d : Datagram), (s.lane l).hearsType m 0x04 ses q d →
    exec (.keepalive l m) s = .next (s.onLane l fun x => { x with ses := ses.answer q 0x04 d.seq [] [] })) ∧
  (∀ (s : State) (l : Lane) (m : Msg) (ses : SessionState) (q : Session) (d : Datagram) (items : List (Nat × Nat × Nat)),
    (s.lane l).hearsType m 0x10 ses q d → 1 ≤ fieldN d.body 0 1 → fieldN d.body 0 1 ≤ 32 →
    readItems (fieldN d.body 0 1) (d.body.drop 1) = some items →
    exec (.read l m) s = .next ((s.onLane l fun x => { x with
      ses := ses.answer q 0x12 d.seq ((s.onLane l fun y => { y with ses := ses }).readAnswers l 1420 items) [] }).tick)) ∧
  (∀ (s : State) (l : Lane) (m : Msg) (ses : SessionState) (q : Session) (d : Datagram) (items : List SubItem),
    (s.lane l).hearsType m 0x20 ses q d → subItems (fieldN d.body 0 1) (d.body.drop 1) = some items →
    ∃ t q', exec (.subscribe l m) s = .next t ∧
      q' = { q with subs := ((items.mapIdx fun k i => (i, i.judge k)).filter fun p => p.2 == 0).map (·.1), late := [] } ∧
      (t.lane l).ses = (ses.update q').answer q' 0x12 d.seq ((items.mapIdx fun k i => (i, i.judge k)).map fun p => ⟨p.2, 0, p.1.object, []⟩) [] ∧
      t.lane l.other = s.lane l.other) ∧
  (∀ (s : State) (l : Lane) (n : Nat) (q : Session), (s.lane l).ses.find n = some q → 1000 * (s.lane l).img.netw.sessionTimeout ≤ q.age →
    ∃ t, exec (.sessionTimeout l n) s = .next t ∧ (t.lane l).ses.find n = none ∧ hasAlarm (t.lane l).alarms ⟨.nt, 21⟩ 0 = false ∧
      ((s.lane l).ownsWrite n = true → (t.lane l).cellar.write = none) ∧ t.lane l.other = s.lane l.other)

/-! ## Module time (15 R439 to R451) -/

/-- INCR is loaded from its three registers and clamped, a step is armed and applied at the next whole second with its time moved by
its amount, slewing ends at TICK_OFFSET 0, a snapshot holds the time, a timestamp unit holds its first event until it is
released. -/
def Obligations.ClockAndStamps : Prop :=
  (∀ (s : State) (l : Lane) (v : Nat), ∃ t, exec (.incrWrite l v) s = .next t ∧ t.lane l.other = s.lane l.other ∧
    (let c := (s.lane l).clock
     let w := c.incrNs % 16 * 2 ^ 40 + v % 256 * 2 ^ 32 + c.incrLo % 2 ^ 32
     t.lane l = { s.lane l with clock := { c with incr := max incrLow (min incrHigh w), incrHi := v % 256,
                                                  incrClamped := c.incrClamped || decide (w < incrLow ∨ incrHigh < w) } })) ∧
  (∀ (s : State) (l : Lane), exec (.stepArm l) s = .next (s.onLane l fun x => { x with clock := { x.clock with stepPending := true } })) ∧
  (∀ (s : State) (l : Lane), (s.lane l).clock.stepPending = true → 0 ≤ ((s.lane l).clock.total : Int) + (s.lane l).clock.stepTotal →
    ((s.lane l).clock.total : Int) + (s.lane l).clock.stepTotal < 2 ^ 48 * 1000000000 →
    ∃ t, exec (.stepApply l) s = .next t ∧ ((t.lane l).clock.total : Int) = (s.lane l).clock.total + (s.lane l).clock.stepTotal ∧
      (t.lane l).clock.stepPending = false ∧ (t.lane l).clock.stepDone = true ∧ (t.lane l).clock.incr = (s.lane l).clock.incr ∧
      hasAlarm (t.lane l).alarms ⟨.tm, 20⟩ 0 = true ∧ (t.lane l).frame.number = (s.lane l).frame.number ∧
      (t.lane l).src.lastStepS = (s.lane l).clock.stepS ∧ (t.lane l).src.lastStepNs = (s.lane l).clock.stepNs ∧
      t.lane l.other = s.lane l.other) ∧
  (∀ (s : State) (l : Lane), (s.lane l).clock.tickOffset = 0 →
    exec (.slewComplete l) s = .next (s.onLane l fun x => ({ x with clock := { x.clock with tickSlew := 0 } } : LaneState).clear ⟨.tm, 40⟩ 0)) ∧
  (∀ (s : State) (l : Lane), exec (.timeSnapshotRead l) s = .next (s.onLane l fun x => { x with clock := { x.clock with
    readLo := x.clock.s % 2 ^ 32, snapSHi := x.clock.s / 2 ^ 32 % 2 ^ 16, snapNs := x.clock.ns, snapFrame := x.frame.number % 2 ^ 64 } })) ∧
  (∀ (s : State) (l : Lane) (n ns : Nat), n < (s.lane l).stamps.length →
    (n < 5 → ((s.lane l).stamp n).valid = false → exec (.timestampCapture l n ns) s = .next (s.onLane l fun x =>
      x.setStamp n { x.stamp n with valid := true, s := (x.nowNs + ns) / 1000000000, ns := (x.nowNs + ns) % 1000000000 })) ∧
    (n < 5 → ((s.lane l).stamp n).valid = true → exec (.timestampCapture l n ns) s = .next (s.onLane l fun x =>
      x.setStamp n { x.stamp n with overrun := true })) ∧
    (n = 5 → ((s.lane l).stamp n).valid = false → exec (.captureNow l ns) s = .next (s.onLane l fun x =>
      x.setStamp 5 { x.stamp 5 with valid := true, s := (x.nowNs + ns) / 1000000000, ns := (x.nowNs + ns) % 1000000000 })) ∧
    (n = 5 → ((s.lane l).stamp n).valid = true → exec (.captureNow l ns) s = .next (s.onLane l fun x =>
      x.setStamp 5 { x.stamp 5 with overrun := true })) ∧
    exec (.captureRelease l n) s = .next (s.onLane l fun x => x.setStamp n { x.stamp n with valid := false, locked := false }) ∧
    exec (.captureValidRead l n) s = .next (s.onLane l fun x => x.setStamp n { x.stamp n with locked := (x.stamp n).locked || (x.stamp n).valid }))

/-- PTP and time sources: a foreign master is held up to eight and ages out; a message of another profile is counted; a master sends
Sync, a slave its delay request. A source that has qualified is used, module time LOCKED where no step is under way; HOLDOVER
and FREERUN follow without a source. -/
def Obligations.PtpAndTimeSources : Prop :=
  (∀ (s : State) (l : Lane) (lan ns : Nat), exec (.ptpMessageReceived l lan .other ns) s = .next (s.onLane l fun x =>
    { x with ptp := { x.ptp with ignored := satInc 32 x.ptp.ignored } })) ∧
  (∀ (s : State) (l : Lane) (lan ns identity c p1 p2 : Nat), (s.lane l).ptp.masters.all (fun q => !(q.identity == identity && q.lan == lan)) = true →
    (8 ≤ (s.lane l).ptp.masters.length → exec (.ptpMessageReceived l lan (.announce identity c p1 p2) ns) s = .next (s.onLane l fun x => x.raise ⟨.tm, 30⟩ 0 0)) ∧
    ((s.lane l).ptp.masters.length < 8 → ∃ t, exec (.ptpMessageReceived l lan (.announce identity c p1 p2) ns) s = .next t ∧
      (t.lane l).ptp.masters.length = (s.lane l).ptp.masters.length + 1 ∧ (t.lane l).ptp.masters.any (fun q => q.identity == identity && q.lan == lan) = true ∧
      t.lane l.other = s.lane l.other)) ∧
  (∀ (s : State) (l : Lane) (lan ns : Nat), (s.lane l).ptp.isMaster = true → ∃ t, exec (.ptpSyncSend l lan ns) s = .next t ∧
    (t.lane l).ptp.seq = ((s.lane l).ptp.seq + 1) % 65536 ∧ (t.lane l).ptp.sentTotal = (s.lane l).nowNs + ns ∧
    (t.lane l).ptp.masters = (s.lane l).ptp.masters ∧ (t.lane l).clock = (s.lane l).clock ∧ t.lane l.other = s.lane l.other) ∧
  (∀ (s : State) (l : Lane) (lan ns : Nat), ((s.lane l).ptp.masters.any fun m => m.selected && m.lan == lan) = true →
    ∃ t, exec (.ptpDelayRequest l lan ns) s = .next t ∧ (t.lane l).ptp.seq = ((s.lane l).ptp.seq + 1) % 65536 ∧
      (t.lane l).ptp.sentTotal = (s.lane l).nowNs + ns ∧ (t.lane l).ptp.masters = (s.lane l).ptp.masters ∧ t.lane l.other = s.lane l.other) ∧
  (∀ (s : State) (l : Lane) (identity : Nat), (∃ m ∈ (s.lane l).ptp.masters, m.identity = identity) →
    (∀ m ∈ (s.lane l).ptp.masters, m.identity = identity → announceFrames (s.lane l).img.time ≤ m.age) →
    ∃ t, exec (.foreignMasterAgeOut l identity) s = .next t ∧ (∀ m ∈ (t.lane l).ptp.masters, m.identity ≠ identity) ∧
      (t.lane l).ptp.masters.length = ((s.lane l).ptp.masters.filter fun m => m.identity != identity).length ∧
      hasAlarm (t.lane l).alarms ⟨.tm, 30⟩ 0 = false ∧ t.lane l.other = s.lane l.other) ∧
  (∀ (s : State) (l : Lane) (offset : Int), (s.lane l).src.gnssRun = 10000 → (s.lane l).order.head? = some .gnss → (s.lane l).src.source ≠ .gnss →
    ∃ t, exec (.sourceQualified l .gnss offset) s = .next t ∧ (t.lane l).src.source = .gnss ∧ (t.lane l).src.gnssOk = true ∧
      (t.lane l).src.lastOffset = offset ∧
      (offset.natAbs ≤ 1000000 → (s.lane l).clock.stepPending = false → (t.lane l).clock.slewLeft = -offset ∧ (t.lane l).src.quality = .locked ∧
        (t.lane l).src.estimate = some (offset.natAbs + 50)) ∧
      (1000000 < offset.natAbs → (t.lane l).clock.stepPending = true ∧ (t.lane l).clock.stepTotal = -offset ∧
        (t.lane l).src.quality = (s.lane l).src.quality)) ∧
  (∀ (s : State) (l : Lane), (s.lane l).src.quality = .locked → (s.lane l).order.contains (s.lane l).src.source = false → 2000 ≤ (s.lane l).src.noneRun →
    exec (.holdoverEntry l) s = .next (s.onLane l fun x =>
      ({ x with src := { x.src with quality := .holdover, warm := decide (86400000 ≤ x.src.warmFrames) } } : LaneState).raise ⟨.tm, 2⟩ 0 0)) ∧
  (∀ (s : State) (l : Lane) (e : Nat), (s.lane l).src.quality = .holdover → (s.lane l).src.estimate = some e → 10000 < e + (s.lane l).src.growth →
    exec (.freerunEntry l) s = .next (s.onLane l fun x =>
      ({ x with src := { x.src with quality := .freerun } } : LaneState).codes [.clear ⟨.tm, 2⟩ 0, .raise ⟨.tm, 3⟩ 0 0]))

/-- A pulse generator: armed with its settings it runs, a one-shot less than 1 µs ahead is missed; its edge raises the output unless
it is still high or the last pulse has not been low for as long; the width ends the pulse. -/
def Obligations.PulseGenerators : Prop :=
  ∀ (s : State) (l : Lane) (n : Nat), n < (s.lane l).pulses.length →
    (∀ ns : Nat, ((s.lane l).pulse n).high = false → ((s.lane l).pulse n).mode = 2 →
      ∃ t, exec (.pulseArm l n ns) s = .next t ∧
        (let g := (s.lane l).pulse n
         let h := (t.lane l).pulse n
         h.running = true ∧ h.actMode = 2 ∧ h.actStart = g.startS * 1000000000 + g.startNs ∧ h.actPeriod = g.period ∧ h.actWidth = g.width ∧
         (t.lane l).alarms = (s.lane l).alarms)) ∧
    (∀ ns : Nat, ((s.lane l).pulse n).high = false → ((s.lane l).pulse n).mode = 1 →
      ((s.lane l).pulse n).startS * 1000000000 + ((s.lane l).pulse n).startNs < (s.lane l).nowNs + ns + 1000 →
      ∃ t, exec (.pulseArm l n ns) s = .next t ∧ ((t.lane l).pulse n).running = false ∧ ((t.lane l).pulse n).missed = true ∧
        hasAlarm (t.lane l).alarms ⟨.tm, 21⟩ 0 = true) ∧
    (∀ ns : Nat, ((s.lane l).pulse n).high = false → ((s.lane l).pulse n).mode = 0 →
      ∃ t, exec (.pulseArm l n ns) s = .next t ∧ ((t.lane l).pulse n).running = false ∧ (t.lane l).alarms = (s.lane l).alarms) ∧
    (∀ ns : Nat, ((s.lane l).pulse n).high = false → ((s.lane l).pulse n).mode = 3 →
      ∃ t, exec (.pulseArm l n ns) s = .next t ∧ ((t.lane l).pulse n).running = true ∧ ((t.lane l).pulse n).actPeriod = 1000000000 ∧
        ((t.lane l).pulse n).actStart = (((s.lane l).nowNs + ns) / 1000000000 + 1) * 1000000000) ∧
    (∀ ns : Nat, ((s.lane l).pulse n).high = false → ((s.lane l).pulse n).mode = 1 →
      (s.lane l).nowNs + ns + 1000 ≤ ((s.lane l).pulse n).startS * 1000000000 + ((s.lane l).pulse n).startNs →
      ∃ t, exec (.pulseArm l n ns) s = .next t ∧ ((t.lane l).pulse n).running = true ∧ ((t.lane l).pulse n).actMode = 1 ∧
        ((t.lane l).pulse n).actStart = ((s.lane l).pulse n).startS * 1000000000 + ((s.lane l).pulse n).startNs) ∧
    (∀ ns : Nat, ((s.lane l).pulse n).high = true → exec (.pulseArm l n ns) s = .next (s.onLane l fun x =>
      x.setPulse n { x.pulse n with armed := true, newMode := (x.pulse n).mode, newStart := (x.pulse n).startS * 1000000000 + (x.pulse n).startNs, newPeriod := (x.pulse n).period, newWidth := (x.pulse n).width })) ∧
    (((s.lane l).pulse n).running = true → ((s.lane l).pulse n).high = false → ((s.lane l).pulse n).lastFall = none →
      exec (.pulseEdge l n) s = .next (s.onLane l fun x => x.setPulse n { x.pulse n with
        high := true, fired := true, nextK := (x.pulse n).nextK + 1, running := (x.pulse n).actMode != 1, lastFall := some ((x.pulse n).edgeAt (x.pulse n).nextK + (x.pulse n).actWidth) })) ∧
    (((s.lane l).pulse n).running = true → ((s.lane l).pulse n).high = true →
      ∃ t, exec (.pulseEdge l n) s = .next t ∧ ((t.lane l).pulse n).high = true ∧ ((t.lane l).pulse n).omitted = true ∧
        ((t.lane l).pulse n).skipped = satInc 16 ((s.lane l).pulse n).skipped ∧ hasAlarm (t.lane l).alarms ⟨.tm, 21⟩ 0 = true) ∧
    (((s.lane l).pulse n).high = true → ((s.lane l).pulse n).armed = false →
      exec (.pulseWidthEnd l n) s = .next (s.onLane l fun x => x.setPulse n { x.pulse n with high := false })) ∧
    (((s.lane l).pulse n).high = true → ((s.lane l).pulse n).armed = true → ((s.lane l).pulse n).newMode = 2 →
      ∃ t, exec (.pulseWidthEnd l n) s = .next t ∧
        (let g := (s.lane l).pulse n
         let h := (t.lane l).pulse n
         h.high = false ∧ h.armed = false ∧ h.running = true ∧ h.actMode = 2 ∧ h.actStart = g.newStart ∧ h.actPeriod = g.newPeriod ∧
         h.actWidth = g.newWidth))

/-! ## The panel (17) -/

/-- The controller starts, with its update regions idle and a balanced clear to run, or without updates where the crack loop is
open; a request of the sending lane reaches it, and starts at a phase boundary; the rails rise step by step and fall when idle;
a cracked panel, a temperature out of range and a power-fail stop it. -/
def Obligations.CanvasEvents : Prop :=
  (∀ (s : State) (readable : Bool) (ohm : Nat), s.canvas.running = false → s.laneA.power.regulated = true ∨ s.laneB.power.regulated = true →
    ∃ t, exec (.canvasStart readable ohm) s = .next t ∧ t.canvas.running = true ∧ t.canvas.crackOhm = ohm ∧ t.canvas.light = false ∧
      t.canvas.image = s.canvas.image ∧ (∀ r ∈ t.canvas.regions, r.state = 0 ∧ r.pending = none) ∧
      (1000 ≤ ohm → t.canvas.stopped = 3 ∧ t.canvas.clearing = none ∧ t.canvas.rails = .down) ∧
      (ohm < 1000 → t.canvas.stopped = 0 ∧ t.canvas.clearing.isSome = true ∧ t.canvas.rails = .rising 0)) ∧
  (∀ (s : State) (l : Lane) (n : Nat) (c : Bytes), nth none (s.lane l).canvasOut n = some c → s.sender = l → s.canvas.running = true →
    s.canvas.stopped = 0 → n < s.canvas.regions.length →
    ∃ t, exec (.canvasRequest l n) s = .next t ∧ (t.lane l).canvasOut = (s.lane l).canvasOut.set n none ∧ t.canvas.idle = 0 ∧
      (nth default t.canvas.regions n).pending = some (canonPixels n (Config.render n c)) ∧
      (∀ k, k ≠ n → nth default t.canvas.regions k = nth default s.canvas.regions k) ∧ t.canvas.image = s.canvas.image) ∧
  (∀ (s : State) (inp : CanvasIn), s.canvas.running = true → 0 ≤ inp.temperature → inp.temperature < 600 → inp.railOk = true →
    ∃ t, exec (.canvasTick inp) s = .next t ∧ t.canvas.temperature = inp.temperature ∧ t.canvas.image = s.canvas.image ∧
      t.canvas.counts = s.canvas.counts ∧ t.canvas.misses ≤ s.canvas.misses ∧
      (∀ k, s.canvas.rails = .rising k → t.canvas.rails = (if k < 5 then .rising (k + 1) else .up)) ∧
      (∀ k, s.canvas.rails = .falling k → t.canvas.rails = (if k = 0 then .down else .falling (k - 1))) ∧
      (s.canvas.rails = .up → t.canvas.rails = .up) ∧
      (∀ l, (s.lane l).runs = true → (t.lane l).canvasAge = 0 ∧ hasAlarm (t.lane l).alarms ⟨.cv, 11⟩ 0 = false)) ∧
  (∀ (s : State) (inp : CanvasIn) (k : Nat), s.canvas.running = true → s.canvas.rails = .rising k → inp.railOk = false →
    ∃ t, exec (.canvasTick inp) s = .next t ∧ t.canvas.rails = .falling k ∧ t.canvas.misses = s.canvas.misses + 1 ∧
      (2 ≤ s.canvas.misses → t.canvas.stopped = 1 ∧ t.canvas.retryWait = none) ∧
      (s.canvas.misses < 2 → t.canvas.stopped = s.canvas.stopped ∧ t.canvas.retryWait = some 0) ∧
      ∀ l, (s.lane l).runs = true → hasAlarm (t.lane l).alarms ⟨.cv, 1⟩ 0 = true) ∧
  (∀ (s : State) (n : Nat), s.canvas.running = true → s.canvas.rails = .up → s.canvas.clearing = some n →
    (1 < n → exec .canvasPhaseBoundary s = .next { s with canvas := { s.canvas with clearing := some (n - 1) } }) ∧
    (n ≤ 1 → ∃ t, exec .canvasPhaseBoundary s = .next t ∧ t.canvas.clearing = none ∧ t.canvas.image = [] ∧ t.canvas.counts = [] ∧
      t.canvas.light = true ∧ ∀ r ∈ t.canvas.regions, r.state = 0)) ∧
  (∀ s : State, s.canvas.running = true → s.canvas.rails = .up → s.canvas.clearing = none → s.canvas.stopped = 0 → s.canvas.cold = false →
    ∃ t, exec .canvasPhaseBoundary s = .next t ∧ t.laneA = s.laneA ∧ t.laneB = s.laneB ∧
      ∀ n, n < 5 → n < s.canvas.regions.length →
        ((nth default s.canvas.regions n).state ≠ 1 → (nth default s.canvas.regions n).pending.isSome = true →
          (nth default t.canvas.regions n).state = 1 ∧ (nth default t.canvas.regions n).phase = 0 ∧
          (nth default t.canvas.regions n).pending = none ∧
          some (nth default t.canvas.regions n).target = (nth default s.canvas.regions n).pending) ∧
        ((nth default s.canvas.regions n).state = 1 → (nth default s.canvas.regions n).balance = 0 → (nth default s.canvas.regions n).phase < 7 →
          (nth default t.canvas.regions n).phase = (nth default s.canvas.regions n).phase + 1)) ∧
  (∀ s : State, s.canvas.rails = .up → s.canvas.work = false → s.canvas.idleRails ≤ s.canvas.idle →
    exec .canvasRailsIdle s = .next { s with canvas := { s.canvas with rails := .falling 5 } }) ∧
  (∀ (s : State) (n : Nat), s.canvas.retryWait = some n → 10000 ≤ n → s.canvas.stopped = 0 → s.canvas.rails = .down → s.canvas.cold = false →
    s.canvas.running = true → exec .canvasRailRetry s = .next { s with canvas := { s.canvas with retryWait := none, rails := .rising 0 } }) ∧
  (∀ (s : State) (ohm : Nat), s.canvas.running = true →
    (ohm < 1000 → exec (.crackLoopCheck ohm) s = .next { s with canvas := { s.canvas with crackOhm := ohm } }) ∧
    (1000 ≤ ohm → ∃ t, exec (.crackLoopCheck ohm) s = .next t ∧ t.canvas.stopped = 3 ∧ t.canvas.light = false ∧
      (∀ r ∈ t.canvas.regions, r.pending = none ∧ r.state ≠ 1) ∧ ∀ l, (s.lane l).runs = true → hasAlarm (t.lane l).alarms ⟨.cv, 3⟩ 0 = true)) ∧
  (∀ s : State, s.canvas.cold = true → 60000 ≤ s.canvas.inRange → ∃ t, exec .canvasTemperatureClear s = .next t ∧ t.canvas.cold = false ∧
    t.canvas.image = s.canvas.image ∧ ∀ l, (s.lane l).runs = true → hasAlarm (t.lane l).alarms ⟨.cv, 20⟩ 0 = false) ∧
  (∀ s : State, s.canvas.running = true → s.laneA.powerFail = true → s.laneB.powerFail = true →
    ∃ t, exec .canvasPowerFail s = .next t ∧ t.canvas.running = false ∧ t.canvas.rails = .down ∧ t.canvas.light = false ∧
      (∀ r ∈ t.canvas.regions, r.pending = none ∧ r.state ≠ 1) ∧ t.laneA = s.laneA ∧ t.laneB = s.laneB) ∧
  (∀ (s : State) (l : Lane), (s.lane l).runs = true → 1000 ≤ (s.lane l).canvasAge →
    exec (.canvasStatusTimeout l) s = .next (s.onLane l fun x => x.raise ⟨.cv, 11⟩ 0 0))

/-! ## Registers (00 R10, R11; 09 R278; 10 R298; 11 R350; 15 R441 to R451) -/

/-- A write to a register of a lane that has its rails: a WC bit written 1 clears, an RW field takes its bits, and nothing else of the
lane changes. -/
def Obligations.RegisterWrites : Prop :=
  ∀ (s : State) (l : Lane) (v : Nat), (s.lane l).life.powered = true →
    exec (.registerWrite l .incrNs v) s = .next (s.tick.onLane l fun x => { x with clock := { x.clock with incrNs := v % 16 } }) ∧
    exec (.registerWrite l .incrLo v) s = .next (s.tick.onLane l fun x => { x with clock := { x.clock with incrLo := v % 2 ^ 32 } }) ∧
    exec (.registerWrite l .stepS v) s = .next (s.tick.onLane l fun x => { x with clock := { x.clock with stepS := signed 32 v } }) ∧
    (-1000000000 < signed 32 v → signed 32 v < 1000000000 →
      exec (.registerWrite l .stepNs v) s = .next (s.tick.onLane l fun x => { x with clock := { x.clock with stepNs := signed 32 v } })) ∧
    (∀ n, n < (s.lane l).oneStep.length → exec (.registerWrite l (.oneStep n) v) s = .next (s.tick.onLane l fun x =>
      { x with oneStep := x.oneStep.set n { nth default x.oneStep n with enable := v.testBit 0, ingress := v.testBit 1 } })) ∧
    (∀ n, n < (s.lane l).pulses.length →
      exec (.registerWrite l (.pulseStartLo n) v) s = .next (s.tick.onLane l fun x =>
        x.setPulse n { x.pulse n with startS := (x.pulse n).startS / 2 ^ 32 * 2 ^ 32 + v % 2 ^ 32 }) ∧
      exec (.registerWrite l (.pulseStartHi n) v) s = .next (s.tick.onLane l fun x =>
        x.setPulse n { x.pulse n with startS := v % 2 ^ 16 * 2 ^ 32 + (x.pulse n).startS % 2 ^ 32 }) ∧
      exec (.registerWrite l (.pulseStartNs n) v) s = .next (s.tick.onLane l fun x => x.setPulse n { x.pulse n with startNs := v % 2 ^ 30 }) ∧
      exec (.registerWrite l (.pulsePeriodLo n) v) s = .next (s.tick.onLane l fun x =>
        x.setPulse n { x.pulse n with period := (x.pulse n).period / 2 ^ 32 * 2 ^ 32 + v % 2 ^ 32 }) ∧
      exec (.registerWrite l (.pulsePeriodHi n) v) s = .next (s.tick.onLane l fun x =>
        x.setPulse n { x.pulse n with period := v % 2 ^ 8 * 2 ^ 32 + (x.pulse n).period % 2 ^ 32 })) ∧
    (∀ n, n < (s.lane l).loop.buffer.length → exec (.registerWrite l (.setpointSeq n) v) s = .next (s.tick.onLane l fun x =>
      { x with loop := { x.loop with buffer := x.loop.buffer.set n { nth default x.loop.buffer n with seq := v % 2 ^ 16 } } })) ∧
    (∃ t, exec (.registerWrite l (.problem 0) v) s = .next t ∧ (t.lane l).alloc.problem.seq = v % 2 ^ 32 ∧
      ((t.lane l).alloc.problem.crcOk = true → t = s.tick)) ∧
    exec (.registerWrite l (.problem 0x2178) v) s = .next (s.tick.onLane l fun x =>
      { x with alloc := { x.alloc with problem := { x.alloc.problem with crcOk := decide (v % 2 ^ 32 = crc32c x.alloc.problem.bytes) } } }) ∧
    exec (.registerWrite l .clockFlags v) s = .next (s.tick.onLane l fun x => { x with clock := { x.clock with
      stepDone := x.clock.stepDone && !v.testBit 2, incrClamped := x.clock.incrClamped && !v.testBit 3 } }) ∧
    (∃ t, exec (.registerWrite l .tickSlew v) s = .next t ∧ -439804651 ≤ (t.lane l).clock.tickSlew ∧ (t.lane l).clock.tickSlew ≤ 439804651 ∧
      (-439804651 ≤ signed 32 v → signed 32 v ≤ 439804651 → (t.lane l).clock.tickSlew = signed 32 v)) ∧
    (∀ n, n < (s.lane l).stamps.length → exec (.registerWrite l (.stamp n) v) s = .next (s.tick.onLane l fun x =>
      x.setStamp n { x.stamp n with overrun := (x.stamp n).overrun && !v.testBit 1 })) ∧
    (∀ n, n < (s.lane l).pulses.length → exec (.registerWrite l (.pulseWidth n) v) s = .next (s.tick.onLane l fun x =>
      x.setPulse n { x.pulse n with width := v % 2 ^ 32 })) ∧
    (∀ n, n < (s.lane l).pulses.length → exec (.registerWrite l (.pulseCtrl n) v) s = .next (s.tick.onLane l fun x =>
      x.setPulse n { x.pulse n with mode := v % 4, polarity := v / 4 % 2, missed := (x.pulse n).missed && !v.testBit 5,
                                    omitted := (x.pulse n).omitted && !v.testBit 6 })) ∧
    exec (.registerWrite l .engStatus v) s = .next (s.tick.onLane l fun x =>
      { x with alloc := { x.alloc with eng := { x.alloc.eng with refused := x.alloc.eng.refused && !v.testBit 3 } } }) ∧
    exec (.registerWrite l .engReset v) s = .next (s.tick.onLane l fun x =>
      { x with alloc := { x.alloc with eng := { x.alloc.eng with resetAct := v % 2 ^ 24, resetPow := v / 2 ^ 24 % 2 ^ 6 } } }) ∧
    (∀ (n : Nat) (r : Fbch), fbRec (s.lane l).img.fbch n = some r → exec (.registerWrite l (.fbStatus n) v) s = .next (s.tick.onLane l fun x =>
      x.setChan n { x.chan n with indexSeen := (x.chan n).indexSeen && !v.testBit 9, illegalSeen := (x.chan n).illegalSeen && !v.testBit 10 })) ∧
    (∀ n, n < (s.lane l).loop.buffer.length → exec (.registerWrite l (.setpointControl n) v) s = .next (s.tick.onLane l fun x =>
      { x with loop := { x.loop with
        buffer := x.loop.buffer.set n { nth default x.loop.buffer n with run := v.testBit 0, dir := v / 2 % 4 } } })) ∧
    (∀ (n : Nat) (q : Rat), n < (s.lane l).loop.buffer.length → f32Value (v % 2 ^ 32) = some q →
      exec (.registerWrite l (.setpoint n) v) s = .next (s.tick.onLane l fun x =>
        { x with loop := { x.loop with buffer := x.loop.buffer.set n { nth default x.loop.buffer n with setpoint := q } } }))

/-! ## What an event leaves unchanged -/

/-- An event of one family of a lane leaves everything else of the block as it was: the other lane, the Baize, the panel, the shared
outputs, the keys, and every part of its own lane but the family's, the lane's active codes and its Larder. -/
def Obligations.EventsTouchTheirPart : Prop :=
  ∀ (c : Instr) (s t : State), exec c s = .next t →
    (match c with
     | .gnssDump l _ _ | .searchHit l _ _ _ _ _ _ | .slotRelease l _ _ | .antennaBiasFault l _ | .antennaBiasRetry l _ | .rtcmFrameReceived l _
     | .gnssPeerSolutionReceived l | .gnssSolutionTimeout l | .headingFixTimeout l | .untrackedTimeout l _ | .gnssFrontEndFault l _ _ =>
       s.laneOnly t l fun x y => { x with gnss := y.gnss }
     | .navMessage l _ =>
       s.laneOnly t l fun x y => { x with gnss := y.gnss, attic := { x.attic with ephs := y.attic.ephs } }
     | .sentenceReceived l _ _ _ | .referenceBinaryFrame l _ _ _ =>
       t.alarmsKept s l ∧ s.laneOnly t l fun x y => { x with refs := y.refs, ctrl := { x.ctrl with tracker := y.ctrl.tracker } }
     | .referenceLost l _ | .predictionOnlyTimeout l _ => s.laneOnly t l fun x y => { x with refs := y.refs }
     | .deadReckoningLimit l _ =>
       s.laneOnly t l fun x y => { x with obs := y.obs, ctrl := y.ctrl, eligible := y.eligible }
     | .joystickTimeout l | .crossTrackTimeout l | .targetLost l => s.laneOnly t l fun x y => { x with ctrl := y.ctrl }
     | .engStart l _ | .actuatorReentry l _ | .transitTimeout l _ => s.laneOnly t l fun x y => { x with alloc := y.alloc }
     | .engineRunComplete l _ => t.alarmsKept s l ∧ s.tick.laneOnly t l fun x y => { x with alloc := y.alloc }
     | .followingErrorFault l _ | .feedbackFreeze l _ | .feLatchExpiry l _ | .outLimitTimeout l _ =>
       s.laneOnly t l fun x y => { x with loop := y.loop }
     | .filteredLineChange l _ _ _ _ _ _ _ _ | .sineCosineConversion l _ _ _ _ | .indexEvent l _ | .illegalTransitionFault l _ | .wireDisagree l _ _
     | .amplitudeLoss l _ | .ssiFrameComplete l _ _ _ | .ssiLoss l _ | .sensorSupplyShort l _ | .sensorSupplyOpen l _ | .sensorSupplyRetry l _
     | .lossClear l _ | .countLatchRead l _ => s.laneOnly t l fun x y => { x with fb := y.fb }
     | .txbRequest l _ _ _ | .txbCancel l _ _ _ | .canFrameComplete l _ _ _ | .canTxError l _ _ _ | .busOffRecovery l _ | .fifoPop l _
     | .transmitInhibit l | .transmitInhibitRelease l | .driveStatusTimeout l _ | .commandLate l _ _ =>
       s.laneOnly t l fun x y => { x with can := y.can }
     | .firSample l _ _ | .analogInputInvalid l _ | .analogInputValid l _ | .analogFillComplete l _ | .anOutTimeout l _ | .analogReadbackFault l _ =>
       s.laneOnly t l fun x y => { x with analog := y.analog }
     | .prpSupervision l | .linkChange l _ _ | .nodeForget l _ => s.laneOnly t l fun x y => { x with net := y.net }
     | .networkFrameReceived l _ _ _ =>
       s.laneOnly t l fun x y => { x with net := y.net, gnss := y.gnss, refs := y.refs, ctrl := { x.ctrl with tracker := y.ctrl.tracker } }
     | .openSession l _ => s.tick.laneOnly t l fun x y => { x with ses := y.ses }
     | .keepalive l _ | .subscribe l _ => t.alarmsKept s l ∧ s.laneOnly t l fun x y => { x with ses := y.ses }
     | .read l _ => t.alarmsKept s l ∧ s.tick.laneOnly t l fun x y => { x with ses := y.ses }
     | .close l _ | .sessionTimeout l _ =>
       s.laneOnly t l fun x y => { x with ses := y.ses, cellar := y.cellar }
     | .incrWrite l _ | .stepArm l | .slewComplete l | .timeSnapshotRead l => s.laneOnly t l fun x y => { x with clock := y.clock }
     | .timestampCapture l _ _ | .captureNow l _ | .captureRelease l _ | .captureValidRead l _ => t.alarmsKept s l ∧ s.laneOnly t l fun x y => { x with stamps := y.stamps }
     | .ptpMessageReceived l _ _ _ | .ptpSyncSend l _ _ | .ptpDelayRequest l _ _ | .foreignMasterAgeOut l _ =>
       s.laneOnly t l fun x y => { x with ptp := y.ptp, oneStep := y.oneStep }
     | .sourceQualified l _ _ => s.laneOnly t l fun x y => { x with src := y.src, clock := y.clock }
     | .holdoverEntry l | .freerunEntry l => s.laneOnly t l fun x y => { x with src := y.src }
     | .pulseArm l _ _ | .pulseEdge l _ | .pulseWidthEnd l _ => s.laneOnly t l fun x y => { x with pulses := y.pulses }
     | .canvasPhaseBoundary | .canvasRailsIdle | .canvasRailRetry | .canvasPowerFail => t = { s with canvas := t.canvas }
     | .crackLoopCheck _ | .canvasTemperatureClear | .canvasStart _ _ =>
       t = { s with canvas := t.canvas, laneA := s.laneA.codesOf t.laneA, laneB := s.laneB.codesOf t.laneB }
     | .canvasTick _ =>
       t = { s with canvas := t.canvas, laneA := ({ s.laneA with canvasAge := t.laneA.canvasAge } : LaneState).codesOf t.laneA,
                    laneB := ({ s.laneB with canvasAge := t.laneB.canvasAge } : LaneState).codesOf t.laneB }
     | .canvasRequest l _ => t = { s.onLane l fun x => { x with canvasOut := (t.lane l).canvasOut } with canvas := t.canvas }
     | .canvasStatusTimeout l | .shadowComparisonFault l => s.laneOnly t l fun x _ => x
     | .testPulse _ _ => t = { s with pulse := t.pulse }
     | .discreteOutputOverload _ | .discreteOutputRetry _ =>
       t = { s with overload := t.overload, laneA := s.laneA.codesOf t.laneA, laneB := s.laneB.codesOf t.laneB }
     | .baizeReady => t = { s.tick with baize := t.baize } ∨ t = s
     | .baizeBusFrameSeen _ _ | .transmitInhibitAssert _ | .homeOnlyPeriodEnd | .revertHoldoffEnd => t = { s with baize := t.baize }
     | _ => True)
end

