-- ==== Sys2Proof/Laws/State.lean ====
section
/-!
SUPPORT. Reading the state after an update: one lemma per field and update, true by unfolding.
-/

namespace Sys2Proof.Machine

/-! ## Lanes -/

@[simp] theorem Lane.other_other (l : Lane) : l.other.other = l := by cases l <;> rfl
@[simp] theorem Lane.other_ne (l : Lane) : l.other ≠ l := by cases l <;> decide
@[simp] theorem Lane.ne_other (l : Lane) : l ≠ l.other := by cases l <;> decide

/-- A lane is a given one or the other. -/
theorem Lane.eq_or_other (l k : Lane) : k = l ∨ k = l.other := by cases l <;> cases k <;> simp [Lane.other]

/-! ## The lane after an update of the state -/

@[simp] theorem State.lane_setLane (s : State) (l : Lane) (x : LaneState) : (s.setLane l x).lane l = x := by cases l <;> rfl
@[simp] theorem State.lane_setLane_other (s : State) (l : Lane) (x : LaneState) : (s.setLane l x).lane l.other = s.lane l.other := by
  cases l <;> rfl
@[simp] theorem State.lane_setLane_other' (s : State) (l : Lane) (x : LaneState) : (s.setLane l.other x).lane l = s.lane l := by
  cases l <;> rfl
@[simp] theorem State.setLane_lane (s : State) (l : Lane) : s.setLane l (s.lane l) = s := by cases l <;> rfl
@[simp] theorem State.setLane_setLane (s : State) (l : Lane) (x y : LaneState) : (s.setLane l x).setLane l y = s.setLane l y := by cases l <;> rfl
@[simp] theorem State.lane_onLane (s : State) (l : Lane) (f : LaneState → LaneState) : (s.onLane l f).lane l = f (s.lane l) := by
  cases l <;> rfl
@[simp] theorem State.lane_onLane_other (s : State) (l : Lane) (f : LaneState → LaneState) :
    (s.onLane l f).lane l.other = s.lane l.other := by cases l <;> rfl
@[simp] theorem State.lane_onLane_other' (s : State) (l : Lane) (f : LaneState → LaneState) :
    (s.onLane l.other f).lane l = s.lane l := by cases l <;> rfl
@[simp] theorem State.onLane_onLane (s : State) (l : Lane) (f g : LaneState → LaneState) :
    (s.onLane l f).onLane l g = s.onLane l fun x => g (f x) := by cases l <;> rfl
@[simp] theorem State.onLane_setLane (s : State) (l : Lane) (x : LaneState) (g : LaneState → LaneState) :
    (s.setLane l x).onLane l g = s.setLane l (g x) := by cases l <;> rfl
@[simp] theorem State.lane_setKey (s : State) (l m : Lane) (k : Option Key) : (s.setKey l k).lane m = s.lane m := by cases l <;> rfl
@[simp] theorem State.lane_tick (s : State) (l : Lane) : s.tick.lane l = s.lane l := by cases l <;> rfl
@[simp] theorem State.lane_onBaize (s : State) (f : BaizeState → BaizeState) (l : Lane) : (s.onBaize f).lane l = s.lane l := by cases l <;> rfl
@[simp] theorem State.key_setKey (s : State) (l : Lane) (k : Option Key) : (s.setKey l k).key l = k := by cases l <;> rfl
@[simp] theorem State.key_setLane (s : State) (l m : Lane) (x : LaneState) : (s.setLane l x).key m = s.key m := by cases l <;> rfl
@[simp] theorem State.key_onLane (s : State) (l m : Lane) (f : LaneState → LaneState) : (s.onLane l f).key m = s.key m := by cases l <;> rfl

/-! ## Every other field of the state -/

@[simp] theorem State.setLane_pending (s : State) (l : Lane) (x : LaneState) : (s.setLane l x).pending = s.pending := by cases l <;> rfl
@[simp] theorem State.onLane_pending (s : State) (l : Lane) (f : LaneState → LaneState) : (s.onLane l f).pending = s.pending := by cases l <;> rfl
@[simp] theorem State.setKey_pending (s : State) (l : Lane) (k : Option Key) : (s.setKey l k).pending = s.pending := by cases l <;> rfl
@[simp] theorem State.tick_pending (s : State) : s.tick.pending = s.pending := rfl
@[simp] theorem State.onBaize_pending (s : State) (f : BaizeState → BaizeState) : (s.onBaize f).pending = s.pending := rfl
@[simp] theorem State.setLane_fresh (s : State) (l : Lane) (x : LaneState) : (s.setLane l x).fresh = s.fresh := by cases l <;> rfl
@[simp] theorem State.onLane_fresh (s : State) (l : Lane) (f : LaneState → LaneState) : (s.onLane l f).fresh = s.fresh := by cases l <;> rfl
@[simp] theorem State.setKey_fresh (s : State) (l : Lane) (k : Option Key) : (s.setKey l k).fresh = s.fresh := by cases l <;> rfl
@[simp] theorem State.onBaize_fresh (s : State) (f : BaizeState → BaizeState) : (s.onBaize f).fresh = s.fresh := rfl
@[simp] theorem State.setLane_variant (s : State) (l : Lane) (x : LaneState) : (s.setLane l x).variant = s.variant := by cases l <;> rfl
@[simp] theorem State.onLane_variant (s : State) (l : Lane) (f : LaneState → LaneState) : (s.onLane l f).variant = s.variant := by cases l <;> rfl
@[simp] theorem State.setKey_variant (s : State) (l : Lane) (k : Option Key) : (s.setKey l k).variant = s.variant := by cases l <;> rfl
@[simp] theorem State.tick_variant (s : State) : s.tick.variant = s.variant := rfl
@[simp] theorem State.onBaize_variant (s : State) (f : BaizeState → BaizeState) : (s.onBaize f).variant = s.variant := rfl
@[simp] theorem State.setLane_serial (s : State) (l : Lane) (x : LaneState) : (s.setLane l x).serial = s.serial := by cases l <;> rfl
@[simp] theorem State.onLane_serial (s : State) (l : Lane) (f : LaneState → LaneState) : (s.onLane l f).serial = s.serial := by cases l <;> rfl
@[simp] theorem State.setKey_serial (s : State) (l : Lane) (k : Option Key) : (s.setKey l k).serial = s.serial := by cases l <;> rfl
@[simp] theorem State.tick_serial (s : State) : s.tick.serial = s.serial := rfl
@[simp] theorem State.onBaize_serial (s : State) (f : BaizeState → BaizeState) : (s.onBaize f).serial = s.serial := rfl
@[simp] theorem State.setLane_keyA (s : State) (l : Lane) (x : LaneState) : (s.setLane l x).keyA = s.keyA := by cases l <;> rfl
@[simp] theorem State.onLane_keyA (s : State) (l : Lane) (f : LaneState → LaneState) : (s.onLane l f).keyA = s.keyA := by cases l <;> rfl
@[simp] theorem State.tick_keyA (s : State) : s.tick.keyA = s.keyA := rfl
@[simp] theorem State.onBaize_keyA (s : State) (f : BaizeState → BaizeState) : (s.onBaize f).keyA = s.keyA := rfl
@[simp] theorem State.setLane_keyB (s : State) (l : Lane) (x : LaneState) : (s.setLane l x).keyB = s.keyB := by cases l <;> rfl
@[simp] theorem State.onLane_keyB (s : State) (l : Lane) (f : LaneState → LaneState) : (s.onLane l f).keyB = s.keyB := by cases l <;> rfl
@[simp] theorem State.tick_keyB (s : State) : s.tick.keyB = s.keyB := rfl
@[simp] theorem State.onBaize_keyB (s : State) (f : BaizeState → BaizeState) : (s.onBaize f).keyB = s.keyB := rfl
@[simp] theorem State.setLane_baize (s : State) (l : Lane) (x : LaneState) : (s.setLane l x).baize = s.baize := by cases l <;> rfl
@[simp] theorem State.onLane_baize (s : State) (l : Lane) (f : LaneState → LaneState) : (s.onLane l f).baize = s.baize := by cases l <;> rfl
@[simp] theorem State.setKey_baize (s : State) (l : Lane) (k : Option Key) : (s.setKey l k).baize = s.baize := by cases l <;> rfl
@[simp] theorem State.tick_baize (s : State) : s.tick.baize = s.baize := rfl
@[simp] theorem State.setLane_canvas (s : State) (l : Lane) (x : LaneState) : (s.setLane l x).canvas = s.canvas := by cases l <;> rfl
@[simp] theorem State.onLane_canvas (s : State) (l : Lane) (f : LaneState → LaneState) : (s.onLane l f).canvas = s.canvas := by cases l <;> rfl
@[simp] theorem State.setKey_canvas (s : State) (l : Lane) (k : Option Key) : (s.setKey l k).canvas = s.canvas := by cases l <;> rfl
@[simp] theorem State.tick_canvas (s : State) : s.tick.canvas = s.canvas := rfl
@[simp] theorem State.onBaize_canvas (s : State) (f : BaizeState → BaizeState) : (s.onBaize f).canvas = s.canvas := rfl
@[simp] theorem State.setLane_pulse (s : State) (l : Lane) (x : LaneState) : (s.setLane l x).pulse = s.pulse := by cases l <;> rfl
@[simp] theorem State.onLane_pulse (s : State) (l : Lane) (f : LaneState → LaneState) : (s.onLane l f).pulse = s.pulse := by cases l <;> rfl
@[simp] theorem State.setKey_pulse (s : State) (l : Lane) (k : Option Key) : (s.setKey l k).pulse = s.pulse := by cases l <;> rfl
@[simp] theorem State.tick_pulse (s : State) : s.tick.pulse = s.pulse := rfl
@[simp] theorem State.onBaize_pulse (s : State) (f : BaizeState → BaizeState) : (s.onBaize f).pulse = s.pulse := rfl
@[simp] theorem State.setLane_analogOut (s : State) (l : Lane) (x : LaneState) : (s.setLane l x).analogOut = s.analogOut := by cases l <;> rfl
@[simp] theorem State.onLane_analogOut (s : State) (l : Lane) (f : LaneState → LaneState) : (s.onLane l f).analogOut = s.analogOut := by cases l <;> rfl
@[simp] theorem State.setKey_analogOut (s : State) (l : Lane) (k : Option Key) : (s.setKey l k).analogOut = s.analogOut := by cases l <;> rfl
@[simp] theorem State.tick_analogOut (s : State) : s.tick.analogOut = s.analogOut := rfl
@[simp] theorem State.onBaize_analogOut (s : State) (f : BaizeState → BaizeState) : (s.onBaize f).analogOut = s.analogOut := rfl
@[simp] theorem State.setLane_discreteOut (s : State) (l : Lane) (x : LaneState) : (s.setLane l x).discreteOut = s.discreteOut := by cases l <;> rfl
@[simp] theorem State.onLane_discreteOut (s : State) (l : Lane) (f : LaneState → LaneState) : (s.onLane l f).discreteOut = s.discreteOut := by cases l <;> rfl
@[simp] theorem State.setKey_discreteOut (s : State) (l : Lane) (k : Option Key) : (s.setKey l k).discreteOut = s.discreteOut := by cases l <;> rfl
@[simp] theorem State.tick_discreteOut (s : State) : s.tick.discreteOut = s.discreteOut := rfl
@[simp] theorem State.onBaize_discreteOut (s : State) (f : BaizeState → BaizeState) : (s.onBaize f).discreteOut = s.discreteOut := rfl
@[simp] theorem State.setLane_overload (s : State) (l : Lane) (x : LaneState) : (s.setLane l x).overload = s.overload := by cases l <;> rfl
@[simp] theorem State.onLane_overload (s : State) (l : Lane) (f : LaneState → LaneState) : (s.onLane l f).overload = s.overload := by cases l <;> rfl
@[simp] theorem State.setKey_overload (s : State) (l : Lane) (k : Option Key) : (s.setKey l k).overload = s.overload := by cases l <;> rfl
@[simp] theorem State.tick_overload (s : State) : s.tick.overload = s.overload := rfl
@[simp] theorem State.onBaize_overload (s : State) (f : BaizeState → BaizeState) : (s.onBaize f).overload = s.overload := rfl
@[simp] theorem State.onBaize_baize (s : State) (f : BaizeState → BaizeState) : (s.onBaize f).baize = f s.baize := rfl

/-! ## Codes change a lane's active codes and its Larder alone -/

theorem LaneState.alarm_eq (x : LaneState) (op : AlarmOp) (d : Bytes) :
    x.alarm op d = { x with alarms := (x.alarm op d).alarms, larder := (x.alarm op d).larder } := by
  simp only [LaneState.alarm]
  split
  · split <;> rfl
  · rfl

theorem LaneState.codes_eq (x : LaneState) (ops : List AlarmOp) :
    x.codes ops = { x with alarms := (x.codes ops).alarms, larder := (x.codes ops).larder } := by
  induction ops generalizing x with
  | nil => rfl
  | cons op ops ih =>
    have h := ih (x.alarm op [])
    rw [LaneState.codes, List.foldl_cons, ← LaneState.codes, h, LaneState.alarm_eq]

@[simp] theorem LaneState.codes_nil (x : LaneState) : x.codes [] = x := rfl

@[simp] theorem LaneState.alarm_frame (x : LaneState) (op : AlarmOp) (d : Bytes) : (x.alarm op d).frame = x.frame := by rw [x.alarm_eq]
@[simp] theorem LaneState.alarm_life (x : LaneState) (op : AlarmOp) (d : Bytes) : (x.alarm op d).life = x.life := by rw [x.alarm_eq]
@[simp] theorem LaneState.alarm_power (x : LaneState) (op : AlarmOp) (d : Bytes) : (x.alarm op d).power = x.power := by rw [x.alarm_eq]
@[simp] theorem LaneState.alarm_cal (x : LaneState) (op : AlarmOp) (d : Bytes) : (x.alarm op d).cal = x.cal := by rw [x.alarm_eq]
@[simp] theorem LaneState.alarm_attic (x : LaneState) (op : AlarmOp) (d : Bytes) : (x.alarm op d).attic = x.attic := by rw [x.alarm_eq]
@[simp] theorem LaneState.alarm_cellar (x : LaneState) (op : AlarmOp) (d : Bytes) : (x.alarm op d).cellar = x.cellar := by rw [x.alarm_eq]
@[simp] theorem LaneState.alarm_maker (x : LaneState) (op : AlarmOp) (d : Bytes) : (x.alarm op d).maker = x.maker := by rw [x.alarm_eq]
@[simp] theorem LaneState.alarm_ledger (x : LaneState) (op : AlarmOp) (d : Bytes) : (x.alarm op d).ledger = x.ledger := by rw [x.alarm_eq]
@[simp] theorem LaneState.alarm_image (x : LaneState) (op : AlarmOp) (d : Bytes) : (x.alarm op d).image = x.image := by rw [x.alarm_eq]
@[simp] theorem LaneState.alarm_eligible (x : LaneState) (op : AlarmOp) (d : Bytes) : (x.alarm op d).eligible = x.eligible := by rw [x.alarm_eq]
@[simp] theorem LaneState.alarm_peer (x : LaneState) (op : AlarmOp) (d : Bytes) : (x.alarm op d).peer = x.peer := by rw [x.alarm_eq]
@[simp] theorem LaneState.alarm_link (x : LaneState) (op : AlarmOp) (d : Bytes) : (x.alarm op d).link = x.link := by rw [x.alarm_eq]
@[simp] theorem LaneState.alarm_muslin (x : LaneState) (op : AlarmOp) (d : Bytes) : (x.alarm op d).muslin = x.muslin := by rw [x.alarm_eq]
@[simp] theorem LaneState.alarm_partner (x : LaneState) (op : AlarmOp) (d : Bytes) : (x.alarm op d).partner = x.partner := by rw [x.alarm_eq]
@[simp] theorem LaneState.alarm_health (x : LaneState) (op : AlarmOp) (d : Bytes) : (x.alarm op d).health = x.health := by rw [x.alarm_eq]
@[simp] theorem LaneState.alarm_clock (x : LaneState) (op : AlarmOp) (d : Bytes) : (x.alarm op d).clock = x.clock := by rw [x.alarm_eq]
@[simp] theorem LaneState.alarm_stamps (x : LaneState) (op : AlarmOp) (d : Bytes) : (x.alarm op d).stamps = x.stamps := by rw [x.alarm_eq]
@[simp] theorem LaneState.alarm_oneStep (x : LaneState) (op : AlarmOp) (d : Bytes) : (x.alarm op d).oneStep = x.oneStep := by rw [x.alarm_eq]
@[simp] theorem LaneState.alarm_ptp (x : LaneState) (op : AlarmOp) (d : Bytes) : (x.alarm op d).ptp = x.ptp := by rw [x.alarm_eq]
@[simp] theorem LaneState.alarm_src (x : LaneState) (op : AlarmOp) (d : Bytes) : (x.alarm op d).src = x.src := by rw [x.alarm_eq]
@[simp] theorem LaneState.alarm_pulses (x : LaneState) (op : AlarmOp) (d : Bytes) : (x.alarm op d).pulses = x.pulses := by rw [x.alarm_eq]
@[simp] theorem LaneState.alarm_net (x : LaneState) (op : AlarmOp) (d : Bytes) : (x.alarm op d).net = x.net := by rw [x.alarm_eq]
@[simp] theorem LaneState.alarm_ses (x : LaneState) (op : AlarmOp) (d : Bytes) : (x.alarm op d).ses = x.ses := by rw [x.alarm_eq]
@[simp] theorem LaneState.alarm_gnss (x : LaneState) (op : AlarmOp) (d : Bytes) : (x.alarm op d).gnss = x.gnss := by rw [x.alarm_eq]
@[simp] theorem LaneState.alarm_refs (x : LaneState) (op : AlarmOp) (d : Bytes) : (x.alarm op d).refs = x.refs := by rw [x.alarm_eq]
@[simp] theorem LaneState.alarm_obs (x : LaneState) (op : AlarmOp) (d : Bytes) : (x.alarm op d).obs = x.obs := by rw [x.alarm_eq]
@[simp] theorem LaneState.alarm_ctrl (x : LaneState) (op : AlarmOp) (d : Bytes) : (x.alarm op d).ctrl = x.ctrl := by rw [x.alarm_eq]
@[simp] theorem LaneState.alarm_alloc (x : LaneState) (op : AlarmOp) (d : Bytes) : (x.alarm op d).alloc = x.alloc := by rw [x.alarm_eq]
@[simp] theorem LaneState.alarm_loop (x : LaneState) (op : AlarmOp) (d : Bytes) : (x.alarm op d).loop = x.loop := by rw [x.alarm_eq]
@[simp] theorem LaneState.alarm_fb (x : LaneState) (op : AlarmOp) (d : Bytes) : (x.alarm op d).fb = x.fb := by rw [x.alarm_eq]
@[simp] theorem LaneState.alarm_can (x : LaneState) (op : AlarmOp) (d : Bytes) : (x.alarm op d).can = x.can := by rw [x.alarm_eq]
@[simp] theorem LaneState.alarm_voter (x : LaneState) (op : AlarmOp) (d : Bytes) : (x.alarm op d).voter = x.voter := by rw [x.alarm_eq]
@[simp] theorem LaneState.alarm_analog (x : LaneState) (op : AlarmOp) (d : Bytes) : (x.alarm op d).analog = x.analog := by rw [x.alarm_eq]
@[simp] theorem LaneState.alarm_hbOut (x : LaneState) (op : AlarmOp) (d : Bytes) : (x.alarm op d).hbOut = x.hbOut := by rw [x.alarm_eq]
@[simp] theorem LaneState.alarm_copyOut (x : LaneState) (op : AlarmOp) (d : Bytes) : (x.alarm op d).copyOut = x.copyOut := by rw [x.alarm_eq]
@[simp] theorem LaneState.alarm_copyNew (x : LaneState) (op : AlarmOp) (d : Bytes) : (x.alarm op d).copyNew = x.copyNew := by rw [x.alarm_eq]
@[simp] theorem LaneState.alarm_copyOld (x : LaneState) (op : AlarmOp) (d : Bytes) : (x.alarm op d).copyOld = x.copyOld := by rw [x.alarm_eq]
@[simp] theorem LaneState.alarm_canvasAge (x : LaneState) (op : AlarmOp) (d : Bytes) : (x.alarm op d).canvasAge = x.canvasAge := by rw [x.alarm_eq]
@[simp] theorem LaneState.alarm_canvasSent (x : LaneState) (op : AlarmOp) (d : Bytes) : (x.alarm op d).canvasSent = x.canvasSent := by rw [x.alarm_eq]
@[simp] theorem LaneState.alarm_canvasOut (x : LaneState) (op : AlarmOp) (d : Bytes) : (x.alarm op d).canvasOut = x.canvasOut := by rw [x.alarm_eq]
@[simp] theorem LaneState.codes_frame (x : LaneState) (ops : List AlarmOp) : (x.codes ops).frame = x.frame := by rw [x.codes_eq]
@[simp] theorem LaneState.codes_life (x : LaneState) (ops : List AlarmOp) : (x.codes ops).life = x.life := by rw [x.codes_eq]
@[simp] theorem LaneState.codes_power (x : LaneState) (ops : List AlarmOp) : (x.codes ops).power = x.power := by rw [x.codes_eq]
@[simp] theorem LaneState.codes_cal (x : LaneState) (ops : List AlarmOp) : (x.codes ops).cal = x.cal := by rw [x.codes_eq]
@[simp] theorem LaneState.codes_attic (x : LaneState) (ops : List AlarmOp) : (x.codes ops).attic = x.attic := by rw [x.codes_eq]
@[simp] theorem LaneState.codes_cellar (x : LaneState) (ops : List AlarmOp) : (x.codes ops).cellar = x.cellar := by rw [x.codes_eq]
@[simp] theorem LaneState.codes_maker (x : LaneState) (ops : List AlarmOp) : (x.codes ops).maker = x.maker := by rw [x.codes_eq]
@[simp] theorem LaneState.codes_ledger (x : LaneState) (ops : List AlarmOp) : (x.codes ops).ledger = x.ledger := by rw [x.codes_eq]
@[simp] theorem LaneState.codes_image (x : LaneState) (ops : List AlarmOp) : (x.codes ops).image = x.image := by rw [x.codes_eq]
@[simp] theorem LaneState.codes_eligible (x : LaneState) (ops : List AlarmOp) : (x.codes ops).eligible = x.eligible := by rw [x.codes_eq]
@[simp] theorem LaneState.codes_peer (x : LaneState) (ops : List AlarmOp) : (x.codes ops).peer = x.peer := by rw [x.codes_eq]
@[simp] theorem LaneState.codes_link (x : LaneState) (ops : List AlarmOp) : (x.codes ops).link = x.link := by rw [x.codes_eq]
@[simp] theorem LaneState.codes_muslin (x : LaneState) (ops : List AlarmOp) : (x.codes ops).muslin = x.muslin := by rw [x.codes_eq]
@[simp] theorem LaneState.codes_partner (x : LaneState) (ops : List AlarmOp) : (x.codes ops).partner = x.partner := by rw [x.codes_eq]
@[simp] theorem LaneState.codes_health (x : LaneState) (ops : List AlarmOp) : (x.codes ops).health = x.health := by rw [x.codes_eq]
@[simp] theorem LaneState.codes_clock (x : LaneState) (ops : List AlarmOp) : (x.codes ops).clock = x.clock := by rw [x.codes_eq]
@[simp] theorem LaneState.codes_stamps (x : LaneState) (ops : List AlarmOp) : (x.codes ops).stamps = x.stamps := by rw [x.codes_eq]
@[simp] theorem LaneState.codes_oneStep (x : LaneState) (ops : List AlarmOp) : (x.codes ops).oneStep = x.oneStep := by rw [x.codes_eq]
@[simp] theorem LaneState.codes_ptp (x : LaneState) (ops : List AlarmOp) : (x.codes ops).ptp = x.ptp := by rw [x.codes_eq]
@[simp] theorem LaneState.codes_src (x : LaneState) (ops : List AlarmOp) : (x.codes ops).src = x.src := by rw [x.codes_eq]
@[simp] theorem LaneState.codes_pulses (x : LaneState) (ops : List AlarmOp) : (x.codes ops).pulses = x.pulses := by rw [x.codes_eq]
@[simp] theorem LaneState.codes_net (x : LaneState) (ops : List AlarmOp) : (x.codes ops).net = x.net := by rw [x.codes_eq]
@[simp] theorem LaneState.codes_ses (x : LaneState) (ops : List AlarmOp) : (x.codes ops).ses = x.ses := by rw [x.codes_eq]
@[simp] theorem LaneState.codes_gnss (x : LaneState) (ops : List AlarmOp) : (x.codes ops).gnss = x.gnss := by rw [x.codes_eq]
@[simp] theorem LaneState.codes_refs (x : LaneState) (ops : List AlarmOp) : (x.codes ops).refs = x.refs := by rw [x.codes_eq]
@[simp] theorem LaneState.codes_obs (x : LaneState) (ops : List AlarmOp) : (x.codes ops).obs = x.obs := by rw [x.codes_eq]
@[simp] theorem LaneState.codes_ctrl (x : LaneState) (ops : List AlarmOp) : (x.codes ops).ctrl = x.ctrl := by rw [x.codes_eq]
@[simp] theorem LaneState.codes_alloc (x : LaneState) (ops : List AlarmOp) : (x.codes ops).alloc = x.alloc := by rw [x.codes_eq]
@[simp] theorem LaneState.codes_loop (x : LaneState) (ops : List AlarmOp) : (x.codes ops).loop = x.loop := by rw [x.codes_eq]
@[simp] theorem LaneState.codes_fb (x : LaneState) (ops : List AlarmOp) : (x.codes ops).fb = x.fb := by rw [x.codes_eq]
@[simp] theorem LaneState.codes_can (x : LaneState) (ops : List AlarmOp) : (x.codes ops).can = x.can := by rw [x.codes_eq]
@[simp] theorem LaneState.codes_voter (x : LaneState) (ops : List AlarmOp) : (x.codes ops).voter = x.voter := by rw [x.codes_eq]
@[simp] theorem LaneState.codes_analog (x : LaneState) (ops : List AlarmOp) : (x.codes ops).analog = x.analog := by rw [x.codes_eq]
@[simp] theorem LaneState.codes_hbOut (x : LaneState) (ops : List AlarmOp) : (x.codes ops).hbOut = x.hbOut := by rw [x.codes_eq]
@[simp] theorem LaneState.codes_copyOut (x : LaneState) (ops : List AlarmOp) : (x.codes ops).copyOut = x.copyOut := by rw [x.codes_eq]
@[simp] theorem LaneState.codes_copyNew (x : LaneState) (ops : List AlarmOp) : (x.codes ops).copyNew = x.copyNew := by rw [x.codes_eq]
@[simp] theorem LaneState.codes_copyOld (x : LaneState) (ops : List AlarmOp) : (x.codes ops).copyOld = x.copyOld := by rw [x.codes_eq]
@[simp] theorem LaneState.codes_canvasAge (x : LaneState) (ops : List AlarmOp) : (x.codes ops).canvasAge = x.canvasAge := by rw [x.codes_eq]
@[simp] theorem LaneState.codes_canvasSent (x : LaneState) (ops : List AlarmOp) : (x.codes ops).canvasSent = x.canvasSent := by rw [x.codes_eq]
@[simp] theorem LaneState.codes_canvasOut (x : LaneState) (ops : List AlarmOp) : (x.codes ops).canvasOut = x.canvasOut := by rw [x.codes_eq]
@[simp] theorem LaneState.raise_frame (x : LaneState) (c : Code) (item cause : Nat) : (x.raise c item cause).frame = x.frame := LaneState.alarm_frame _ _ _
@[simp] theorem LaneState.clear_frame (x : LaneState) (c : Code) (item : Nat) : (x.clear c item).frame = x.frame := LaneState.alarm_frame _ _ _
@[simp] theorem LaneState.raise_life (x : LaneState) (c : Code) (item cause : Nat) : (x.raise c item cause).life = x.life := LaneState.alarm_life _ _ _
@[simp] theorem LaneState.clear_life (x : LaneState) (c : Code) (item : Nat) : (x.clear c item).life = x.life := LaneState.alarm_life _ _ _
@[simp] theorem LaneState.raise_power (x : LaneState) (c : Code) (item cause : Nat) : (x.raise c item cause).power = x.power := LaneState.alarm_power _ _ _
@[simp] theorem LaneState.clear_power (x : LaneState) (c : Code) (item : Nat) : (x.clear c item).power = x.power := LaneState.alarm_power _ _ _
@[simp] theorem LaneState.raise_cal (x : LaneState) (c : Code) (item cause : Nat) : (x.raise c item cause).cal = x.cal := LaneState.alarm_cal _ _ _
@[simp] theorem LaneState.clear_cal (x : LaneState) (c : Code) (item : Nat) : (x.clear c item).cal = x.cal := LaneState.alarm_cal _ _ _
@[simp] theorem LaneState.raise_attic (x : LaneState) (c : Code) (item cause : Nat) : (x.raise c item cause).attic = x.attic := LaneState.alarm_attic _ _ _
@[simp] theorem LaneState.clear_attic (x : LaneState) (c : Code) (item : Nat) : (x.clear c item).attic = x.attic := LaneState.alarm_attic _ _ _
@[simp] theorem LaneState.raise_cellar (x : LaneState) (c : Code) (item cause : Nat) : (x.raise c item cause).cellar = x.cellar := LaneState.alarm_cellar _ _ _
@[simp] theorem LaneState.clear_cellar (x : LaneState) (c : Code) (item : Nat) : (x.clear c item).cellar = x.cellar := LaneState.alarm_cellar _ _ _
@[simp] theorem LaneState.raise_maker (x : LaneState) (c : Code) (item cause : Nat) : (x.raise c item cause).maker = x.maker := LaneState.alarm_maker _ _ _
@[simp] theorem LaneState.clear_maker (x : LaneState) (c : Code) (item : Nat) : (x.clear c item).maker = x.maker := LaneState.alarm_maker _ _ _
@[simp] theorem LaneState.raise_ledger (x : LaneState) (c : Code) (item cause : Nat) : (x.raise c item cause).ledger = x.ledger := LaneState.alarm_ledger _ _ _
@[simp] theorem LaneState.clear_ledger (x : LaneState) (c : Code) (item : Nat) : (x.clear c item).ledger = x.ledger := LaneState.alarm_ledger _ _ _
@[simp] theorem LaneState.raise_image (x : LaneState) (c : Code) (item cause : Nat) : (x.raise c item cause).image = x.image := LaneState.alarm_image _ _ _
@[simp] theorem LaneState.clear_image (x : LaneState) (c : Code) (item : Nat) : (x.clear c item).image = x.image := LaneState.alarm_image _ _ _
@[simp] theorem LaneState.raise_eligible (x : LaneState) (c : Code) (item cause : Nat) : (x.raise c item cause).eligible = x.eligible := LaneState.alarm_eligible _ _ _
@[simp] theorem LaneState.clear_eligible (x : LaneState) (c : Code) (item : Nat) : (x.clear c item).eligible = x.eligible := LaneState.alarm_eligible _ _ _
@[simp] theorem LaneState.raise_peer (x : LaneState) (c : Code) (item cause : Nat) : (x.raise c item cause).peer = x.peer := LaneState.alarm_peer _ _ _
@[simp] theorem LaneState.clear_peer (x : LaneState) (c : Code) (item : Nat) : (x.clear c item).peer = x.peer := LaneState.alarm_peer _ _ _
@[simp] theorem LaneState.raise_link (x : LaneState) (c : Code) (item cause : Nat) : (x.raise c item cause).link = x.link := LaneState.alarm_link _ _ _
@[simp] theorem LaneState.clear_link (x : LaneState) (c : Code) (item : Nat) : (x.clear c item).link = x.link := LaneState.alarm_link _ _ _
@[simp] theorem LaneState.raise_muslin (x : LaneState) (c : Code) (item cause : Nat) : (x.raise c item cause).muslin = x.muslin := LaneState.alarm_muslin _ _ _
@[simp] theorem LaneState.clear_muslin (x : LaneState) (c : Code) (item : Nat) : (x.clear c item).muslin = x.muslin := LaneState.alarm_muslin _ _ _
@[simp] theorem LaneState.raise_partner (x : LaneState) (c : Code) (item cause : Nat) : (x.raise c item cause).partner = x.partner := LaneState.alarm_partner _ _ _
@[simp] theorem LaneState.clear_partner (x : LaneState) (c : Code) (item : Nat) : (x.clear c item).partner = x.partner := LaneState.alarm_partner _ _ _
@[simp] theorem LaneState.raise_health (x : LaneState) (c : Code) (item cause : Nat) : (x.raise c item cause).health = x.health := LaneState.alarm_health _ _ _
@[simp] theorem LaneState.clear_health (x : LaneState) (c : Code) (item : Nat) : (x.clear c item).health = x.health := LaneState.alarm_health _ _ _
@[simp] theorem LaneState.raise_clock (x : LaneState) (c : Code) (item cause : Nat) : (x.raise c item cause).clock = x.clock := LaneState.alarm_clock _ _ _
@[simp] theorem LaneState.clear_clock (x : LaneState) (c : Code) (item : Nat) : (x.clear c item).clock = x.clock := LaneState.alarm_clock _ _ _
@[simp] theorem LaneState.raise_stamps (x : LaneState) (c : Code) (item cause : Nat) : (x.raise c item cause).stamps = x.stamps := LaneState.alarm_stamps _ _ _
@[simp] theorem LaneState.clear_stamps (x : LaneState) (c : Code) (item : Nat) : (x.clear c item).stamps = x.stamps := LaneState.alarm_stamps _ _ _
@[simp] theorem LaneState.raise_oneStep (x : LaneState) (c : Code) (item cause : Nat) : (x.raise c item cause).oneStep = x.oneStep := LaneState.alarm_oneStep _ _ _
@[simp] theorem LaneState.clear_oneStep (x : LaneState) (c : Code) (item : Nat) : (x.clear c item).oneStep = x.oneStep := LaneState.alarm_oneStep _ _ _
@[simp] theorem LaneState.raise_ptp (x : LaneState) (c : Code) (item cause : Nat) : (x.raise c item cause).ptp = x.ptp := LaneState.alarm_ptp _ _ _
@[simp] theorem LaneState.clear_ptp (x : LaneState) (c : Code) (item : Nat) : (x.clear c item).ptp = x.ptp := LaneState.alarm_ptp _ _ _
@[simp] theorem LaneState.raise_src (x : LaneState) (c : Code) (item cause : Nat) : (x.raise c item cause).src = x.src := LaneState.alarm_src _ _ _
@[simp] theorem LaneState.clear_src (x : LaneState) (c : Code) (item : Nat) : (x.clear c item).src = x.src := LaneState.alarm_src _ _ _
@[simp] theorem LaneState.raise_pulses (x : LaneState) (c : Code) (item cause : Nat) : (x.raise c item cause).pulses = x.pulses := LaneState.alarm_pulses _ _ _
@[simp] theorem LaneState.clear_pulses (x : LaneState) (c : Code) (item : Nat) : (x.clear c item).pulses = x.pulses := LaneState.alarm_pulses _ _ _
@[simp] theorem LaneState.raise_net (x : LaneState) (c : Code) (item cause : Nat) : (x.raise c item cause).net = x.net := LaneState.alarm_net _ _ _
@[simp] theorem LaneState.clear_net (x : LaneState) (c : Code) (item : Nat) : (x.clear c item).net = x.net := LaneState.alarm_net _ _ _
@[simp] theorem LaneState.raise_ses (x : LaneState) (c : Code) (item cause : Nat) : (x.raise c item cause).ses = x.ses := LaneState.alarm_ses _ _ _
@[simp] theorem LaneState.clear_ses (x : LaneState) (c : Code) (item : Nat) : (x.clear c item).ses = x.ses := LaneState.alarm_ses _ _ _
@[simp] theorem LaneState.raise_gnss (x : LaneState) (c : Code) (item cause : Nat) : (x.raise c item cause).gnss = x.gnss := LaneState.alarm_gnss _ _ _
@[simp] theorem LaneState.clear_gnss (x : LaneState) (c : Code) (item : Nat) : (x.clear c item).gnss = x.gnss := LaneState.alarm_gnss _ _ _
@[simp] theorem LaneState.raise_refs (x : LaneState) (c : Code) (item cause : Nat) : (x.raise c item cause).refs = x.refs := LaneState.alarm_refs _ _ _
@[simp] theorem LaneState.clear_refs (x : LaneState) (c : Code) (item : Nat) : (x.clear c item).refs = x.refs := LaneState.alarm_refs _ _ _
@[simp] theorem LaneState.raise_obs (x : LaneState) (c : Code) (item cause : Nat) : (x.raise c item cause).obs = x.obs := LaneState.alarm_obs _ _ _
@[simp] theorem LaneState.clear_obs (x : LaneState) (c : Code) (item : Nat) : (x.clear c item).obs = x.obs := LaneState.alarm_obs _ _ _
@[simp] theorem LaneState.raise_ctrl (x : LaneState) (c : Code) (item cause : Nat) : (x.raise c item cause).ctrl = x.ctrl := LaneState.alarm_ctrl _ _ _
@[simp] theorem LaneState.clear_ctrl (x : LaneState) (c : Code) (item : Nat) : (x.clear c item).ctrl = x.ctrl := LaneState.alarm_ctrl _ _ _
@[simp] theorem LaneState.raise_alloc (x : LaneState) (c : Code) (item cause : Nat) : (x.raise c item cause).alloc = x.alloc := LaneState.alarm_alloc _ _ _
@[simp] theorem LaneState.clear_alloc (x : LaneState) (c : Code) (item : Nat) : (x.clear c item).alloc = x.alloc := LaneState.alarm_alloc _ _ _
@[simp] theorem LaneState.raise_loop (x : LaneState) (c : Code) (item cause : Nat) : (x.raise c item cause).loop = x.loop := LaneState.alarm_loop _ _ _
@[simp] theorem LaneState.clear_loop (x : LaneState) (c : Code) (item : Nat) : (x.clear c item).loop = x.loop := LaneState.alarm_loop _ _ _
@[simp] theorem LaneState.raise_fb (x : LaneState) (c : Code) (item cause : Nat) : (x.raise c item cause).fb = x.fb := LaneState.alarm_fb _ _ _
@[simp] theorem LaneState.clear_fb (x : LaneState) (c : Code) (item : Nat) : (x.clear c item).fb = x.fb := LaneState.alarm_fb _ _ _
@[simp] theorem LaneState.raise_can (x : LaneState) (c : Code) (item cause : Nat) : (x.raise c item cause).can = x.can := LaneState.alarm_can _ _ _
@[simp] theorem LaneState.clear_can (x : LaneState) (c : Code) (item : Nat) : (x.clear c item).can = x.can := LaneState.alarm_can _ _ _
@[simp] theorem LaneState.raise_voter (x : LaneState) (c : Code) (item cause : Nat) : (x.raise c item cause).voter = x.voter := LaneState.alarm_voter _ _ _
@[simp] theorem LaneState.clear_voter (x : LaneState) (c : Code) (item : Nat) : (x.clear c item).voter = x.voter := LaneState.alarm_voter _ _ _
@[simp] theorem LaneState.raise_analog (x : LaneState) (c : Code) (item cause : Nat) : (x.raise c item cause).analog = x.analog := LaneState.alarm_analog _ _ _
@[simp] theorem LaneState.clear_analog (x : LaneState) (c : Code) (item : Nat) : (x.clear c item).analog = x.analog := LaneState.alarm_analog _ _ _
@[simp] theorem LaneState.raise_hbOut (x : LaneState) (c : Code) (item cause : Nat) : (x.raise c item cause).hbOut = x.hbOut := LaneState.alarm_hbOut _ _ _
@[simp] theorem LaneState.clear_hbOut (x : LaneState) (c : Code) (item : Nat) : (x.clear c item).hbOut = x.hbOut := LaneState.alarm_hbOut _ _ _
@[simp] theorem LaneState.raise_copyOut (x : LaneState) (c : Code) (item cause : Nat) : (x.raise c item cause).copyOut = x.copyOut := LaneState.alarm_copyOut _ _ _
@[simp] theorem LaneState.clear_copyOut (x : LaneState) (c : Code) (item : Nat) : (x.clear c item).copyOut = x.copyOut := LaneState.alarm_copyOut _ _ _
@[simp] theorem LaneState.raise_copyNew (x : LaneState) (c : Code) (item cause : Nat) : (x.raise c item cause).copyNew = x.copyNew := LaneState.alarm_copyNew _ _ _
@[simp] theorem LaneState.clear_copyNew (x : LaneState) (c : Code) (item : Nat) : (x.clear c item).copyNew = x.copyNew := LaneState.alarm_copyNew _ _ _
@[simp] theorem LaneState.raise_copyOld (x : LaneState) (c : Code) (item cause : Nat) : (x.raise c item cause).copyOld = x.copyOld := LaneState.alarm_copyOld _ _ _
@[simp] theorem LaneState.clear_copyOld (x : LaneState) (c : Code) (item : Nat) : (x.clear c item).copyOld = x.copyOld := LaneState.alarm_copyOld _ _ _
@[simp] theorem LaneState.raise_canvasAge (x : LaneState) (c : Code) (item cause : Nat) : (x.raise c item cause).canvasAge = x.canvasAge := LaneState.alarm_canvasAge _ _ _
@[simp] theorem LaneState.clear_canvasAge (x : LaneState) (c : Code) (item : Nat) : (x.clear c item).canvasAge = x.canvasAge := LaneState.alarm_canvasAge _ _ _
@[simp] theorem LaneState.raise_canvasSent (x : LaneState) (c : Code) (item cause : Nat) : (x.raise c item cause).canvasSent = x.canvasSent := LaneState.alarm_canvasSent _ _ _
@[simp] theorem LaneState.clear_canvasSent (x : LaneState) (c : Code) (item : Nat) : (x.clear c item).canvasSent = x.canvasSent := LaneState.alarm_canvasSent _ _ _
@[simp] theorem LaneState.raise_canvasOut (x : LaneState) (c : Code) (item cause : Nat) : (x.raise c item cause).canvasOut = x.canvasOut := LaneState.alarm_canvasOut _ _ _
@[simp] theorem LaneState.clear_canvasOut (x : LaneState) (c : Code) (item : Nat) : (x.clear c item).canvasOut = x.canvasOut := LaneState.alarm_canvasOut _ _ _

/-! ## What reads only some fields of a lane -/

@[simp] theorem LaneState.codes_img' (x : LaneState) (ops : List AlarmOp) : (x.codes ops).img = x.img := by rw [x.codes_eq]; rfl
@[simp] theorem LaneState.alarm_img' (x : LaneState) (op : AlarmOp) (d : Bytes) : (x.alarm op d).img = x.img := by rw [x.alarm_eq]; rfl
@[simp] theorem LaneState.raise_img' (x : LaneState) (c : Code) (i k : Nat) : (x.raise c i k).img = x.img := LaneState.alarm_img' _ _ _
@[simp] theorem LaneState.clear_img' (x : LaneState) (c : Code) (i : Nat) : (x.clear c i).img = x.img := LaneState.alarm_img' _ _ _
@[simp] theorem LaneState.codes_active' (x : LaneState) (ops : List AlarmOp) : (x.codes ops).active = x.active := by rw [x.codes_eq]; rfl
@[simp] theorem LaneState.alarm_active' (x : LaneState) (op : AlarmOp) (d : Bytes) : (x.alarm op d).active = x.active := by rw [x.alarm_eq]; rfl
@[simp] theorem LaneState.raise_active' (x : LaneState) (c : Code) (i k : Nat) : (x.raise c i k).active = x.active := LaneState.alarm_active' _ _ _
@[simp] theorem LaneState.clear_active' (x : LaneState) (c : Code) (i : Nat) : (x.clear c i).active = x.active := LaneState.alarm_active' _ _ _
@[simp] theorem LaneState.codes_runs' (x : LaneState) (ops : List AlarmOp) : (x.codes ops).runs = x.runs := by rw [x.codes_eq]; rfl
@[simp] theorem LaneState.alarm_runs' (x : LaneState) (op : AlarmOp) (d : Bytes) : (x.alarm op d).runs = x.runs := by rw [x.alarm_eq]; rfl
@[simp] theorem LaneState.raise_runs' (x : LaneState) (c : Code) (i k : Nat) : (x.raise c i k).runs = x.runs := LaneState.alarm_runs' _ _ _
@[simp] theorem LaneState.clear_runs' (x : LaneState) (c : Code) (i : Nat) : (x.clear c i).runs = x.runs := LaneState.alarm_runs' _ _ _
@[simp] theorem LaneState.codes_role' (x : LaneState) (ops : List AlarmOp) : (x.codes ops).role = x.role := by rw [x.codes_eq]; rfl
@[simp] theorem LaneState.alarm_role' (x : LaneState) (op : AlarmOp) (d : Bytes) : (x.alarm op d).role = x.role := by rw [x.alarm_eq]; rfl
@[simp] theorem LaneState.raise_role' (x : LaneState) (c : Code) (i k : Nat) : (x.raise c i k).role = x.role := LaneState.alarm_role' _ _ _
@[simp] theorem LaneState.clear_role' (x : LaneState) (c : Code) (i : Nat) : (x.clear c i).role = x.role := LaneState.alarm_role' _ _ _
@[simp] theorem LaneState.codes_nowNs' (x : LaneState) (ops : List AlarmOp) : (x.codes ops).nowNs = x.nowNs := by rw [x.codes_eq]; rfl
@[simp] theorem LaneState.alarm_nowNs' (x : LaneState) (op : AlarmOp) (d : Bytes) : (x.alarm op d).nowNs = x.nowNs := by rw [x.alarm_eq]; rfl
@[simp] theorem LaneState.raise_nowNs' (x : LaneState) (c : Code) (i k : Nat) : (x.raise c i k).nowNs = x.nowNs := LaneState.alarm_nowNs' _ _ _
@[simp] theorem LaneState.clear_nowNs' (x : LaneState) (c : Code) (i : Nat) : (x.clear c i).nowNs = x.nowNs := LaneState.alarm_nowNs' _ _ _
@[simp] theorem LaneState.codes_homeLane' (x : LaneState) (ops : List AlarmOp) : (x.codes ops).homeLane = x.homeLane := by rw [x.codes_eq]; rfl
@[simp] theorem LaneState.alarm_homeLane' (x : LaneState) (op : AlarmOp) (d : Bytes) : (x.alarm op d).homeLane = x.homeLane := by rw [x.alarm_eq]; rfl
@[simp] theorem LaneState.raise_homeLane' (x : LaneState) (c : Code) (i k : Nat) : (x.raise c i k).homeLane = x.homeLane := LaneState.alarm_homeLane' _ _ _
@[simp] theorem LaneState.clear_homeLane' (x : LaneState) (c : Code) (i : Nat) : (x.clear c i).homeLane = x.homeLane := LaneState.alarm_homeLane' _ _ _
@[simp] theorem LaneState.codes_inCommand' (x : LaneState) (ops : List AlarmOp) : (x.codes ops).inCommand = x.inCommand := by rw [x.codes_eq]; rfl
@[simp] theorem LaneState.alarm_inCommand' (x : LaneState) (op : AlarmOp) (d : Bytes) : (x.alarm op d).inCommand = x.inCommand := by rw [x.alarm_eq]; rfl
@[simp] theorem LaneState.raise_inCommand' (x : LaneState) (c : Code) (i k : Nat) : (x.raise c i k).inCommand = x.inCommand := LaneState.alarm_inCommand' _ _ _
@[simp] theorem LaneState.clear_inCommand' (x : LaneState) (c : Code) (i : Nat) : (x.clear c i).inCommand = x.inCommand := LaneState.alarm_inCommand' _ _ _

end Sys2Proof.Machine
end

