-- ==== Sys2Proof/Laws/Codes.lean ====
section
/-!
SUPPORT. What raising, holding and clearing a code does to a lane's list of active codes (00 R10; 16 R469).
-/

namespace Sys2Proof.Machine

/-- LA-010, which a full staging table raises beside the code itself. -/
abbrev tableFull (c : Code) (i : Nat) : Prop := c = ⟨.la, 10⟩ ∧ i = 0

theorem hasAlarm_append (as bs : List Alarm) (c : Code) (i : Nat) :
    hasAlarm (as ++ bs) c i = (hasAlarm as c i || hasAlarm bs c i) := by simp [hasAlarm]

@[simp] theorem hasAlarm_stamp (before after : List Alarm) (t : Nat) (c : Code) (i : Nat) :
    hasAlarm (AlarmOp.stamp before after t) c i = hasAlarm after c i := by
  have h : ∀ a : Alarm, (decide ((if hasAlarm before a.code a.item then a else { a with raisedAt := t }).code = c) &&
      (if hasAlarm before a.code a.item then a else { a with raisedAt := t }).item == i) = (decide (a.code = c) && a.item == i) := by
    intro a; split <;> rfl
  unfold hasAlarm AlarmOp.stamp
  rw [List.any_map]
  exact congrArg _ (funext h)

theorem hasAlarm_map_cause (as : List Alarm) (p : Alarm → Prop) [DecidablePred p] (k : Nat) (c : Code) (i : Nat) :
    hasAlarm (as.map fun a => if p a then { a with cause := k } else a) c i = hasAlarm as c i := by
  have h : ∀ a : Alarm, (decide ((if p a then { a with cause := k } else a).code = c) && (if p a then { a with cause := k } else a).item == i) =
      (decide (a.code = c) && a.item == i) := by intro a; split <;> rfl
  simp [hasAlarm, List.any_map, Function.comp_def, h]

/-- A raised or held code is in the list after. -/
theorem hasAlarm_raised (as : List Alarm) (d : Code) (j k : Nat) (c : Code) (i : Nat) :
    hasAlarm ((AlarmOp.raise d j k).apply as) c i = (hasAlarm as c i || (decide (d = c) && j == i)) := by
  simp only [AlarmOp.apply]
  split
  · rename_i h
    rw [hasAlarm_map_cause as (fun a => a.code = d ∧ a.item = j)]
    by_cases e : d = c ∧ j = i
    · obtain ⟨rfl, rfl⟩ := e; simp [h]
    · have : (decide (d = c) && j == i) = false := by simpa using fun h1 h2 => e ⟨h1, h2⟩
      simp [this]
  · simp [hasAlarm]

theorem hasAlarm_held (as : List Alarm) (d : Code) (j k : Nat) (c : Code) (i : Nat) :
    hasAlarm ((AlarmOp.hold d j k).apply as) c i = (hasAlarm as c i || (decide (d = c) && j == i)) := by
  simp only [AlarmOp.apply]
  split
  · rename_i h
    by_cases e : d = c ∧ j = i
    · obtain ⟨rfl, rfl⟩ := e; simp [h]
    · have : (decide (d = c) && j == i) = false := by simpa using fun h1 h2 => e ⟨h1, h2⟩
      simp [this]
  · simp [hasAlarm]

theorem hasAlarm_cleared (as : List Alarm) (d : Code) (j : Nat) (c : Code) (i : Nat) :
    hasAlarm ((AlarmOp.clear d j).apply as) c i = (hasAlarm as c i && !(decide (d = c) && j == i)) := by
  simp only [AlarmOp.apply, hasAlarm, List.any_filter]
  by_cases e : d = c ∧ j = i
  · obtain ⟨rfl, rfl⟩ := e
    simp
    intro a _ h1 h2 h3; exact h1.elim (fun h => h h2) (fun h => h h3)
  · have : (decide (d = c) && j == i) = false := by simpa using fun h1 h2 => e ⟨h1, h2⟩
    simp only [this, Bool.not_false, Bool.and_true]
    congr 1; funext a
    by_cases f : a.code = c ∧ a.item = i
    · obtain ⟨rfl, rfl⟩ := f
      have : ¬(a.code = d ∧ a.item = j) := fun h => e ⟨h.1.symm, h.2.symm⟩
      simpa using not_and_or.mp this
    · have g : (decide (a.code = c) && a.item == i) = false := by simpa using fun h1 h2 => f ⟨h1, h2⟩
      simp [g]

/-- LA-010 apart, the active codes of a lane after an operation are those the operation says. -/
theorem LaneState.hasAlarm_alarm (x : LaneState) (op : AlarmOp) (d : Bytes) (c : Code) (i : Nat) (h : ¬tableFull c i) :
    hasAlarm (x.alarm op d).alarms c i = hasAlarm (op.apply x.alarms) c i := by
  have key : ∀ as, hasAlarm ((AlarmOp.raise ⟨.la, 10⟩ 0 0).apply as) c i = hasAlarm as c i := by
    intro as
    rw [hasAlarm_raised]
    have : (decide ((⟨.la, 10⟩ : Code) = c) && (0 : Nat) == i) = false := by
      simp only [Bool.and_eq_false_imp, decide_eq_true_eq, beq_eq_false_iff_ne]
      intro h1 h2; exact h ⟨h1.symm, h2.symm⟩
    simp [this]
  simp only [LaneState.alarm]
  split
  · split
    · simp only; split
      · rw [key, hasAlarm_stamp]
      · rw [hasAlarm_stamp]
    · simp
  · simp

/-- An operation that leaves a code active leaves it active whatever the staging table holds. -/
theorem LaneState.hasAlarm_alarm_of (x : LaneState) (op : AlarmOp) (d : Bytes) (c : Code) (i : Nat)
    (h : hasAlarm (op.apply x.alarms) c i = true) : hasAlarm (x.alarm op d).alarms c i = true := by
  simp only [LaneState.alarm]
  split
  · split
    · simp only; split
      · rw [hasAlarm_raised, hasAlarm_stamp]; simp [h]
      · simpa using h
    · simpa using h
  · simpa using h

@[simp] theorem LaneState.hasAlarm_raise_self (x : LaneState) (c : Code) (i k : Nat) : hasAlarm (x.raise c i k).alarms c i = true :=
  x.hasAlarm_alarm_of _ _ _ _ (by simp [hasAlarm_raised])

@[simp] theorem LaneState.hasAlarm_alarm_raise (x : LaneState) (c : Code) (i k : Nat) (d : Bytes) :
    hasAlarm (x.alarm (.raise c i k) d).alarms c i = true := x.hasAlarm_alarm_of _ _ _ _ (by simp [hasAlarm_raised])

@[simp] theorem LaneState.hasAlarm_alarm_hold (x : LaneState) (c : Code) (i k : Nat) (d : Bytes) :
    hasAlarm (x.alarm (.hold c i k) d).alarms c i = true := x.hasAlarm_alarm_of _ _ _ _ (by simp [hasAlarm_held])

@[simp] theorem LaneState.hasAlarm_alarm_clear (x : LaneState) (c : Code) (i : Nat) (d : Bytes) :
    hasAlarm (x.alarm (.clear c i) d).alarms c i = false := by simp [LaneState.alarm, AlarmOp.occurs, hasAlarm_cleared]

@[simp] theorem LaneState.hasAlarm_clear_self (x : LaneState) (c : Code) (i : Nat) : hasAlarm (x.clear c i).alarms c i = false := by
  simp [LaneState.clear, LaneState.alarm, AlarmOp.occurs, hasAlarm_cleared]

/-- What an operation leaves of a code. -/
def AlarmOp.leaves (b : Bool) (c : Code) (i : Nat) : AlarmOp → Bool
  | .raise d j _ | .hold d j _ => b || (decide (d = c) && j == i)
  | .clear d j => b && !(decide (d = c) && j == i)

/-- LA-010 apart, the active codes after a list of operations. -/
theorem LaneState.hasAlarm_codes (x : LaneState) (ops : List AlarmOp) (c : Code) (i : Nat) (h : ¬tableFull c i) :
    hasAlarm (x.codes ops).alarms c i = ops.foldl (fun b op => op.leaves b c i) (hasAlarm x.alarms c i) := by
  induction ops generalizing x with
  | nil => rfl
  | cons op ops ih =>
    rw [LaneState.codes, List.foldl_cons, ← LaneState.codes, ih, List.foldl_cons, x.hasAlarm_alarm _ _ _ _ h]
    congr 1
    cases op <;> simp [AlarmOp.leaves, hasAlarm_raised, hasAlarm_held, hasAlarm_cleared]

theorem LaneState.hasAlarm_raise (x : LaneState) (d : Code) (j k : Nat) (c : Code) (i : Nat) (h : ¬tableFull c i) :
    hasAlarm (x.raise d j k).alarms c i = (hasAlarm x.alarms c i || (decide (d = c) && j == i)) := by
  rw [LaneState.raise, x.hasAlarm_alarm _ _ _ _ h, hasAlarm_raised]

theorem LaneState.hasAlarm_clear (x : LaneState) (d : Code) (j : Nat) (c : Code) (i : Nat) :
    hasAlarm (x.clear d j).alarms c i = (hasAlarm x.alarms c i && !(decide (d = c) && j == i)) := by
  simp [LaneState.clear, LaneState.alarm, AlarmOp.occurs, hasAlarm_cleared]

end Sys2Proof.Machine
end

