-- ==== Sys2Proof/Laws/Command.lean ====
section
/-!
SUPPORT. What the acceptance of a WRITE does (15 R455 to R459; 03 R110, R111), once for every command that is one.
-/

namespace Sys2Proof.Machine

variable {x : LaneState} {m : Msg} {a : Ask} {ses : SessionState} {q : Session} {d : Datagram} {v : Bytes}

/-- A message that no session accepts is counted as discarded. -/
theorem LaneState.take_discard (h : x.ses.enter m = none) : x.take m a = ({ x with ses := x.ses.discard m }, false) := by
  simp [LaneState.take, h]

/-- A WRITE to the command's own object, before its status is known. -/
theorem LaneState.take_writes (h : x.writes m a.object ses q d v) :
    x.take m a =
      (let st := a.judge x.active q.rights
       let x1 : LaneState := { x with ses := ses }
       let done : LaneState × Bool :=
         if st.1 ≠ 0 ∨ a.ledger = false then (x1, true) else x1.record a.role 2 a.object q.keyId a.old (a.new.getD v)
       let st2 : Nat × Nat := if st.1 = 0 ∧ done.2 = false ∧ a.role ≠ 1 then (stLedger, 0) else st
       ({ done.1 with ses := done.1.ses.answer q 0x12 d.seq [⟨st2.1, st2.2, a.object, []⟩] [] }, decide (st2.1 = 0))) := by
  obtain ⟨h1, h2, h3⟩ := h
  simp [LaneState.take, h1, h2, h3]

/-- A refused WRITE is answered with its status and changes nothing else. -/
theorem LaneState.take_refused (h : x.writes m a.object ses q d v) (hs : (a.judge x.active q.rights).1 ≠ 0) :
    x.take m a = (x.replies ses q d (a.judge x.active q.rights).1 (a.judge x.active q.rights).2 a.object, false) := by
  rw [LaneState.take_writes h]
  simp [hs, LaneState.replies]

/-- An accepted WRITE that is no change is answered with status 0. -/
theorem LaneState.take_unlogged (h : x.writes m a.object ses q d v) (hl : a.ledger = false) (hs : (a.judge x.active q.rights).1 = 0) :
    x.take m a = (x.replies ses q d 0 (a.judge x.active q.rights).2 a.object, true) := by
  rw [LaneState.take_writes h]
  simp [hs, hl, LaneState.replies]

/-- An accepted change stands in the ledger and is answered with status 0. -/
theorem LaneState.take_accepted (h : x.writes m a.object ses q d v) (hl : a.ledger = true) (hf : x.ledger.failing = false)
    (hs : a.judge x.active q.rights = (0, 0)) :
    x.take m a = (x.accepted ses q d a.role a.object a.old (a.new.getD v), true) := by
  rw [LaneState.take_writes h]
  simp [hs, hl, LaneState.record, hf, LaneState.accepted, LaneState.replies, LaneState.logs, LaneState.entry]

/-- Raising a code does not read the sessions. -/
theorem LaneState.raise_withSes (x : LaneState) (ses : SessionState) (c : Code) (i k : Nat) :
    ({ x with ses := ses } : LaneState).raise c i k = { x.raise c i k with ses := ses } := by
  unfold LaneState.raise LaneState.alarm
  dsimp only [AlarmOp.occurs]
  split <;> rfl

/-- With a ledger that cannot be written, a change other than an operator's is answered LEDGER. -/
theorem LaneState.take_unwritten (h : x.writes m a.object ses q d v) (hl : a.ledger = true) (hf : x.ledger.failing = true)
    (hs : a.judge x.active q.rights = (0, 0)) (hr : a.role ≠ 1) :
    x.take m a = ((x.raise ⟨.cl, 21⟩ 0 0).replies ses q d stLedger 0 a.object, false) := by
  rw [LaneState.take_writes h]
  simp [hs, hl, LaneState.record, hf, LaneState.replies, hr, LaneState.raise_withSes, stLedger]

/-- The status of a WRITE whose station has the right, to a lane that may act on it. -/
theorem Ask.judge_open (active : Bool) (rights : Nat) (hr : rights &&& a.right = a.right) (ha : a.role = 1 → active = true)
    (hn : a.refuse = none) : a.judge active rights = (0, 0) := by
  simp only [Ask.judge, hr, hn]
  by_cases e : a.role = 1
  · simp [ha e]
  · simp [e]

/-- A command that a lane accepts runs on the state in which its reply waits. -/
theorem State.command_accepts {s u : State} {l : Lane} {effect : State → State} {change : Option (Bytes × Option Bytes)}
    (h : s.accepts l m a.object a.right a.role change u)
    (hc : change = if a.ledger then some (a.old, a.new) else none) (hn : a.refuse = none) :
    s.command l m a effect = effect u := by
  obtain ⟨ses, q, d, v, hw, hr, ha, hf, rfl⟩ := h
  have hj := Ask.judge_open (a := a) (s.lane l).active q.rights hr ha hn
  cases hl : a.ledger with
  | true =>
    simp only [hl, if_true] at hc
    subst hc
    simp [State.command, LaneState.take_accepted hw hl hf hj]
  | false =>
    simp only [hl] at hc
    subst hc
    simp [State.command, LaneState.take_unlogged hw hl (by rw [hj]), hj]

/-- A command that a lane refuses is answered with the status. -/
theorem State.command_refused {s : State} {l : Lane} {effect : State → State} (h : (s.lane l).writes m a.object ses q d v)
    (hs : (a.judge (s.lane l).active q.rights).1 ≠ 0) :
    s.command l m a effect =
      s.setLane l ((s.lane l).replies ses q d (a.judge (s.lane l).active q.rights).1 (a.judge (s.lane l).active q.rights).2 a.object) := by
  simp [State.command, LaneState.take_refused h hs]

/-- A message that no session accepts changes its count alone. -/
theorem State.command_discard {s : State} {l : Lane} {effect : State → State} (h : (s.lane l).ses.enter m = none) :
    s.command l m a effect = s.setLane l { s.lane l with ses := (s.lane l).ses.discard m } := by
  simp [State.command, LaneState.take_discard h]

end Sys2Proof.Machine
end

