-- ==== Sys2Proof/Laws/KeyCells.lean ====
section
/-!
SUPPORT. The bytes of a cellar key (03 R79): every operation on them keeps their canonical form; what a byte reads as after
a write and after an erase.
-/

namespace Sys2Proof.Machine

/-! ## The canonical form -/

/-- The canonical form, one cell at a time. -/
theorem cellsWf_cons (c : Nat × Byte) (cs : KeyCells) :
    cellsWf (c :: cs) = true ↔ (c.1 < keySize ∧ c.2 ≠ erasedByte) ∧ (∀ d ∈ cs, c.1 < d.1) ∧ cellsWf cs = true := by
  simp [cellsWf, and_assoc]

/-- A part of canonical cells is canonical. -/
theorem cellsWf_filter (p : Nat × Byte → Bool) (cs : KeyCells) (h : cellsWf cs = true) : cellsWf (cs.filter p) = true := by
  induction cs with
  | nil => rfl
  | cons c cs ih =>
    rw [cellsWf_cons] at h
    rw [List.filter_cons]
    split
    · rw [cellsWf_cons]
      exact ⟨h.1, fun d hd => h.2.1 d (List.mem_of_mem_filter hd), ih h.2.2⟩
    · exact ih h.2.2

/-- Canonical cells below canonical cells are canonical. -/
theorem cellsWf_append (as bs : KeyCells) (ha : cellsWf as = true) (hb : cellsWf bs = true) (h : ∀ a ∈ as, ∀ b ∈ bs, a.1 < b.1) :
    cellsWf (as ++ bs) = true := by
  induction as with
  | nil => exact hb
  | cons a as ih =>
    rw [cellsWf_cons] at ha
    rw [List.cons_append, cellsWf_cons]
    refine ⟨ha.1, ?_, ih ha.2.2 fun x hx => h x (List.mem_cons_of_mem _ hx)⟩
    intro d hd
    rcases List.mem_append.mp hd with hd | hd
    · exact ha.2.1 d hd
    · exact h a List.mem_cons_self d hd

/-- A written byte keeps the canonical form. -/
theorem cellsWf_writeCell (cs : KeyCells) (a : Nat) (b : Byte) (h : cellsWf cs = true) : cellsWf (writeCell cs a b) = true := by
  have hb := cellsWf_filter (fun c => decide (c.1 < a)) cs h
  have hm := cellsWf_filter (fun c => c.1 == a && decide (keySize ≤ a)) cs h
  have ha := cellsWf_filter (fun c => decide (a < c.1)) cs h
  simp only [writeCell]
  split
  · refine cellsWf_append _ _ (cellsWf_append _ _ hb hm ?_) ha ?_
    · intro x hx y hy
      simp only [List.mem_filter, decide_eq_true_eq, Bool.and_eq_true, beq_iff_eq] at hx hy
      omega
    · intro x hx y hy
      rw [List.mem_append] at hx
      simp only [List.mem_filter, decide_eq_true_eq, Bool.and_eq_true, beq_iff_eq] at hx hy
      omega
  · rename_i e
    rw [not_or] at e
    refine cellsWf_append _ _ hb ((cellsWf_cons _ _).mpr ⟨⟨by omega, e.2⟩, ?_, ha⟩) ?_
    · intro d hd
      simpa using (List.mem_filter.mp hd).2
    · intro x hx y hy
      rw [List.mem_cons] at hy
      simp only [List.mem_filter, decide_eq_true_eq] at hx hy
      rcases hy with rfl | hy
      · exact hx.2
      · omega

theorem cellsWf_writeCells (cs : KeyCells) (a : Nat) (bs : Bytes) (h : cellsWf cs = true) : cellsWf (writeCells cs a bs) = true := by
  induction bs generalizing cs a with
  | nil => exact h
  | cons b bs ih => exact ih _ _ (cellsWf_writeCell cs a b h)

theorem cellsWf_eraseCells (cs : KeyCells) (a n : Nat) (h : cellsWf cs = true) : cellsWf (eraseCells cs a n) = true :=
  cellsWf_filter _ cs h

/-- The cells of a key put into a socket are canonical. -/
theorem cellsWf_normalCells (cs : KeyCells) : cellsWf (normalCells cs) = true := by
  have key : ∀ acc : KeyCells, cellsWf acc = true → cellsWf (cs.foldl (fun acc c => writeCell acc c.1 c.2) acc) = true := by
    induction cs with
    | nil => intro acc h; exact h
    | cons c cs ih => intro acc h; exact ih _ (cellsWf_writeCell acc c.1 c.2 h)
  exact key [] rfl

theorem Key.write_wf (k : Key) (a : Nat) (bs : Bytes) (h : cellsWf k.cells = true) : cellsWf (k.write a bs).cells = true :=
  cellsWf_writeCells k.cells a bs h

theorem Key.erase_wf (k : Key) (a n : Nat) (h : cellsWf k.cells = true) : cellsWf (k.erase a n).cells = true :=
  cellsWf_eraseCells k.cells a n h

/-- A flip keeps the canonical form (03 R82). -/
theorem Key.flip_wf (k : Key) (bank keyId opHours cycles : Nat) (h : cellsWf k.cells = true) :
    cellsWf (k.flip bank keyId opHours cycles).cells = true := Key.write_wf _ _ _ (Key.erase_wf _ _ _ h)

/-- A piece of a bank keeps the canonical form (03 R98). -/
theorem Key.writePiece_wf (k : Key) (bank : Nat) (erased : List Nat) (off : Nat) (data : Bytes) (h : cellsWf k.cells = true) :
    cellsWf (k.writePiece bank erased off data).1.cells = true := by
  refine Key.write_wf _ _ _ ?_
  generalize (sectorsOf off data.length).filter (fun n => !erased.contains n) = ns
  induction ns generalizing k with
  | nil => exact h
  | cons n ns ih => exact ih _ (Key.erase_wf _ _ _ h)

theorem KeyWrite.chunk_wf (w : KeyWrite) (k : Key) (data : Bytes) (h : cellsWf k.cells = true) : cellsWf (w.chunk k data).2.cells = true :=
  Key.writePiece_wf k w.bank w.erased _ _ h

theorem KeyWrite.finish_wf (w : KeyWrite) (k : Key) (h : cellsWf k.cells = true) : cellsWf (w.finish k).cells = true := by
  simp only [KeyWrite.finish]
  generalize w.held = ps
  have hk := Key.erase_wf k (bankBase w.bank) sectorSize h
  generalize k.erase (bankBase w.bank) sectorSize = k' at hk
  induction ps generalizing k' with
  | nil => exact hk
  | cons p ps ih => exact ih _ (Key.write_wf _ _ _ hk)

/-! ## Reading -/

/-- Cells beside an address do not tell of it. -/
theorem cellAt_append_left (as bs : KeyCells) (a : Nat) (h : ∀ c ∈ bs, c.1 ≠ a) : cellAt (as ++ bs) a = cellAt as a := by
  have e : bs.find? (fun c => c.1 == a) = none := List.find?_eq_none.mpr fun c hc => by simpa using h c hc
  simp [cellAt, List.find?_append, e]

theorem cellAt_append_right (as bs : KeyCells) (a : Nat) (h : ∀ c ∈ as, c.1 ≠ a) : cellAt (as ++ bs) a = cellAt bs a := by
  have e : as.find? (fun c => c.1 == a) = none := List.find?_eq_none.mpr fun c hc => by simpa using h c hc
  simp [cellAt, List.find?_append, e]

/-- A byte whose cells a filter keeps reads as before; one whose cells it drops reads as erased. -/
theorem cellAt_filter (p : Nat × Byte → Bool) (cs : KeyCells) (a : Nat) :
    ((∀ c ∈ cs, c.1 = a → p c = true) → cellAt (cs.filter p) a = cellAt cs a) ∧
    ((∀ c ∈ cs, c.1 = a → p c = false) → cellAt (cs.filter p) a = erasedByte) := by
  induction cs with
  | nil => simp [cellAt]
  | cons c cs ih =>
    have step : ∀ q : Nat × Byte → Prop, (∀ d ∈ c :: cs, d.1 = a → q d) → ∀ d ∈ cs, d.1 = a → q d :=
      fun q h d hd => h d (List.mem_cons_of_mem _ hd)
    constructor
    · intro h
      have r := ih.1 (step _ h)
      by_cases e : c.1 = a
      · simp [cellAt, h c List.mem_cons_self e, e]
      · have e' : (c.1 == a) = false := by simpa using e
        rw [List.filter_cons]
        split <;> simpa [cellAt, List.find?_cons, e'] using r
    · intro h
      have r := ih.2 (step _ h)
      by_cases e : c.1 = a
      · simpa [List.filter_cons, h c List.mem_cons_self e] using r
      · have e' : (c.1 == a) = false := by simpa using e
        rw [List.filter_cons]
        split <;> simpa [cellAt, List.find?_cons, e'] using r

/-- A byte of an erased run reads as erased; every other byte as before. -/
theorem cellAt_eraseCells (cs : KeyCells) (a n x : Nat) :
    cellAt (eraseCells cs a n) x = if a ≤ x ∧ x < a + n then erasedByte else cellAt cs x := by
  have h := cellAt_filter (fun c => !(decide (a ≤ c.1) && decide (c.1 < a + n))) cs x
  split
  · rename_i hx
    exact h.2 fun c _ e => by subst e; simp [hx]
  · rename_i hx
    exact h.1 fun c _ e => by subst e; simpa [Nat.not_le, Classical.or_iff_not_imp_left] using hx

/-- A byte written below the end of the device reads back; every other byte reads as before. -/
theorem cellAt_writeCell (cs : KeyCells) (a : Nat) (b : Byte) (x : Nat) (ha : a < keySize) :
    cellAt (writeCell cs a b) x = if x = a then b else cellAt cs x := by
  have lo := (cellAt_filter (fun c => decide (c.1 < a)) cs x).1
  have hi := (cellAt_filter (fun c => decide (a < c.1)) cs x).1
  have below : ∀ c ∈ cs.filter (fun c => decide (c.1 < a)), c.1 < a := fun c hc => by simpa using (List.mem_filter.mp hc).2
  have above : ∀ c ∈ cs.filter (fun c => decide (a < c.1)), a < c.1 := fun c hc => by simpa using (List.mem_filter.mp hc).2
  have mid : (cs.filter fun c => c.1 == a && decide (keySize ≤ a)) = [] := by
    rw [List.filter_eq_nil_iff]
    intro c _
    simp [Nat.not_le.mpr ha]
  simp only [writeCell, mid, List.append_nil]
  rcases Nat.lt_trichotomy x a with hx | rfl | hx
  · rw [if_neg (Nat.ne_of_lt hx), ← lo fun c _ e => by simpa [e] using hx]
    split
    · exact cellAt_append_left _ _ _ fun c hc => by have := above c hc; omega
    · refine cellAt_append_left _ _ _ fun c hc => ?_
      rcases List.mem_cons.mp hc with rfl | hc
      · exact Nat.ne_of_gt hx
      · have := above c hc; omega
  · rw [if_pos rfl]
    split
    · rename_i h
      rw [cellAt_append_right _ _ _ fun c hc => Nat.ne_of_lt (below c hc)]
      rw [(cellAt_filter (fun c => decide (x < c.1)) cs x).2 fun c _ e => by simp [e]]
      rcases h with h | h
      · omega
      · exact h.symm
    · rw [cellAt_append_right _ _ _ fun c hc => Nat.ne_of_lt (below c hc)]
      simp [cellAt]
  · rw [if_neg (Nat.ne_of_gt hx), ← hi fun c _ e => by simpa [e] using hx]
    split
    · exact cellAt_append_right _ _ _ fun c hc => by have := below c hc; omega
    · rw [cellAt_append_right _ _ _ fun c hc => by have := below c hc; omega]
      have e : ((a == x) : Bool) = false := by simpa using Nat.ne_of_lt hx
      simp [cellAt, e]

end Sys2Proof.Machine
end

