-- ==== Sys2Proof/Laws/Message.lean ====
section
/-!
SUPPORT. Signed messages (15 R454): the length of a digest, the tag of a message that carries the digest of what precedes it, and
that no field of a datagram depends on its tag.
-/

namespace Sys2Proof.Machine

@[simp] theorem leBytes_length (n v : Nat) : (leBytes n v).length = n := by
  induction n generalizing v with
  | zero => rfl
  | succ n ih => simp [leBytes, ih]

@[simp] theorem beBytes_length (n v : Nat) : (beBytes n v).length = n := by simp [beBytes]

@[simp] theorem sha256_length (bs : Bytes) : (sha256 bs).length = 32 := by simp [sha256]

@[simp] theorem hmac_length (key bs : Bytes) : (hmac key bs).length = 32 := by simp [hmac]

/-- A message followed by the first 16 bytes of its digest carries its tag. -/
theorem tagOk_signed (key h : Bytes) : tagOk key (h ++ (hmac key h).take 16) = true := by
  simp [tagOk, tagOf]

theorem slice_append_left {h : Bytes} (t : Bytes) {off n : Nat} (hn : off + n ≤ h.length) : slice (h ++ t) off n = slice h off n := by
  unfold slice
  rw [List.drop_append_of_le_length (by omega), List.take_append_of_le_length (by simp; omega)]

theorem fieldN_append_left {h : Bytes} (t : Bytes) {off n : Nat} (hn : off + n ≤ h.length) : fieldN (h ++ t) off n = fieldN h off n := by
  unfold fieldN; rw [slice_append_left t hn]

/-- What a datagram says does not depend on its tag. -/
theorem parseDatagram_tag {h t u : Bytes} (hh : 32 ≤ h.length) (ht : t.length = 16) (hu : u.length = 16) :
    parseDatagram (h ++ t) = parseDatagram (h ++ u) := by
  have e : ∀ v : Bytes, v.length = 16 → (h ++ v).length - 48 = h.length - 32 := fun v hv => by simp [hv]
  unfold parseDatagram
  simp only [e t ht, e u hu]
  simp only [fieldN_append_left _ (show 0 + 2 ≤ h.length by omega), fieldN_append_left _ (show 2 + 1 ≤ h.length by omega),
    fieldN_append_left _ (show 3 + 1 ≤ h.length by omega), fieldN_append_left _ (show 4 + 2 ≤ h.length by omega),
    fieldN_append_left _ (show 6 + 2 ≤ h.length by omega), fieldN_append_left _ (show 8 + 4 ≤ h.length by omega),
    fieldN_append_left _ (show 12 + 4 ≤ h.length by omega), slice_append_left _ (show 32 + (h.length - 32) ≤ h.length by omega),
    List.length_append, ht, hu]

end Sys2Proof.Machine
end

