-- ==== Sys2Proof/Laws/Parts.lean ====
section
/-!
SUPPORT. What the shared operations on parts of a lane do: entries of lists, the bounds of the clock registers, indices, the
tables that keep their size, the entry into FAILED.
-/

namespace Sys2Proof.Machine

/-! ## One lane -/

/-- Functions that agree on a lane change the block alike. -/
theorem State.onLane_congr {s : State} {l : Lane} {f g : LaneState → LaneState} (h : f (s.lane l) = g (s.lane l)) :
    s.onLane l f = s.onLane l g := by
  simp only [State.onLane, h]

/-- A function that leaves a lane leaves the block. -/
theorem State.onLane_id {s : State} {l : Lane} {f : LaneState → LaneState} (h : f (s.lane l) = s.lane l) : s.onLane l f = s := by
  simp only [State.onLane, h, State.setLane_lane]

/-! ## Entries of lists -/

@[simp] theorem nth_set_self {α : Type} (d : α) (xs : List α) (n : Nat) (a : α) (h : n < xs.length) : nth d (xs.set n a) n = a := by
  simp [nth, h]

@[simp] theorem nth_set_ne {α : Type} (d : α) (xs : List α) (n k : Nat) (a : α) (h : n ≠ k) : nth d (xs.set n a) k = nth d xs k := by
  simp [nth, h]

/-- An entry replaced by a function of it. -/
theorem modNth_eq_set {α : Type} (d : α) (xs : List α) (n : Nat) (f : α → α) (h : n < xs.length) : modNth xs n f = xs.set n (f (nth d xs n)) := by
  apply List.ext_getElem?
  intro k
  simp only [modNth, List.getElem?_modify, List.getElem?_set, nth]
  by_cases e : n = k
  · subst e; simp [h]
  · simp [e]

theorem length_modNth {α : Type} (xs : List α) (n : Nat) (f : α → α) : (modNth xs n f).length = xs.length := by simp [modNth]

/-! ## Clock registers (15 R439 to R441) -/

theorem incrLow_le_incrHigh : incrLow ≤ incrHigh := by decide

/-- Whatever is written, INCR stands within its bounds. -/
theorem ClockState.setIncr_bounds (c : ClockState) (v : Nat) : incrLow ≤ (c.setIncr v).incr ∧ (c.setIncr v).incr ≤ incrHigh := by
  have := incrLow_le_incrHigh
  simp only [ClockState.setIncr]
  omega

/-- Whatever is written, TICK_SLEW stands within its bounds. -/
theorem slewValue_bounds (v : Int) : -slewMax ≤ slewValue v ∧ slewValue v ≤ slewMax := by
  have : (0 : Int) ≤ slewMax := by decide
  simp only [slewValue]
  split
  · omega
  · split <;> omega

/-! ## Indices (01 R14; 02 R43) -/

/-- The indices a valid heartbeat carries are in their ranges. -/
theorem parseHeartbeat_range {bs : Bytes} {h : Heartbeat} (e : parseHeartbeat bs = some h) : h.frameSlot < 20 ∧ h.motionIndex < 50 := by
  simp only [parseHeartbeat] at e
  split at e
  · obtain rfl := Option.some.inj e
    exact ⟨Nat.mod_lt _ (by decide), Nat.mod_lt _ (by decide)⟩
  · cases e

theorem nextIndex_range {slot motion : Nat} (h : slot < 20) (k : motion < 50) :
    (nextIndex slot motion).1 < 20 ∧ (nextIndex slot motion).2 < 50 := by
  simp only [nextIndex]
  split
  · exact ⟨Nat.zero_lt_succ _, Nat.mod_lt _ (by decide)⟩
  · exact ⟨by omega, k⟩

/-! ## Tables that keep their size (03 R113; 15 R435, R444) -/

/-- The ledger keeps its newest 2 048 entries. -/
theorem LedgerState.add_length (g : LedgerState) (e : LedgerEntry) : (g.add e).ring.length ≤ 2048 := by
  simp only [LedgerState.add, List.length_take]
  omega

@[simp] theorem LedgerState.add_nextSeq (g : LedgerState) (e : LedgerEntry) : (g.add e).nextSeq = (g.nextSeq + 1) % 2 ^ 32 := rfl

@[simp] theorem LedgerState.add_failing (g : LedgerState) (e : LedgerEntry) : (g.add e).failing = g.failing := rfl

/-- An entry changes the ledger. -/
theorem LedgerState.add_ne (g : LedgerState) (e : LedgerEntry) : g.add e ≠ g := by
  intro h
  have : (g.nextSeq + 1) % 2 ^ 32 = g.nextSeq := congrArg LedgerState.nextSeq h
  omega

/-- Selection among the foreign masters keeps their number. -/
theorem PtpState.select_length (t : TimeRec) (p : PtpState) : (p.select t).masters.length = p.masters.length := by
  simp only [PtpState.select]
  split <;> simp

/-! ## Entry into FAILED (02 R40, R50) -/

/-- A lane that fails keeps all but its life, its codes, its Larder, its votes' command and its buses. -/
theorem LaneState.enterFailed_spec (x : LaneState) (cause : Nat) :
    (x.enterFailed cause).life.state = .failed ∧ (x.enterFailed cause).life.cause = cause ∧ (x.enterFailed cause).voter.cmd = 0 ∧
    hasAlarm (x.enterFailed cause).alarms ⟨.ln, 4⟩ 0 = true ∧ ∀ b ∈ (x.enterFailed cause).can.buses, b.list = [] := by
  have hb : ∀ b ∈ x.stopOutputs.can.buses, b.list = [] := by
    intro b hb
    simp only [LaneState.stopOutputs, List.mem_map] at hb
    obtain ⟨a, -, rfl⟩ := hb
    rfl
  simp only [LaneState.enterFailed, LaneState.judgeLatch]
  split
  · refine ⟨by simp, by simp, by simp, ?_, by simpa using hb⟩
    rw [LaneState.hasAlarm_raise _ _ _ _ _ _ (by simp [tableFull])]
    simp
  · exact ⟨by simp, by simp, by simp, by simp, by simpa using hb⟩

end Sys2Proof.Machine
end

