-- ==== Sys2Proof/WellFormed.lean ====
section
/-!
DEFINITION. Which commands are well-formed: every index, width and length of an operand inside the range the spec gives the
part it names. A meaning is total on other operands too; no part of the block answers to them.
-/

namespace Sys2Proof

namespace Machine

/-- A frame tick tells of four cores and four engines (01 R20; 02 R57). -/
def FrameIn.wf (i : FrameIn) : Bool := decide (i.acks.length = 4 ∧ i.test.vectors.length = 4) && i.unfinished.all fun n => decide (n < 0x10000)

/-- A microframe tick tells of 12 safety inputs, 16 discrete inputs, 24 sensor supplies and 16 outputs (11; 13; 14). -/
def MicroIn.wf (i : MicroIn) : Bool :=
  decide (i.safety < 2 ^ 24 ∧ i.discrete < 2 ^ 16 ∧ i.supplies.length = 24 ∧ i.outs.length = 16)

/-- Registers there are (09 R277; 10 R298; 11 R350; 15 R442, R443, R451). -/
def Reg.wf : Reg → Bool
  | .incrNs | .incrLo | .stepS | .stepNs | .clockFlags | .tickSlew | .engStatus | .engReset => true
  | .stamp unit => decide (unit < 8)
  | .oneStep lan => decide (lan < 2)
  | .pulseCtrl g | .pulseStartLo g | .pulseStartHi g | .pulseStartNs g | .pulsePeriodLo g | .pulsePeriodHi g | .pulseWidth g => decide (g < 2)
  | .fbStatus channel => decide (channel < 24)
  | .setpoint axis | .setpointControl axis | .setpointSeq axis => decide (axis < 72)
  | .problem offset => decide (offset < 0x2180 ∧ offset % 4 = 0)

/-- What the maker writes (03 R79, R107). -/
def MakerOp.wf : MakerOp → Bool
  | .firmware _ | .trims _ | .factory _ => true
  | .keyRegion offset data => decide (offset + data.length ≤ 0x100000)
  | .firstInstaller _ key | .firstSigner _ key => decide (key.length = 32)

/-- Transfers of the Muslin link (11 R346; 14 R418, R419). -/
def MuslinItem.wf : MuslinItem → Bool
  | .fbArm channel => decide (channel < 24)
  | .anChannel channel _ _ => decide (channel < 16)
  | .ephemeris _ => true
  | .timeTransfer ns => decide (ns < 2000000)
  | .aiding leap => decide (leap < 256)
  | .coeffCrcs crcs => decide (crcs.length = 8)

end Machine

/-- Whether a command is well-formed. -/
def Instr.wf : Instr → Bool
  | .lanePowerUp _ feed => feed == 1 || feed == 2
  | .bootComplete _ err => decide (-1000 ≤ err ∧ err ≤ 1000)
  | .bootWatchdogReset _ => true
  | .keyCheckComplete _ => true
  | .startSelfTestComplete _ test => test.faults.all fun n => decide (1 ≤ n ∧ n ≤ 17)
  | .frameTick _ inp => inp.wf
  | .microframeTick _ inp => inp.wf
  | .heartbeatReceived _ bytes offset => decide (bytes.length = 64 ∧ -32768 ≤ offset ∧ offset ≤ 32767)
  | .stateCopyReceived _ damage => decide (damage ≤ 3)
  | .abdication _ cause => [1, 2, 3, 4, 5, 0x14].contains cause
  | .abdicationFrameReceived _ bytes => decide (bytes.length = 64)
  | .baizeReady => true
  | .baizeTick _ => true
  | .baizeStatusReceived _ bytes => decide (bytes.length = 16)
  | .baizeBusFrameSeen _ bus => decide (bus < 4)
  | .takeover _ => true
  | .commandedSwitchover _ => true
  | .transmitInhibitAssert _ => true
  | .homeOnlyPeriodEnd => true
  | .revertHoldoffEnd => true
  | .baizeAbsent _ => true
  | .baizePresentAgain => true
  | .unrefereedTakeover _ => true
  | .autoRestart _ => true
  | .laneSwitch _ _ => true
  | .laneIsolate _ _ _ => true
  | .laneAdoptImage _ _ => true
  | .laneRestart _ _ _ => true
  | .partnerTakeCommand _ _ _ => true
  | .partnerMessageReceived _ bytes => decide (bytes.length = 80)
  | .partnerRequestLapse _ => true
  | .partnerMessagesLost _ => true
  | .partnerAutoTakeover _ => true
  | .shadowComparisonFault _ => true
  | .cellarWriteOpen _ _ _ _ expected => decide (expected.length = 32)
  | .cellarWriteChunk _ _ _ _ => true
  | .cellarWriteClose _ _ => true
  | .cellarVerifyComplete _ => true
  | .cellarWriteAbort _ _ => true
  | .cellarWriteTimeout _ => true
  | .cellarSelect _ _ _ => true
  | .cellarKeyRemoved _ => true
  | .cellarKeyInserted _ _ => true
  | .keyStoreAdd _ _ _ _ kind _ => decide (kind ≤ 2)
  | .keyStoreRemove _ _ _ _ => true
  | .makerTokenEntry _ _ _ response => decide (response.length = 32)
  | .makerTokenLapse _ _ => true
  | .feedGood _ feed _ => feed == 1 || feed == 2
  | .feedLost _ feed _ => feed == 1 || feed == 2
  | .feedLowVoltage _ feed => feed == 1 || feed == 2
  | .feedHighVoltage _ feed => feed == 1 || feed == 2
  | .powerClaim _ _ mask => decide (mask < 256)
  | .gnssDump _ antenna obs => decide (antenna < 2) && obs.all fun o => decide (o.slot < 120)
  | .searchHit _ antenna _ _ _ _ _ => decide (antenna < 2)
  | .slotRelease _ antenna slot => decide (antenna < 2 ∧ slot < 120)
  | .antennaBiasFault _ antenna => decide (antenna < 2)
  | .antennaBiasRetry _ antenna => decide (antenna < 2)
  | .navMessage _ nav => decide (nav.antenna < 2 ∧ nav.bits.length ≤ 80)
  | .rtcmFrameReceived _ _ => true
  | .gnssPeerSolutionReceived _ => true
  | .gnssSolutionTimeout _ => true
  | .headingFixTimeout _ => true
  | .untrackedTimeout _ antenna => decide (antenna < 2)
  | .sentenceReceived _ _ _ _ => true
  | .referenceBinaryFrame _ _ _ _ => true
  | .referenceLost _ ref => decide (ref < 26)
  | .predictionOnlyTimeout _ _ => true
  | .refsSelect _ _ ref _ => decide (ref < 26)
  | .refsAccept _ _ ref => decide (ref < 26)
  | .refsAnchor _ _ ref => decide (ref < 26)
  | .deadReckoningLimit _ _ => true
  | .ctrlMode _ _ _ => true
  | .ctrlSetpoint _ _ _ _ _ _ _ => true
  | .ctrlGainBank _ _ _ => true
  | .ctrlJoystick _ _ _ _ _ _ => true
  | .ctrlFootprint _ _ _ _ _ => true
  | .ctrlBiasRelease _ _ => true
  | .ctrlTrackPoint _ _ n _ => decide (n < 64)
  | .ctrlTrackCommit _ _ _ => true
  | .ctrlTargetOffset _ _ _ _ => true
  | .joystickTimeout _ => true
  | .crossTrackTimeout _ => true
  | .targetLost _ => true
  | .engStart _ value => decide (value < 2 ^ 32)
  | .engineRunComplete _ _ => true
  | .allocExclude _ _ actuator _ => decide (actuator < 24)
  | .actuatorReentry _ actuator => decide (actuator < 24)
  | .transitTimeout _ actuator => decide (actuator < 24)
  | .followingErrorFault _ axis => decide (axis < 72)
  | .feedbackFreeze _ axis => decide (axis < 72)
  | .feLatchExpiry _ axis => decide (axis < 72)
  | .loopReset _ _ axis => decide (axis < 72)
  | .outLimitTimeout _ axis => decide (axis < 72)
  | .indexEvent _ channel => decide (channel < 24)
  | .illegalTransitionFault _ channel => decide (channel < 24)
  | .wireDisagree _ channel _ => decide (channel < 24)
  | .amplitudeLoss _ channel => decide (channel < 24)
  | .ssiFrameComplete _ channel _ _ => decide (channel < 24)
  | .ssiLoss _ channel => decide (channel < 24)
  | .sensorSupplyShort _ channel => decide (channel < 24)
  | .sensorSupplyOpen _ channel => decide (channel < 24)
  | .sensorSupplyRetry _ channel => decide (channel < 24)
  | .lossClear _ channel => decide (channel < 24)
  | .countLatchRead _ channel => decide (channel < 24)
  | .fbArm _ _ channel => decide (channel < 24)
  | .fbClear _ _ channel => decide (channel < 24)
  | .txbRequest _ bus buffer _ => decide (bus < 4 ∧ buffer < 3)
  | .txbCancel _ bus buffer _ => decide (bus < 4 ∧ buffer < 3)
  | .canFrameComplete _ bus _ ns => decide (bus < 4 ∧ ns < 2000000)
  | .canTxError _ bus _ _ => decide (bus < 8)
  | .busOffRecovery _ bus => decide (bus < 8)
  | .canFrameReceived _ bus frame => decide (bus < 8 ∧ frame.frame.data.length ≤ 64)
  | .fifoPop _ bus => decide (bus < 8)
  | .transmitInhibit _ => true
  | .transmitInhibitRelease _ => true
  | .driveStatusTimeout _ source => decide (source < 32)
  | .commandLate _ bus _ => decide (bus < 8)
  | .voterWatchdogExpiry _ => true
  | .testPulse _ _ => true
  | .safeRecordTransfer _ => true
  | .safetyExchangeReceived _ _ => true
  | .firSample _ channel _ => decide (channel < 16)
  | .analogInputInvalid _ channel => decide (channel < 16)
  | .analogInputValid _ channel => decide (channel < 16)
  | .analogFillComplete _ channel => decide (channel < 16)
  | .anChannel _ _ channel _ _ => decide (channel < 16)
  | .anCoeffLoad _ _ _ _ _ _ => true
  | .anOutSet _ _ output _ => decide (output < 16)
  | .anOutTimeout _ output => decide (output < 16)
  | .analogReadbackFault _ output => decide (output < 16)
  | .discreteOutputOverload output => decide (output < 8)
  | .discreteOutputRetry output => decide (output < 8)
  | .networkFrameReceived _ port _ _ => decide (port < 4)
  | .prpSupervision _ => true
  | .linkChange _ port _ => decide (port < 4)
  | .nodeForget _ _ => true
  | .incrWrite _ value => decide (value < 2 ^ 32)
  | .stepArm _ => true
  | .stepApply _ => true
  | .slewComplete _ => true
  | .timeSnapshotRead _ => true
  | .timestampCapture _ unit ns => decide (unit < 5 ∧ ns < 2000000)
  | .captureNow _ ns => decide (ns < 2000000)
  | .captureRelease _ unit => decide (unit < 8)
  | .ptpMessageReceived _ lan _ ns => decide (lan < 2 ∧ ns < 2000000)
  | .ptpSyncSend _ lan ns => decide (lan < 2 ∧ ns < 2000000)
  | .foreignMasterAgeOut _ _ => true
  | .sourceQualified _ _ _ => true
  | .holdoverEntry _ => true
  | .freerunEntry _ => true
  | .pulseArm _ generator ns => decide (generator < 2 ∧ ns < 2000000)
  | .pulseEdge _ generator => decide (generator < 2)
  | .pulseWidthEnd _ generator => decide (generator < 2)
  | .timePulse _ _ output _ => decide (output < 4)
  | .openSession _ _ => true
  | .close _ _ => true
  | .keepalive _ _ => true
  | .read _ _ => true
  | .subscribe _ _ => true
  | .sessionTimeout _ _ => true
  | .canvasRequest _ region => decide (region < 5)
  | .canvasTick _ => true
  | .canvasPhaseBoundary => true
  | .canvasRailsIdle => true
  | .canvasRailRetry => true
  | .crackLoopCheck _ => true
  | .canvasTemperatureClear => true
  | .canvasPowerFail => true
  | .canvasStart _ _ => true
  | .canvasRestart _ _ => true
  | .canvasStatusTimeout _ => true
  | .registerWrite _ reg value => reg.wf && decide (value < 2 ^ 32)
  | .filteredLineChange _ channel _ _ _ _ _ _ _ => decide (channel < 24)
  | .sineCosineConversion _ channel _ _ _ => decide (channel < 24)
  | .alarmAcknowledgement _ _ _ _ => true
  | .makerCommand _ op => op.wf
  | .captureValidRead _ unit => decide (unit < 8)
  | .railsRampDown _ => true
  | .calendarOscillatorStop _ => true
  | .muslinSerialLaneFailed _ => true
  | .gnssFrontEndFault _ antenna _ => decide (antenna < 2)
  | .ptpDelayRequest _ lan ns => decide (lan < 2 ∧ ns < 2000000)
  | .muslinTransferReceived _ item => item.wf

end Sys2Proof
end

