-- ==== Sys2Proof/Tests/Slice0.lean ====
section
/-!
SUPPORT. Tests: an ill-formed term for each check of WellFormed; witnesses, a state and operands that meet all hypotheses of
each clause of the statements; effects of commands, the expected values worked out by hand from the rule each test names.
-/

namespace Sys2Proof.Tests

open Sys2Proof Sys2Proof.Machine

set_option maxRecDepth 4000
set_option Elab.async false

/-! ## Ill-formed terms -/

theorem test_wf_ticks : ¬ (Instr.frameTick .a { (default : FrameIn) with acks := [true] }).wf ∧
    ¬ (Instr.frameTick .a { (default : FrameIn) with acks := List.replicate 4 true, test := { (default : TestIn) with vectors := List.replicate 4 none }, unfinished := [0x10000] }).wf ∧
    (Instr.frameTick .a { (default : FrameIn) with acks := List.replicate 4 true, test := { (default : TestIn) with vectors := List.replicate 4 none } }).wf ∧
    ¬ (Instr.microframeTick .a ⟨2 ^ 24, 0, List.replicate 24 none, List.replicate 16 none⟩).wf ∧
    ¬ (Instr.microframeTick .a ⟨0, 2 ^ 16, List.replicate 24 none, List.replicate 16 none⟩).wf ∧
    ¬ (Instr.microframeTick .a ⟨0, 0, [], List.replicate 16 none⟩).wf ∧ ¬ (Instr.microframeTick .a ⟨0, 0, List.replicate 24 none, []⟩).wf ∧
    (Instr.microframeTick .a ⟨0, 0, List.replicate 24 none, List.replicate 16 none⟩).wf := by decide +kernel

theorem test_wf_supply : ¬ (Instr.lanePowerUp .a 0).wf ∧ ¬ (Instr.feedGood .a 3 0).wf ∧ ¬ (Instr.feedLost .a 3 0).wf ∧
    ¬ (Instr.feedLowVoltage .a 0).wf ∧ ¬ (Instr.feedHighVoltage .a 0).wf ∧ ¬ (Instr.bootComplete .a 1001).wf ∧
    ¬ (Instr.startSelfTestComplete .a { (default : StartTest) with faults := [18] }).wf := by decide +kernel

theorem test_wf_redundancy : ¬ (Instr.heartbeatReceived .baize (zeros 63) 0).wf ∧ ¬ (Instr.heartbeatReceived .baize (zeros 64) 32768).wf ∧
    ¬ (Instr.stateCopyReceived .a 4).wf ∧ ¬ (Instr.abdication .a 6).wf ∧ ¬ (Instr.abdicationFrameReceived .baize []).wf ∧
    ¬ (Instr.baizeStatusReceived .a (zeros 15)).wf ∧ ¬ (Instr.baizeBusFrameSeen .a 4).wf ∧ ¬ (Instr.partnerMessageReceived .a []).wf := by
  decide +kernel

theorem test_wf_keys : ¬ (Instr.cellarWriteOpen .a default 0 1 []).wf ∧ ¬ (Instr.keyStoreAdd .a default true 1 3 []).wf ∧
    ¬ (Instr.makerTokenEntry .a 0 [] []).wf ∧ ¬ (Instr.powerClaim .a default 256).wf ∧ ¬ (Instr.makerCommand .a (.keyRegion 0x100000 [0])).wf ∧
    ¬ (Instr.makerCommand .a (.firstInstaller 1 [])).wf ∧ ¬ (Instr.makerCommand .a (.firstSigner 1 [])).wf := by decide +kernel

theorem test_wf_gnss : ¬ (Instr.gnssDump .a 2 []).wf ∧ ¬ (Instr.gnssDump .a 0 [{ (default : DumpObs) with slot := 120 }]).wf ∧
    ¬ (Instr.searchHit .a 2 0 0 0 0 0).wf ∧ ¬ (Instr.slotRelease .a 0 120).wf ∧ ¬ (Instr.antennaBiasFault .a 2).wf ∧
    ¬ (Instr.antennaBiasRetry .a 2).wf ∧ ¬ (Instr.navMessage .a { (default : NavIn) with antenna := 2 }).wf ∧
    ¬ (Instr.navMessage .a { (default : NavIn) with bits := zeros 81 }).wf ∧ ¬ (Instr.untrackedTimeout .a 2).wf ∧
    ¬ (Instr.gnssFrontEndFault .a 2 true).wf := by decide +kernel

theorem test_wf_refs_and_control : ¬ (Instr.referenceLost .a 26).wf ∧ ¬ (Instr.refsSelect .a default 26 true).wf ∧
    ¬ (Instr.refsAccept .a default 26).wf ∧ ¬ (Instr.refsAnchor .a default 26).wf ∧ ¬ (Instr.ctrlTrackPoint .a default 64 default).wf ∧
    ¬ (Instr.engStart .a (2 ^ 32)).wf ∧ ¬ (Instr.allocExclude .a default 24 true).wf ∧ ¬ (Instr.actuatorReentry .a 24).wf ∧
    ¬ (Instr.transitTimeout .a 24).wf := by decide +kernel

theorem test_wf_axes_and_channels : ¬ (Instr.followingErrorFault .a 72).wf ∧ ¬ (Instr.feedbackFreeze .a 72).wf ∧
    ¬ (Instr.feLatchExpiry .a 72).wf ∧ ¬ (Instr.loopReset .a default 72).wf ∧ ¬ (Instr.outLimitTimeout .a 72).wf ∧
    ¬ (Instr.indexEvent .a 24).wf ∧ ¬ (Instr.illegalTransitionFault .a 24).wf ∧ ¬ (Instr.wireDisagree .a 24 0).wf ∧
    ¬ (Instr.amplitudeLoss .a 24).wf ∧ ¬ (Instr.ssiFrameComplete .a 24 0 default).wf ∧ ¬ (Instr.ssiLoss .a 24).wf ∧
    ¬ (Instr.sensorSupplyShort .a 24).wf ∧ ¬ (Instr.sensorSupplyOpen .a 24).wf ∧ ¬ (Instr.sensorSupplyRetry .a 24).wf ∧
    ¬ (Instr.lossClear .a 24).wf ∧ ¬ (Instr.countLatchRead .a 24).wf ∧ ¬ (Instr.fbArm .a default 24).wf ∧ ¬ (Instr.fbClear .a default 24).wf ∧
    ¬ (Instr.filteredLineChange .a 24 0 true true true true true true).wf ∧ ¬ (Instr.sineCosineConversion .a 24 0 0 0).wf := by decide +kernel

theorem test_wf_buses : ¬ (Instr.txbRequest .a 4 0 0).wf ∧ ¬ (Instr.txbCancel .a 0 3 .before).wf ∧ ¬ (Instr.canFrameComplete .a 0 0 2000000).wf ∧
    ¬ (Instr.canTxError .a 8 0 .transmit).wf ∧ ¬ (Instr.busOffRecovery .a 8).wf ∧
    ¬ (Instr.canFrameReceived .a 0 ⟨{ (default : CanFrame) with data := zeros 65 }, 0, 0⟩).wf ∧ ¬ (Instr.fifoPop .a 8).wf ∧
    ¬ (Instr.driveStatusTimeout .a 32).wf ∧ ¬ (Instr.commandLate .a 8 0).wf := by decide +kernel

theorem test_wf_analog_and_network : ¬ (Instr.firSample .a 16 []).wf ∧ ¬ (Instr.analogInputInvalid .a 16).wf ∧ ¬ (Instr.analogInputValid .a 16).wf ∧
    ¬ (Instr.analogFillComplete .a 16).wf ∧ ¬ (Instr.anChannel .a default 16 true true).wf ∧ ¬ (Instr.anOutSet .a default 16 0).wf ∧
    ¬ (Instr.anOutTimeout .a 16).wf ∧ ¬ (Instr.analogReadbackFault .a 16).wf ∧ ¬ (Instr.discreteOutputOverload 8).wf ∧
    ¬ (Instr.discreteOutputRetry 8).wf ∧ ¬ (Instr.networkFrameReceived .a 4 default 0).wf ∧ ¬ (Instr.linkChange .a 4 true).wf := by decide +kernel

theorem test_wf_time : ¬ (Instr.incrWrite .a (2 ^ 32)).wf ∧ ¬ (Instr.timestampCapture .a 5 0).wf ∧ ¬ (Instr.captureNow .a 2000000).wf ∧
    ¬ (Instr.captureRelease .a 8).wf ∧ ¬ (Instr.captureValidRead .a 8).wf ∧ ¬ (Instr.ptpMessageReceived .a 2 .other 0).wf ∧
    ¬ (Instr.ptpSyncSend .a 2 0).wf ∧ ¬ (Instr.ptpDelayRequest .a 2 0).wf ∧ ¬ (Instr.pulseArm .a 2 0).wf ∧ ¬ (Instr.pulseEdge .a 2).wf ∧
    ¬ (Instr.pulseWidthEnd .a 2).wf ∧ ¬ (Instr.timePulse .a default 4 default).wf := by decide +kernel

theorem test_wf_panel_registers_and_muslin : ¬ (Instr.canvasRequest .a 5).wf ∧ ¬ (Instr.registerWrite .a .incrNs (2 ^ 32)).wf ∧
    ¬ (Instr.registerWrite .a (.stamp 8) 0).wf ∧ ¬ (Instr.registerWrite .a (.oneStep 2) 0).wf ∧ ¬ (Instr.registerWrite .a (.pulseCtrl 2) 0).wf ∧
    ¬ (Instr.registerWrite .a (.fbStatus 24) 0).wf ∧ ¬ (Instr.registerWrite .a (.setpoint 72) 0).wf ∧
    ¬ (Instr.registerWrite .a (.problem 0x2180) 0).wf ∧ ¬ (Instr.registerWrite .a (.problem 2) 0).wf ∧
    ¬ (Instr.muslinTransferReceived .a (.fbArm 24)).wf ∧ ¬ (Instr.muslinTransferReceived .a (.anChannel 16 true true)).wf ∧
    ¬ (Instr.muslinTransferReceived .a (.timeTransfer 2000000)).wf ∧ ¬ (Instr.muslinTransferReceived .a (.aiding 256)).wf ∧
    ¬ (Instr.muslinTransferReceived .a (.coeffCrcs [])).wf := by decide +kernel

/-! ## A small pair of lanes, and messages its station signs -/

/-- A session of a station: kind 1 on the control network, 2 on the service port. -/
def wSession (kind rights : Nat) : Session :=
  { (default : Session) with number := 1, kind := kind, rights := rights, keyId := 7, key := zeros 32, address := 9, udpPort := 5 }

def wSes (kind rights : Nat) : SessionState := { (default : SessionState) with sessions := [wSession kind rights] }

/-- An image with one entry in each table the statements speak of. -/
def wImg : Image := { (default : Image) with
  thru := [{ (default : Thru) with kind := 2 }, { (default : Thru) with actuator := 1, kind := 2 }],
  axes := [{ (default : AxisRec) with channel := 0xFF, feTime := 10, freezeTime := 10 }],
  fbch := [{ (default : Fbch) with mode := 2, indexMode := 2, modulus := 360 }],
  refs := [{ (default : RefRec) with refId := 3, kind := 1, format := 0x11, flags := 1, lostTime := 10 }],
  canb := [{ (default : Canb) with flags := 1, filterCount := 1, filters := [⟨2 ^ 31, 0⟩] }],
  anin := [{ (default : Anin) with cicR := 1, firD := 1, coeffSet := 3, altSet := 3, oorSamples := 3, hiLimit := 10 }], anou := [{ (default : Anou) with source := 2, objTimeout := 5 }],
  gain := [default], hash := zeros 32 }

/-- A heartbeat of a lane in a state of its life. -/
def wBeat (l : Lane) (state frame : Nat) : Heartbeat :=
  { (default : Heartbeat) with kind := 1, lane := l.code, state := state, frameNumber := frame, imageHash := zeros 32 }

/-- A lane that runs. -/
def wLane (l : Lane) (st : LaneLife) : LaneState := { LaneState.reset with
  frame := { FrameState.blank with number := 100, ticked := true, adopted := true },
  life := { (default : LifeState) with powered := true, state := st, phase := .done },
  power := { PowerState.blank with feed1 := ⟨true, 2400⟩, feed2 := ⟨true, 2400⟩, regulated := true },
  image := some wImg, eligible := true, ses := wSes 2 0x1FFF, copyNew := some default,
  peer := { PeerView.blank with last := some (wBeat l.other (if l = .a then 1 else 2) 99) } }

/-- Lane A ACTIVE, lane B STANDBY, the Baize serving. -/
def wPair : State := { State.reset with
  laneA := wLane .a .active, laneB := wLane .b .standby,
  baize := { State.reset.baize with powered := true, ready := true, coresAgree := true, active := some .a, contacts := some .a,
                                    viewA := { (default : LaneView) with last := some (wBeat .a 2 99) },
                                    viewB := { (default : LaneView) with last := some (wBeat .b 1 99) } } }

/-- That pair with lane A changed, with lane B changed, with the Baize changed. -/
def wA (f : LaneState → LaneState) : State := wPair.onLane .a f
def wB (f : LaneState → LaneState) : State := wPair.onLane .b f
def wZ (f : BaizeState → BaizeState) : State := wPair.onBaize f

/-- A message of a type, a session and a body, and the same as a datagram signed with the key of the session. -/
def wFrame (type session : Nat) (body : Bytes) : Bytes := datagramHeader type session 7 1 0 .a default body ++ body

def wSigned (kind : Nat) (h : Bytes) : Msg := ⟨h ++ (hmac (zeros 32) h).take 16, kind - 1, 9, 5⟩

/-- A WRITE of an object with an empty value. -/
def wHead (object : Nat) : Bytes := wFrame 0x11 1 (leBytes 2 object ++ leBytes 2 0)

def wMsg (kind object : Nat) : Msg := wSigned kind (wHead object)

/-- What a signed message says is what its head says. -/
theorem wSigned_says {kind : Nat} {type session : Nat} {body : Bytes} :
    parseDatagram (wSigned kind (wFrame type session body)).bytes = parseDatagram (wFrame type session body ++ zeros 16) :=
  parseDatagram_tag (by simp [wFrame, datagramHeader]; omega) (by simp) (by simp [zeros])

/-- The session accepts a signed message. -/
theorem wSigned_enters {s : State} {l : Lane} {kind rights type : Nat} {body : Bytes} (hs : (s.lane l).ses = wSes kind rights) (hk : 1 ≤ kind)
    (hp : parseDatagram (wFrame type 1 body ++ zeros 16) = some ⟨type, 1, 7, 1, body⟩) :
    ∃ ses q, (s.lane l).hearsType (wSigned kind (wFrame type 1 body)) type ses q ⟨type, 1, 7, 1, body⟩ ∧ q.rights = rights := by
  refine ⟨(wSes kind rights).update ((wSession kind rights).accept 1), (wSession kind rights).accept 1, ⟨?_, rfl⟩, rfl⟩
  have h2 : tagOk (zeros 32) (wSigned kind (wFrame type 1 body)).bytes = true := tagOk_signed _ _
  have h3 : (wSigned kind (wFrame type 1 body)).port + 1 = kind := by simp only [wSigned]; omega
  rw [hs, SessionState.enter, wSigned_says, hp]
  have h4 : (wSes kind rights).find 1 = some (wSession kind rights) := rfl
  have h5 : (wSession kind rights).keyId = 7 ∧ (wSigned kind (wFrame type 1 body)).port + 1 = (wSession kind rights).kind ∧
      (wSession kind rights).address = (wSigned kind (wFrame type 1 body)).address ∧
      (wSession kind rights).udpPort = (wSigned kind (wFrame type 1 body)).udpPort ∧ (wSession kind rights).fresh 1 = true ∧
      tagOk (wSession kind rights).key (wSigned kind (wFrame type 1 body)).bytes = true := ⟨rfl, h3, rfl, rfl, rfl, h2⟩
  simp only [h4, h5, and_self, if_true]

/-- The lane takes the WRITE. -/
theorem wMsg_writes {s : State} {l : Lane} {kind rights object : Nat} (hs : (s.lane l).ses = wSes kind rights) (hk : 1 ≤ kind)
    (hp : parseDatagram (wHead object ++ zeros 16) = some ⟨0x11, 1, 7, 1, leBytes 2 object ++ leBytes 2 0⟩)
    (hw : writeItem (leBytes 2 object ++ leBytes 2 0) = some (object, [])) :
    ∃ ses q d, (s.lane l).writes (wMsg kind object) object ses q d [] ∧ q.rights = rights := by
  obtain ⟨ses, q, h, hr⟩ := wSigned_enters hs hk hp
  exact ⟨ses, q, _, ⟨h.1, h.2, hw⟩, hr⟩

/-- The lane accepts that message. -/
theorem wMsg_accepted {s : State} {l : Lane} {kind object right role : Nat} {change : Option (Bytes × Option Bytes)}
    (hs : (s.lane l).ses = wSes kind 0x1FFF) (hk : 1 ≤ kind)
    (hp : parseDatagram (wHead object ++ zeros 16) = some ⟨0x11, 1, 7, 1, leBytes 2 object ++ leBytes 2 0⟩)
    (hw : writeItem (leBytes 2 object ++ leBytes 2 0) = some (object, []))
    (hr : 0x1FFF &&& right = right) (ha : role = 1 → (s.lane l).active = true) (hf : (s.lane l).ledger.failing = false) :
    ∃ u, s.accepts l (wMsg kind object) object right role change u := by
  obtain ⟨ses, q, d, hq, hrights⟩ := wMsg_writes hs hk hp hw
  exact ⟨_, ses, q, d, [], hq, by rw [hrights]; exact hr, ha, hf, rfl⟩

/-! ## Witnesses: the queue, invariants, supply, start, ticks -/

theorem witness_StepRunsFrontCommand : ({ wPair with pending := [.baizeReady, .baizePresentAgain] } : State).pending = .baizeReady :: [.baizePresentAgain] ∧
    wPair.pending = [] := by decide +kernel

/-- A state that steps and meets the invariants. -/
theorem witness_IndicesAndClockStayInRange : State.reset.indicesOk ∧ ∃ t, step { State.reset with pending := [.lanePowerUp .a 1] } = .next t := by
  refine ⟨⟨fun l => ?_, by decide +kernel, by decide +kernel⟩, _, rfl⟩
  cases l <;> (unfold FrameState.inRange ClockState.inBounds; decide +kernel)

theorem witness_TablesStayBounded : State.reset.tablesOk ∧ ∃ t, step { State.reset with pending := [.lanePowerUp .a 1] } = .next t := by
  refine ⟨⟨fun l => ?_, by decide +kernel⟩, _, rfl⟩
  cases l <;> (unfold LaneState.tablesOk; decide +kernel)

theorem witness_LostVotersCommandNothing : wPair.votersOff ∧ ∃ t, step { wPair with pending := [.abdication .a 1] } = .next t := by
  refine ⟨⟨fun l => ?_, by decide +kernel⟩, _, rfl⟩
  cases l <;> decide +kernel

/-- A state with a key in a socket. -/
theorem witness_KeysStayCanonical : ({ wPair with keyA := some ⟨true, [(0, 1)]⟩ } : State).keysOk ∧
    ∃ t, step { wPair with keyA := some ⟨true, [(0, 1)]⟩, pending := [.cellarKeyRemoved .a] } = .next t := by
  refine ⟨fun l k h => ?_, _, rfl⟩
  cases l
  · have : k = ⟨true, [(0, 1)]⟩ := (Option.some.inj h).symm
    subst this; decide +kernel
  · exact nomatch (show (none : Option Key) = some k from h)

theorem witness_OnlyKeyCommandsChangeKeys : ∃ t, exec (.stepArm .a) wPair = .next t := ⟨_, rfl⟩

/-- Lane A with its first, its second, both feeds lost. -/
def wFeed1 : State := wA fun x => { x with power := { x.power with feed1 := ⟨false, 0⟩ } }
def wFeed2 : State := wA fun x => { x with power := { x.power with feed2 := ⟨false, 0⟩ } }
def wDark : State := { (wFeed1.onLane .a fun x => { x with power := { x.power with feed2 := ⟨false, 0⟩ } }).onLane .b fun x =>
  { x with power := { x.power with feed1 := ⟨false, 0⟩, feed2 := ⟨false, 0⟩ } } with canvas := { wPair.canvas with running := true } }

theorem witness_FeedEvents :
    (((wFeed1.lane .a).power.feed 1).good = false ∧ (wFeed1.lane .a).life.powered = true ∧ wFeed1.baize.powered = true) ∧
    (((State.reset.lane .a).power.feed 2).good = false ∧ State.reset.baize.powered = false) ∧
    (((wPair.lane .a).power.feed 1).good = true ∧ ((wPair.lane .a).power.feed (3 - 1)).good = true ∧ (wPair.lane .a).life.powered = true) ∧
    (((wFeed2.lane .a).power.feed 1).good = true ∧ ((wFeed2.lane .a).power.feed (3 - 1)).good = false ∧ (wFeed2.lane .a).life.powered = true ∧
      (wFeed2.lane .a).life.state ≠ .failed) ∧
    ((wDark.lane .a).life.powered = true ∧ (wDark.lane .a).powerFail = true) ∧
    (wDark.baize.powered = true ∧ wDark.laneA.powerFail = true ∧ wDark.laneB.powerFail = true) := by decide +kernel

/-- Lane A in a phase of its start. -/
def wStart (p : StartPhase) : State := wA fun x => { x with life := { x.life with state := .starting, phase := p } }

theorem witness_LanePowersUp :
    let s := State.reset.onLane .a fun x => { x with power := { x.power with feed1 := ⟨true, 2400⟩ } }
    (s.lane .a).life.powered = false ∧ ((s.lane .a).power.feed 1).good = true ∧ (s.lane .b).power.regulated = false := by
  refine ⟨?_, ?_, ?_⟩ <;> decide +kernel

/-- The four sources of module time at a start. -/
theorem witness_BootSeedsTime : ((wStart .boot).lane .a).life.powered = true ∧ ((wStart .boot).lane .a).life.state = .starting ∧
    ((wStart .boot).lane .a).life.phase = .boot ∧
    (let s := (wStart .boot).onLane .b fun x => { x with src := { x.src with quality := .locked } }
     (s.lane .b).frame.ticked = true ∧ ((s.lane .a).muslin.serial0 || (s.lane .a).muslin.serial1) = true ∧ 1 < (s.lane .b).src.quality.code) ∧
    (¬ 1 < ((wStart .boot).lane .b).src.quality.code ∧
      (((wStart .boot).onLane .a fun x => { x with cal := { x.cal with valid := true } }).lane .a).cal.valid = true) ∧
    ((wStart .boot).lane .a).cal.valid = false ∧
    ((wStart .boot).onBaize fun b => { b with cal := { b.cal with valid := true } }).baize.cal.valid = true ∧
    (wStart .boot).baize.cal.valid = false := by
  refine ⟨?_, ?_, ?_, ?_, ?_, ?_, ?_, ?_⟩ <;> decide +kernel

theorem witness_LaneStartsOrFails : ((wStart .key).lane .a).life.state = .starting ∧ ((wStart .key).lane .a).life.phase = .key ∧
    (wStart .key).key .a = none ∧ ((wStart .selfTest).lane .a).life.phase = .selfTest ∧ ((wStart .selfTest).lane .a).frame.ticked = true ∧
    ((wStart .selfTest).lane .a).frame.adopted = true ∧ ((wStart .selfTest).lane .a).imageDiffers = false := by decide +kernel

/-- Lane A before its first tick, alone. -/
def wFirst : State := wA fun x => { x with frame := FrameState.blank, peer := PeerView.blank }

theorem witness_FrameTickAdvances : ((wPair.lane .a).clocked = true ∧ (wPair.lane .a).frame.ticked = true ∧ (wPair.lane .a).frame.adopted = true ∧
    (wPair.lane .a).clock.tickSlew = 0 ∧ (wPair.lane .a).clock.frac < 2 ^ 40 ∧ (wPair.lane .a).clock.ns < 1000000000 ∧
    (wPair.lane .a).clock.s + 1 < 2 ^ 48) ∧
    ((wFirst.lane .a).clocked = true ∧ (wFirst.lane .a).frame.ticked = false ∧ (wFirst.lane .a).hears = false ∧ (wFirst.lane .a).clock.frac = 0) := by
  decide +kernel

theorem witness_MicroframeTickAdvances : (wPair.lane .b).clocked = true ∧ (wPair.lane .b).frame.ticked = true ∧ (wPair.lane .b).active = false ∧
    anouOf (wPair.lane .b).img.anou 1 = none ∧ (wPair.lane .b).frame.micro = 0 ∧
    ((wB fun x => { x with frame := { x.frame with micro := 7 } }).lane .b).frame.micro ≠ 0 ∧
    (wZ fun z => { z with closing := some .b }).baize.closing = some .b := by decide +kernel

/-! ## Witnesses: the Baize -/

/-- The Baize in the frame in which lane A has been silent for the third time and lane B is heard. -/
def wSilent : State := wZ fun b =>
  { b with viewA := { b.viewA with missing := 2 }, viewB := { b.viewB with seenNow := true } }

theorem witness_BaizeCountsAndInhibits :
    (let s := wZ fun b => { b with ready := false }; s.baize.powered = true ∧ s.baize.ready = false) ∧
    (wPair.baize.powered = true ∧ wPair.baize.ready = true ∧ wPair.baize.slot < 19 ∧ (wZ fun b => { b with slot := 19 }).baize.slot = 19) ∧
    10000 ≤ (wZ fun b => { b with sinceReady := 10000 }).baize.sinceReady ∧
    (wPair.refereed = true ∧ wPair.baize.active ≠ some .b ∧ (wPair.baize.view .b).inhibit = false) ∧
    (let s := (wZ fun b => { b with former := some .b }).onLane .a fun x => { x with life := { x.life with sinceActive := 1 } }
     s.refereed = true ∧ s.baize.former = some .b ∧ s.baize.active = some Lane.b.other ∧ (s.lane Lane.b.other).active = true ∧
       1 ≤ (s.lane Lane.b.other).life.sinceActive) := by
  refine ⟨⟨?_, ?_⟩, ?_, ?_, ?_, ⟨?_, ?_, ?_, ?_, ?_⟩⟩ <;> decide +kernel

theorem witness_BaizeReplacesSilentLane :
    (wSilent.baize.powered = true ∧ wSilent.baize.ready = true ∧ wSilent.unrefereed = false ∧ wSilent.baize.active = some .a ∧
      (wSilent.baize.view .a).seenNow = false ∧ 2 ≤ (wSilent.baize.view .a).missing ∧ (wSilent.baize.view .b).seenNow = true ∧
      (wSilent.baize.view .b).last = some (wBeat .b 1 99) ∧ (wSilent.baize.view .b).failed = false ∧ (wBeat .b 1 99).state = 1 ∧
      (wBeat .b 1 99).readiness ≠ 1 ∧ wSilent.baize.homeOnly = false) ∧
    (let s := wZ fun b => { b with viewA := { b.viewA with missing := 2 }, viewB := { b.viewB with missing := 2 } }
     s.baize.powered = true ∧ s.baize.ready = true ∧ (s.baize.view .a).seenNow = false ∧ 2 ≤ (s.baize.view .a).missing ∧
      (s.baize.view .b).seenNow = false ∧ 2 ≤ (s.baize.view .b).missing) := by
  refine ⟨by decide +kernel, ?_, ?_, ?_, ?_, ?_, ?_⟩ <;> decide +kernel

/-- Lane A is home; lane B is ACTIVE and lane A STANDBY. -/
def wAway : State := { wPair with
  laneA := wLane .a .standby, laneB := wLane .b .active,
  baize := { wPair.baize with active := some .b, contacts := some .b, viewA := { (default : LaneView) with last := some (wBeat .a 1 99) } } }

theorem witness_SwitchExchangesLanes :
    (let s := wAway.onBaize fun b => { b with holdoff := some 0 }
     s.home = .a ∧ s.baize.holdoff = some 0 ∧ s.refereed = true ∧ 1000 * (s.lane s.home.other).role.revertHoldoff ≤ 0 ∧
      (s.baize.view s.home).failed = false ∧ (s.baize.view s.home).missing < 3 ∧ s.baize.active = some s.home.other ∧
      (s.baize.view s.home).last = some (wBeat .a 1 99) ∧ (wBeat .a 1 99).state = 1 ∧ s.baize.linkDown = false) ∧
    (let s := ((wZ fun b => { b with switchTo := some .b }).onLane .a fun x => { x with life := { x.life with orderSwitch := true } }).onLane .b
       fun x => { x with life := { x.life with orderSwitch := true } }
     s.refereed = true ∧ s.baize.switchTo = some .b ∧ (s.lane .b).life.orderSwitch = true ∧ (s.lane Lane.b.other).life.orderSwitch = true ∧
      (s.lane Lane.b.other).active = true ∧ (s.lane .b).life.state = .standby ∧ (s.lane .b).imageDiffers = false ∧
      (s.lane Lane.b.other).frame.slot = 0) := by
  refine ⟨⟨?_, ?_, ?_, ?_, ?_, ?_, ?_, ?_, ?_, ?_⟩, ?_, ?_, ?_, ?_, ?_, ?_, ?_, ?_⟩ <;> decide +kernel

/-- Both lanes see the Baize absent. -/
def wAlone : State := (wA fun x => { x with link := { x.link with absent := true, good := 1000 } }).onLane .b fun x =>
  { x with link := { x.link with absent := true, good := 1000 } }

theorem witness_BaizeAbsenceAndReturn :
    (let s := (wA fun x => { x with link := { x.link with missing := 5 } }).onLane .b fun x => { x with link := { x.link with absent := true } }
     (s.lane .a).frame.ticked = true ∧ (s.lane .a).link.lostNow = true ∧ (s.lane .a).link.absent = false ∧ (s.lane .b).link.absent = true) ∧
    (wAlone.baize.powered = true ∧ wAlone.baize.ready = true ∧ wAlone.unrefereed = true ∧ 1000 ≤ wAlone.laneA.link.good ∧ 1000 ≤ wAlone.laneB.link.good) := by
  refine ⟨⟨?_, ?_, ?_, ?_⟩, ?_⟩ <;> decide +kernel

theorem witness_UnrefereedLatch : wAlone.unrefereed = true ∧ (wAlone.lane .a).active = true ∧ (wAlone.lane .b).active = false ∧
    (wAlone.onLane .a fun x => { x with life := { x.life with state := .standby } }).laneA.active = wAlone.laneB.active := by decide +kernel

/-! ## Witnesses: heartbeats, copies, takeover -/

theorem witness_HeartbeatsAreTaken :
    (parseHeartbeat (wBeat .b 1 100).bytes = some (wBeat .b 1 100) ∧ (wBeat .b 1 100).lane = Lane.a.other.code ∧ (wPair.lane .a).life.powered = true ∧
      (wPair.lane .a).muslin.serial0 = true ∧ heartbeatValid (wPair.lane .a).peer.last (wPair.lane .a).peer.missing (wBeat .b 1 100) = true ∧
      (wPair.lane .a).life.state = .active ∧ (wBeat .b 1 100).state ≠ 2) ∧
    (let h := { wBeat .b 2 100 with takeoverSeq := 1 }
     parseHeartbeat h.bytes = some h ∧ heartbeatValid (wPair.lane .a).peer.last (wPair.lane .a).peer.missing h = true ∧ h.state = 2 ∧
      newer 8 h.takeoverSeq (wPair.lane .a).attic.takeoverSeq = true) ∧
    (wPair.baize.powered = true ∧ wPair.baize.ready = true ∧
      heartbeatValid (wPair.baize.view .b).last (wPair.baize.view .b).missing (wBeat .b 1 100) = true) ∧
    parseHeartbeat (zeros 64) = none := by
  refine ⟨by decide +kernel, ⟨?_, ?_, ?_, ?_⟩, by decide +kernel, by decide +kernel⟩ <;> decide +kernel

theorem witness_StateCopyReplacesOlderBuffer :
    (let s := wA fun x => { x with copyOut := some default }
     (s.lane Lane.b.other).copyOut = some default ∧ (s.lane .b).life.powered = true ∧ (s.lane .b).active = false ∧
      (s.lane .b).muslin.serial0 = true) ∧ (1 : Nat) ≠ 0 := by
  refine ⟨⟨?_, ?_, ?_, ?_⟩, by decide⟩ <;> decide +kernel

theorem witness_AbdicationStopsTheLane :
    ((wPair.lane .a).life.powered = true ∧ (wPair.lane .a).life.state ≠ .failed ∧ wPair.causeHolds .a 1 = true) ∧
    (let s := wA fun x => { x with attic := { x.attic with starts := [0, 0, 0] } }
     3 ≤ (s.lane .a).recentStarts.length ∧ (s.lane .a).power.powerUpNext = false) ∧
    (let h := { wBeat .a 3 100 with kind := 2 }
     parseHeartbeat h.bytes = some h ∧ h.lane = Lane.b.other.code ∧ (wPair.lane .b).life.powered = true ∧ (wPair.lane .b).muslin.serial0 = true ∧
      abdicationValid (wPair.lane .b).peer.last (wPair.lane .b).peer.missing h = true ∧ wPair.refereed = true ∧ h.lane = Lane.a.code ∧
      abdicationValid (wPair.baize.view .a).last (wPair.baize.view .a).missing h = true ∧ wPair.baize.active = some .a) := by
  refine ⟨by decide +kernel, ⟨?_, ?_⟩, ?_, ?_, ?_, ?_, ?_, ?_, ?_, ?_, ?_⟩ <;> decide +kernel

theorem witness_StatusOrdersAreObeyed :
    parseStatus (BaizeStatus.bytes ⟨4, 0, 1, 0, 5⟩) = some ⟨4, 0, 1, 0, 5⟩ ∧ parseStatus (BaizeStatus.bytes ⟨4, 0, 2, 0, 5⟩) = some ⟨4, 0, 2, 0, 5⟩ ∧
    (wPair.lane .a).life.powered = true ∧ (wPair.lane .a).link.absent = false ∧ Nat.testBit 4 2 = true ∧ (wPair.lane .a).life.state = .active ∧
    (wPair.lane .b).life.state ≠ .active := by decide +kernel

theorem witness_TakeoverMakesActive :
    (let s := wB fun x => { x with life := { x.life with orderTakeover := true } }
     (s.lane .b).life.state = .standby ∧ (s.lane .b).life.orderTakeover = true ∧ s.unrefereed = false) ∧
    (let s := wAlone.onLane .b fun x =>
       { x with life := { x.life with orderTakeover := true }, peer := { x.peer with missing := 8, crossAge := [8, 8, 8, 0] },
                copyNew := some default }
     s.unrefereed = true ∧ (s.lane .b).life.state = .standby ∧ (s.lane .b).life.orderTakeover = true ∧ (s.lane .b).aloneLong = true ∧
      (s.lane .b).readiness .b ≠ 1) := by
  refine ⟨⟨?_, ?_, ?_⟩, ?_, ?_, ?_, ?_, ?_⟩ <;> decide +kernel

theorem witness_FailedLaneRestarts :
    (let s := wA fun x => { x with life := { x.life with state := .failed } }
     (s.lane .a).life.powered = true ∧ (s.lane .a).life.state = .failed ∧ (s.lane .a).powerFail = false ∧ (s.lane .a).life.latched = false ∧
      (s.lane .a).power.powerUpNext = false) ∧
    (let s := wA fun x => { x with life := { x.life with state := .failed, latched := true } }
     (s.lane .a).life.latched = true ∧ (s.lane .a).power.powerUpNext = false) ∧
    (wA fun x => { x with power := { x.power with powerUpNext := true } }).laneA.power.powerUpNext = true := by
  refine ⟨⟨?_, ?_, ?_, ?_, ?_⟩, ⟨?_, ?_⟩, ?_⟩ <;> decide +kernel

/-! ## Witnesses: partner link, Muslin -/

/-- A module of a DP-3 pair: the main one, or the backup. -/
def wPartner (role : Nat) : State :=
  let f : LaneState → LaneState := fun x => { x with
    image := some { wImg with role := { wImg.role with partnerRole := role, partnerAuto := 1 } },
    partner := { x.partner with missing := 5, lostRun := 5, request := true, requestAge := 5 } }
  (wA f).onLane .b f

theorem witness_PartnerLinkEvents :
    (let m : PartnerMsg := { (default : PartnerMsg) with role := 2, laneStates := [0, 0], pose := zeros 12, velocity := zeros 12, demand := zeros 12, setpoint := zeros 12 }
     parsePartner m.bytes = some m ∧ ((wPartner 1).lane .a).runs = true ∧ ((wPartner 1).lane .a).role.partnerRole ≠ 0 ∧
      ((wPartner 1).lane .a).partner.takes m = true) ∧
    (((wPartner 1).lane .a).partner.request = true ∧ 5 ≤ ((wPartner 1).lane .a).partner.requestAge ∧ ((wPartner 1).lane .a).partner.takePending = false) ∧
    5 ≤ ((wPartner 1).lane .a).partner.missing ∧ 5 ≤ ((wPartner 1).lane .b).partner.missing ∧
    (((wPartner 2).lane .a).active = true ∧ ((wPartner 2).lane .a).role.partnerRole = 2 ∧ ((wPartner 2).lane .a).role.partnerAuto = 1 ∧
      ((wPartner 2).lane .a).partner.inCommand = false ∧ 5 ≤ ((wPartner 2).lane .a).partner.lostRun) ∧
    250 ≤ ((wA fun x => { x with health := { x.health with shadowRun := 250 } }).lane .a).health.shadowRun := by
  refine ⟨⟨?_, ?_, ?_, ?_⟩, ⟨?_, ?_, ?_⟩, ?_, ?_, ⟨?_, ?_, ?_, ?_, ?_⟩, ?_⟩ <;> decide +kernel

theorem witness_MuslinLink :
    (wPair.lane .a).runs = true ∧ (wPair.lane .a).muslin.serial1 = true ∧
    ((wA fun x => { x with muslin := { x.muslin with serial1 := false } }).lane .a).muslin.serial1 = false ∧
    (wPair.lane .a).life.powered = true ∧ (wPair.lane .a).muslin.serial0 = true ∧
    (∃ r, fbRec (wPair.lane .a).img.fbch 0 = some r ∧ r.indexMode = 2) ∧ (nth default (wPair.lane .a).fb.chans 0).armed = false ∧
    (aninOf (wPair.lane .a).img.anin 0).isSome = true ∧ (nth default (wPair.lane .a).stamps 4).valid = false ∧ (wPair.lane .a).stamps.length = 8 ∧
    ([0, 0, 0, 0, 1, 2, 3, 4] : List Nat).drop 4 ≠ (wPair.lane .a).customCrcs.drop 4 := by
  refine ⟨?_, ?_, ?_, ?_, ?_, ⟨_, rfl, ?_⟩, ?_, ?_, ?_, ?_, ?_⟩ <;> decide +kernel

/-! ## Witnesses: WRITE commands -/

/-- The pair with an operator's session in lane A. -/
def wOp : State := wA fun x => { x with ses := wSes 1 0x1FFF }

theorem witness_WritesNeedSessionRightAndActiveLane :
    (∃ o, (Instr.laneSwitch .a default).asks wPair = some o) ∧ (wPair.lane .a).ses.enter default = none ∧
    (∃ ses q d v, (((wA fun x => { x with ses := wSes 2 0x3F }).lane .a).writes (wMsg 2 0x1020) 0x1020 ses q d v) ∧ q.rights &&& 0x200 ≠ 0x200) ∧
    (∃ ses q d v, (((wB fun x => { x with ses := wSes 1 0x3F }).lane .b).writes (wMsg 1 0x2201) 0x2201 ses q d v) ∧ q.rights &&& 1 = 1) ∧
    (wPair.lane .b).active = false := by
  refine ⟨⟨_, rfl⟩, by decide +kernel, ?_, ?_, by decide +kernel⟩
  · obtain ⟨ses, q, d, h, hr⟩ := wMsg_writes (s := wA fun x => { x with ses := wSes 2 0x3F }) (l := .a) (kind := 2) (rights := 0x3F)
      (object := 0x1020) rfl (by decide) (by decide +kernel) (by decide +kernel)
    exact ⟨ses, q, d, [], h, by rw [hr]; decide⟩
  · obtain ⟨ses, q, d, h, hr⟩ := wMsg_writes (s := wB fun x => { x with ses := wSes 1 0x3F }) (l := .b) (kind := 1) (rights := 0x3F)
      (object := 0x2201) rfl (by decide) (by decide +kernel) (by decide +kernel)
    exact ⟨ses, q, d, [], h, by rw [hr]; decide⟩

/-- The state a command leads to. -/
def after (c : Instr) (s : State) : State := match exec c s with | .next t => t | _ => s

/-- A ledger that fails; the change that would go into it (the isolation of lane B, a mode of lane A), a message that is none, a maker. -/
theorem witness_FailingLedgerRefusesInstallerNotOperator :
    ((after (.laneIsolate .b (wMsg 2 0x1021) 1) wPair).lane .b).ledger ≠ (wPair.lane .b).ledger ∧
    ((after (.ctrlGainBank .a (wMsg 1 0x2203) 0) wOp).lane .a).ledger ≠ (wOp.lane .a).ledger ∧
    ((after (.laneIsolate .b default 1) wPair).lane .b).ledger = (wPair.lane .b).ledger ∧
    (let s := wA fun x => { x with ledger := { x.ledger with failing := true }, maker := { x.maker with token := true } }
     (s.lane .a).maker.token = true ∧ s.makerMay .a (.trims []) = true ∧ (s.lane .a).ledger.failing = true) := by
  refine ⟨?_, ?_, ?_, ?_, ?_, ?_⟩ <;> decide +kernel

theorem witness_LaneCommands :
    (wPair.activeLane = some Lane.b.other ∧ wPair.refereed = true ∧ (wPair.lane .b).life.state = .standby ∧ (wPair.lane .b).readiness .b ≠ 1) ∧
    (∃ u, wPair.accepts .a (wMsg 2 0x1020) 0x1020 0x200 2 (some (leBytes 1 0, none)) u) ∧
    (let s := wB fun x => { x with life := { x.life with state := .isolated } }
     (s.lane .b).life.state = .isolated ∧ (s.lane .b).readyButImage = true ∧
      (s.lane .b).img.header.vesselId = (s.lane Lane.b.other).img.header.vesselId ∧ (s.lane .b).imageDiffers = false ∧
      (∃ u, s.accepts .a (wMsg 2 0x1022) 0x1022 0x200 2 (some (leBytes 1 0, none)) u) ∧
      ∃ u, s.accepts .b (wMsg 2 0x1021) 0x1021 0x200 2 (some (leBytes 1 4, none)) u) ∧
    (∃ u, wPair.accepts .b (wMsg 2 0x1021) 0x1021 0x200 2 (some (leBytes 1 1, none)) u) ∧
    ((wPair.lane .b).life.powered = true ∧ (wPair.lane .b).powerFail = false ∧ (wPair.lane .b).active = false) ∧
    (∃ u, wPair.accepts .a (wMsg 2 0x1023) 0x1023 0x200 2 (some (leBytes 1 1, none)) u) := by
  refine ⟨by decide +kernel, ?_, ⟨?_, ?_, ?_, ?_, ?_, ?_⟩, ?_, by decide +kernel, ?_⟩ <;>
    first
    | exact wMsg_accepted rfl (by decide) (by decide +kernel) (by decide +kernel) (by decide) (by decide +kernel) (by decide +kernel)
    | decide +kernel

/-- Lane A with a key in its socket, and that lane with a write to bank 0 under way. -/
def wKeyed : State := { wA fun x => { x with cellar := { x.cellar with keyPresent := true, selected := 0, bank1 := ⟨0, 0, zeros 32⟩ } } with keyA := some ⟨true, []⟩ }

def wWriting (closing : Bool) : State := wKeyed.onLane .a fun x =>
  { x with cellar := { x.cellar with write := some ⟨0, 4, zeros 32, 0, 1, 0, [], [], closing, 0⟩ } }

theorem wMsg_named {kind object : Nat} (hp : parseDatagram (wHead object ++ zeros 16) = some ⟨0x11, 1, 7, 1, leBytes 2 object ++ leBytes 2 0⟩)
    (hw : writeItem (leBytes 2 object ++ leBytes 2 0) = some (object, [])) : namedObject (wMsg kind object) = object := by
  have h1 : parseDatagram (wMsg kind object).bytes = some ⟨0x11, 1, 7, 1, leBytes 2 object ++ leBytes 2 0⟩ := wSigned_says.trans hp
  simp only [namedObject, h1, hw]

/-- The last clause has a witness for a bank that fails; a bank that passes needs a whole signed image, too long a witness.
That its last check can pass, test_signature_and_cipher shows. -/
theorem witness_CellarWriteCommands :
    ((wKeyed.lane .a).cellar.keyPresent = true ∧ (wKeyed.lane .a).cellar.write = none ∧ (wKeyed.lane .a).cellar.running ≠ 0 ∧
      (wKeyed.lane .a).cellar.selected = 0 ∧ ((wKeyed.lane .a).cellar.bank 0).state ≠ 0) ∧
    (∃ u, wKeyed.accepts .a (wMsg 2 0x1310) 0x1310 0x100 2 (some (leBytes 1 3, none)) u) ∧
    ((wMsg 2 0x1311).session = 1 ∧ (wMsg 2 0x1312).session = 1 ∧ (wMsg 2 0x1313).session = 1 ∧ (wWriting false).key .a = some ⟨true, []⟩) ∧
    (∃ u, (wWriting false).accepts .a (wMsg 2 0x1311) 0x1311 0x100 2 none u) ∧
    (∃ u, (wWriting false).accepts .a (wMsg 2 0x1312) 0x1312 0x100 2 none u) ∧
    (∃ u, (wWriting false).accepts .a (wMsg 2 0x1313) 0x1313 0x100 2 none u) ∧
    1000 * ((wWriting false).lane .a).role.writeTimeout ≤ 0 ∧
    ((wWriting true).lane .a).ledger.failing = false ∧
    (((wWriting true).lane .a).verify ((wWriting true).key .a) .x ⟨0, 4, zeros 32, 0, 1, 0, [], [], true, 0⟩).reason ≠ 0 := by
  refine ⟨by decide +kernel, ?_, by decide +kernel, ?_, ?_, ?_, by decide +kernel, by decide +kernel, by decide +kernel⟩ <;>
    exact wMsg_accepted rfl (by decide) (by decide +kernel) (by decide +kernel) (by decide) (by decide +kernel) (by decide +kernel)

theorem witness_FlipsAndSockets :
    (1 ≠ (wKeyed.lane .a).cellar.selected ∧ ((wKeyed.lane .a).cellar.bank 1).state = 0 ∧ wKeyed.key .a = some ⟨true, []⟩ ∧
      (wKeyed.lane .a).ses.find (wMsg 2 0x1314).session = some (wSession 2 0x1FFF)) ∧
    (∃ u, wKeyed.accepts .a (wMsg 2 0x1314) 0x1314 0x100 2 (some (leBytes 1 0, some (leBytes 1 1))) u) ∧
    (∃ u, wKeyed.accepts .a (wMsg 2 0x1314) 0x1314 0x100 2 none u) ∧ cellsWf (Key.mk true [(0, 1)]).cells = true := by
  refine ⟨by decide +kernel, ?_, ?_, by decide +kernel⟩ <;>
    exact wMsg_accepted rfl (by decide) (by decide +kernel) (by decide +kernel) (by decide) (by decide +kernel) (by decide +kernel)

/-- Lane A with two signer keys and two installer keys. -/
def wStore : State := wA fun x => { x with
  attic := { x.attic with signerKeys := [⟨1, zeros 32⟩, ⟨2, zeros 32⟩], sessionKeys := [⟨7, 2, zeros 32⟩, ⟨8, 2, zeros 32⟩] } }

theorem witness_KeyStoreCommands :
    ((zeros 32).length = 32 ∧ ((wStore.lane .a).attic.signerKeys.filter fun k => k.keyId != 9).length < 8 ∧
      ((wStore.lane .a).attic.signerKeys.any fun k => k.keyId == 1) = true ∧ (wStore.lane .a).attic.signerKeys.any (fun k => k.keyId != 1) = true ∧
      ((wStore.lane .a).attic.sessionKeys.any fun k => k.keyId == 7) = true ∧
      (wStore.lane .a).attic.sessionKeys.any (fun k => k.keyId != 7 && k.kind == 2) = true) ∧
    (∃ u, wStore.accepts .a (wMsg 2 0x1300) (namedObject (wMsg 2 0x1300)) 0x1000 2 (some ([], some (leBytes 4 9))) u) ∧
    (∃ u, wStore.accepts .a (wMsg 2 0x1300) (namedObject (wMsg 2 0x1300)) 0x1000 2 (some (leBytes 4 1, some [])) u) ∧
    (∃ u, wStore.accepts .a (wMsg 2 0x1300) (namedObject (wMsg 2 0x1300)) 0x1000 2 (some (leBytes 4 7, some [])) u) := by
  refine ⟨by decide +kernel, ?_, ?_, ?_⟩ <;>
    (rw [wMsg_named (by decide +kernel) (by decide +kernel)]
     exact wMsg_accepted rfl (by decide) (by decide +kernel) (by decide +kernel) (by decide) (by decide +kernel) (by decide +kernel))

/-- That a token is good is a free value of the model: the clause on a good token has no closed witness. -/
theorem witness_MakerCommands : (wPair.lane .a).life.powered = true ∧ (1 : Nat) ≠ wPair.serial ∧
    (wA fun x => { x with cal := { x.cal with s := 28800 } }).laneA.maker.entered + 8 * 3600 * 32768 ≤
      (wA fun x => { x with cal := { x.cal with s := 28800 } }).laneA.cal.ticks ∧
    (let s := wA fun x => { x with maker := { x.maker with token := true } }
     (s.lane .a).maker.token = true ∧ (s.lane .a).ledger.failing = false) ∧ (wPair.lane .a).maker.token = false := by
  refine ⟨?_, ?_, ?_, ⟨?_, ?_⟩, ?_⟩ <;> decide +kernel

theorem witness_ClaimsPartnerAndAcknowledgement :
    (5 ≤ 15 ∧ 5 % 4 ≠ 0 ∧ 5 / 4 ≠ 0) ∧ (∃ u, wPair.accepts .a (wMsg 2 0x1401) 0x1401 0x400 2 (some (leBytes 1 wPair.claims, none)) u) ∧
    (let s := (wPartner 1).onLane .a fun x => { x with ses := wSes 1 0x1FFF }
     (s.lane .a).inCommand = false ∧ ∃ u, s.accepts .a (wMsg 1 0x1031) 0x1031 0x10 1 (some (leBytes 1 0, none)) u) ∧
    (let s := wOp.onLane .a fun x => { x with alarms := [⟨⟨.ln, 1⟩, 0, 0, false, 0⟩] }
     hasAlarm (s.lane .a).alarms ⟨.ln, 1⟩ 0 = true ∧
      ∃ u, s.accepts .a (wMsg 1 0x1001) (namedObject (wMsg 1 0x1001)) 0x8 1 (some ([], some (codeAscii ⟨.ln, 1⟩))) u) := by
  refine ⟨by decide, ?_, ⟨by decide +kernel, ?_⟩, by decide +kernel, ?_⟩
  · exact wMsg_accepted rfl (by decide) (by decide +kernel) (by decide +kernel) (by decide) (by decide +kernel) (by decide +kernel)
  · exact wMsg_accepted rfl (by decide) (by decide +kernel) (by decide +kernel) (by decide) (by decide +kernel) (by decide +kernel)
  · rw [wMsg_named (by decide +kernel) (by decide +kernel)]
    exact wMsg_accepted rfl (by decide) (by decide +kernel) (by decide +kernel) (by decide) (by decide +kernel) (by decide +kernel)

/-- Lane A under way in mode 2, with two waypoints to commit and a mode to change to. -/
def wCtrl : State := wOp.onLane .a fun x => { x with
  image := some { wImg with mode := { (default : ModeRec) with trackSpeedMax := 1, modes := [{ (default : ModeEntry) with mode := 1, enabled := 1 }] } },
  ctrl := { x.ctrl with mode := 2, edit := [some default, some default] }, obs := { x.obs with originSet := true } }

theorem witness_ControlCommands : (wCtrl.lane .a).inCommand = true ∧
    modeRefusal (wCtrl.lane .a).ctrlCtx (wCtrl.lane .a).ctrl 1 = 0 ∧
    (∃ u, wCtrl.accepts .a (wMsg 1 0x2201) 0x2201 (if 1 = 8 ∨ (wCtrl.lane .a).ctrl.mode = 8 then 0x21 else 1) 1
      (some ([BitVec.ofNat 8 (wCtrl.lane .a).ctrl.mode], none)) u) ∧
    ((wCtrl.lane .a).ctrl.mode = 2 ∧ 0 = (wCtrl.lane .a).obs.originGen) ∧
    (∃ u, wCtrl.accepts .a (wMsg 1 0x2202) 0x2202 1 1 (some (tripleBytes (wCtrl.lane .a).ctrl.target, none)) u) ∧
    0 < (wCtrl.lane .a).img.gain.length ∧ (∃ u, wCtrl.accepts .a (wMsg 1 0x2203) 0x2203 4 1 (some ([BitVec.ofNat 8 (wCtrl.lane .a).ctrl.bank], none)) u) ∧
    (∃ u, wCtrl.accepts .a (wMsg 1 0x2204) 0x2204 1 1 none u) ∧
    (∃ u, wCtrl.accepts .a (wMsg 1 0x2205) 0x2205 1 1
      (some (leF32 (wCtrl.lane .a).ctrl.fpCentre.x ++ leF32 (wCtrl.lane .a).ctrl.fpCentre.y ++ leF32 (wCtrl.lane .a).ctrl.fpRadius, none)) u) ∧
    (∃ u, wCtrl.accepts .a (wMsg 1 0x2206) 0x2206 1 1 (some (tripleBytes (wCtrl.lane .a).ctrl.hold, none)) u) ∧
    (1 / 100 ≤ ({ (default : Waypoint) with speed := 1 } : Waypoint).speed ∧ ({ (default : Waypoint) with speed := 1 } : Waypoint).speed ≤ (wCtrl.lane .a).img.mode.trackSpeedMax) ∧
    (∃ u, wCtrl.accepts .a (wMsg 1 0x2210) 0x2210 2 1 (some ([], none)) u) ∧
    ((∀ w ∈ (wCtrl.lane .a).ctrl.edit.take 2, w.isSome = true) ∧ (wCtrl.lane .a).obs.floating = false ∧ (wCtrl.lane .a).obs.originSet = true) ∧
    (∃ u, wCtrl.accepts .a (wMsg 1 0x2211) 0x2211 2 1 (some ([BitVec.ofNat 8 (wCtrl.lane .a).ctrl.committed.length], none)) u) ∧
    (∃ u, wCtrl.accepts .a (wMsg 1 0x2221) 0x2221 2 1 (some (leF32 (wCtrl.lane .a).ctrl.offset.x ++ leF32 (wCtrl.lane .a).ctrl.offset.y, none)) u) := by
  refine ⟨?_, ?_, ?_, ?_, ?_, ?_, ?_, ?_, ?_, ?_, ?_, ?_, ?_, ?_, ?_⟩ <;>
    first
    | exact wMsg_accepted rfl (by decide) (by decide +kernel) (by decide +kernel) (by decide +kernel) (by decide +kernel) (by decide +kernel)
    | decide +kernel

theorem witness_ControlRefusedOutOfCommand :
    let s := (wPartner 2).onLane .a fun x => { x with ses := wSes 1 0x1FFF }
    (Instr.ctrlGainBank .a (wMsg 1 0x2203) 0).asks s = some (.a, wMsg 1 0x2203, 0x2203, 4, 1, true) ∧ (s.lane .a).inCommand = false ∧
    (s.lane .a).active = true ∧ ∃ ses q d v, (s.lane .a).writes (wMsg 1 0x2203) 0x2203 ses q d v ∧ q.rights &&& 4 = 4 := by
  refine ⟨rfl, by decide +kernel, by decide +kernel, ?_⟩
  obtain ⟨ses, q, d, h, hr⟩ := wMsg_writes (s := (wPartner 2).onLane .a fun x => { x with ses := wSes 1 0x1FFF }) (l := .a) (kind := 1)
    (rights := 0x1FFF) (object := 0x2203) rfl (by decide) (by decide +kernel) (by decide +kernel)
  exact ⟨ses, q, d, [], h, by rw [hr]; decide⟩

/-- Lane A with a candidate of each kind offered: a relative position reference 3 and a heading reference 4. -/
def wRefs : State := wOp.onLane .a fun x => { x with
  image := some { wImg with refs := wImg.refs ++ [{ (default : RefRec) with refId := 4, kind := 2, flags := 1 }] },
  refs := { x.refs with offeredPos := true, offeredHdg := true, refs := List.replicate 26 { (default : RefState) with candidate := true } } }

theorem witness_ReferenceCommands :
    (∃ r, (wRefs.lane .a).refRec 3 = some r ∧ r.kind = 1 ∧ r.format = 0x11) ∧ (∃ r, (wRefs.lane .a).refRec 4 = some r ∧ r.kind = 2) ∧
    ((wRefs.lane .a).refs.offeredPos = true ∧ (wRefs.lane .a).refs.offeredHdg = true ∧ (nth default (wRefs.lane .a).refs.refs 3).candidate = true ∧
      (nth default (wRefs.lane .a).refs.refs 4).candidate = true) ∧
    (∃ u, wRefs.accepts .a (wMsg 1 0x4201) 0x4201 1 1
      (some ([BitVec.ofNat 8 3, BitVec.ofNat 8 (b2n (nth default (wRefs.lane .a).refs.refs 3).selected)], none)) u) ∧
    (∃ u, wRefs.accepts .a (wMsg 1 0x4202) 0x4202 1 1 (some ([BitVec.ofNat 8 3], none)) u) ∧
    (∃ u, wRefs.accepts .a (wMsg 1 0x4202) 0x4202 1 1 (some ([BitVec.ofNat 8 4], none)) u) ∧
    (∃ u, wRefs.accepts .a (wMsg 1 0x4203) 0x4203 1 1 (some ([BitVec.ofNat 8 3], none)) u) := by
  refine ⟨⟨_, rfl, ?_, ?_⟩, ⟨_, rfl, ?_⟩, ?_, ?_, ?_, ?_, ?_⟩ <;>
    first
    | exact wMsg_accepted rfl (by decide) (by decide +kernel) (by decide +kernel) (by decide) (by decide +kernel) (by decide +kernel)
    | decide +kernel

/-- Lane A with two working actuators, and a latch pending on axis 0. -/
def wAct : State := wOp.onLane .a fun x => { x with
  alloc := { x.alloc with acts := [{ (default : Act) with mode := .allocated }, { (default : Act) with mode := .allocated }] },
  loop := { x.loop with axes := modNth x.loop.axes 0 fun a => { a with mode := .safe, causes := 8 } } }

theorem witness_ExclusionAndLoopReset :
    (((wAct.lane .a).thru? 0).isSome = true ∧ 0 < (wAct.lane .a).alloc.acts.length ∧
      excludeRefused (wAct.lane .a).allocCtx (wAct.lane .a).alloc 0 = false ∧ ((wAct.lane .a).alloc.act 0).working = true ∧
      ((wAct.onLane .a fun x => { x with alloc := { x.alloc with acts := modNth x.alloc.acts 0 fun a => { a with mode := .unavailable } } }).laneA.alloc.act 0).working = false) ∧
    (∃ u, wAct.accepts .a (wMsg 1 0x3010) 0x3010 1 1 (some ([BitVec.ofNat 8 0, BitVec.ofNat 8 (b2n ((wAct.lane .a).alloc.act 0).exclusion)], none)) u) ∧
    (∃ r, ((wAct.lane .a).img.axes.find? fun r => r.axis == 0) = some r ∧ r.feLatch = 0) ∧ 0 < (wAct.lane .a).loop.axes.length ∧
    hasCause (nth default (wAct.lane .a).loop.axes 0).causes 3 = true ∧ (nth default (wAct.lane .a).loop.axes 0).latchDone = false ∧
    (∃ u, wAct.accepts .a (wMsg 1 0x3410) 0x3410 (if (wMsg 1 0x3410).port == 1 then 0x400 else 1) (if (wMsg 1 0x3410).port == 1 then 2 else 1)
      (some ([BitVec.ofNat 8 0], none)) u) := by
  refine ⟨⟨?_, ?_, ?_, ?_, ?_⟩, ?_, ⟨_, rfl, ?_⟩, ?_, ?_, ?_, ?_⟩ <;>
    first
    | exact wMsg_accepted rfl (by decide) (by decide +kernel) (by decide +kernel) (by decide) (by decide +kernel) (by decide +kernel)
    | decide +kernel

/-- Lane A with a free time output 1. -/
def wComm : State := wA fun x => { x with image := some { wImg with time := { (default : TimeRec) with pulses := List.replicate 4 ⟨2, 0, 100⟩ } } }

theorem witness_CommissioningCommands :
    (∃ r, fbRec (wComm.lane .a).img.fbch 0 = some r ∧ r.indexMode = 2) ∧ 0 < wComm.variant.channels ∧ (wComm.lane .a).muslinFailed = false ∧
    (nth default (wComm.lane .a).fb.chans 0).armed = false ∧
    (∃ u, wComm.accepts .a (wMsg 2 0x5210) 0x5210 0x400 2 (some ([BitVec.ofNat 8 0], none)) u) ∧
    (∃ u, wComm.accepts .a (wMsg 2 0x5211) 0x5211 0x400 2 (some ([BitVec.ofNat 8 0], none)) u) ∧
    (∃ r, aninOf (wComm.lane .a).img.anin 0 = some r ∧ startRefused r (wComm.lane .a).attic.coeffs true = false) ∧
    (∃ u, wComm.accepts .a (wMsg 2 0x5020) 0x5020 0x400 2 (some ((wComm.lane .a).channelBytes 0, none)) u) ∧
    coeffOk 3 [0, 1073741824] = true ∧ (∀ a ∈ (wComm.lane .a).analog.chans, a.running = true → a.set ≠ 4) ∧
    (∃ u, wComm.accepts .a (wMsg 2 0x5021) 0x5021 0x400 2
      (some (leBytes 4 (slotCrc (wComm.lane .a).attic.coeffs 4), some (leBytes 4 (crc32c (coeffBytes 3 1 [0, 1073741824]))))) u) ∧
    (∃ r, anouOf (wComm.lane .a).img.anou 0 = some r ∧ r.source = 2) ∧
    (∃ u, wComm.accepts .a (wMsg 2 0x5030) 0x5030 0x400 2 (some (leF32 ((nth default (wComm.lane .a).analog.outs 0).object.getD 0), none)) u) ∧
    ((wComm.lane .a).pulseRefused .a 1 ⟨1, 0, 1000, 0, 100⟩ = none ∧ (nth default (wComm.lane .a).pulses (1 % 2)).high = false ∧
      (wComm.lane .a).pulses.length = 2 ∧ (wComm.lane .a).clock.total + 1000 ≤ 0 * 1000000000 + 1000) ∧
    (∃ u, wComm.accepts .a (wMsg 2 0x6020) 0x6020 0x400 2 (some (leBytes 1 1 ++ leBytes 1 (nth default (wComm.lane .a).pulses (1 % 2)).actMode ++
        leBytes 8 (nth default (wComm.lane .a).pulses (1 % 2)).actStart, none)) u) ∧
    (∃ u, wComm.accepts .a (wMsg 2 0x1501) 0x1501 0x400 2 (some ([], none)) u) := by
  refine ⟨⟨_, rfl, ?_⟩, ?_, ?_, ?_, ?_, ?_, ⟨_, rfl, ?_⟩, ?_, ?_, ?_, ?_, ⟨_, rfl, ?_⟩, ?_, ?_, ?_, ?_⟩ <;>
    first
    | exact wMsg_accepted rfl (by decide) (by decide +kernel) (by decide +kernel) (by decide) (by decide +kernel) (by decide +kernel)
    | decide +kernel

/-! ## Witnesses: GNSS, references, control, allocation, loop -/

/-- Lane A with every signal enabled, slot 0 of antenna 0 low for 100 dumps and slot 1 in pull-in; both bias faults ripe on its two antennas. -/
def wGnss : State := wA fun x => { x with
  image := some { wImg with gnss := { (default : GnssRec) with systems := 0xFF, bands := 3, antennas := [{ (default : AntennaRec) with enabled := 1 }] } },
  gnss := { x.gnss with
    ant0 := { AntennaState.blank with slots := [{ GnssSlot.idle with state := 2, lowRun := 100 }, { GnssSlot.idle with state := 1 }, GnssSlot.idle],
                                      overRun := 10, untrackedRun := 60 },
    ant1 := { AntennaState.blank with underRun := 10, biasShort := true, offRun := 500 },
    firstFix := true, noSolution := 250, firstHeading := true, noHeading := 250 } }

theorem witness_GnssEvents : (wGnss.lane .a).intake = true ∧
    (1 < ((wGnss.lane .a).gnss.ant 0).slots.length ∧ [({ (default : DumpObs) with slot := 1 } : DumpObs)].find? (fun o => o.slot == 1) =
      some { (default : DumpObs) with slot := 1 } ∧ (nth default ((wGnss.lane .a).gnss.ant 0).slots 1).state ≠ 0 ∧
      (nth default ((wGnss.lane .a).gnss.ant 0).slots 2).state = 0) ∧
    (((wGnss.lane .a).gnss.ant 0).slots.findIdx? (fun t => t.state == 0) = some 2 ∧ (wGnss.lane .a).searches .a 0 1 7 30 = true ∧
      (∀ x ∈ ((wGnss.lane .a).gnss.ant 0).leftOut, x.signal = 1 → x.svid = 7 → x.waiting = false) ∧
      (wGnss.lane .a).searches .a 1 1 7 30 = false ∧ ((wGnss.lane .a).gnss.ant 0).offRun < 500) ∧
    100 ≤ (nth default ((wGnss.lane .a).gnss.ant 0).slots 0).lowRun ∧
    (let u := nth default ((wGnss.lane .a).gnss.ant 0).slots 1
     u.lowRun < 100 ∧ ((wGnss.lane .a).img.gnss.elevationMask : Int) - 2 ≤ u.elevation ∧ signalEnabled (wGnss.lane .a).img.gnss u.signal = true) ∧
    10 ≤ ((wGnss.lane .a).gnss.ant 0).overRun ∧ (((wGnss.lane .a).gnss.ant 1).overRun < 10 ∧ 10 ≤ ((wGnss.lane .a).gnss.ant 1).underRun ∧
      ((wGnss.lane .a).gnss.ant 1).biasShort = true ∧ 500 ≤ ((wGnss.lane .a).gnss.ant 1).offRun) ∧
    ((wPair.lane .a).img.gnss.rtcmSource ≠ 0xFF ∧
      ((wA fun x => { x with image := some { wImg with gnss := { (default : GnssRec) with rtcmSource := 0xFF } } }).lane .a).img.gnss.rtcmSource = 0xFF ∧
      (wGnss.lane .b).gnss.withheld = false ∧ ((wB fun x => { x with gnss := { x.gnss with withheld := true } }).lane .b).gnss.withheld = true) ∧
    (rtcmOk [] = false ∧ rtcmOk [0xD3, 0, 3, 0x3E, 0xD0, 7, 0xE5, 6, 0xE9] = true ∧ rtcmType [0xD3, 0, 3, 0x3E, 0xD0, 7, 0xE5, 6, 0xE9] = 1005) ∧
    (wGnss.lane .a).muslin.serial0 = true ∧ ((wGnss.lane .a).gnss.firstFix = true ∧ 250 ≤ (wGnss.lane .a).gnss.noSolution ∧
      (wGnss.lane .a).gnss.firstHeading = true ∧ 250 ≤ (wGnss.lane .a).gnss.noHeading) ∧ 60 ≤ ((wGnss.lane .a).gnss.ant 0).untrackedRun ∧
    (navStatus 0 false false 0 0 = 1 ∧ navStatus 1 true true 0 0 ≠ 1) := by
  refine ⟨?_, ?_, ⟨?_, ?_, ?_, ?_, ?_⟩, ?_, ⟨?_, ?_, ?_⟩, ?_, ?_, ?_, ?_, ?_, ?_, ?_, ?_⟩ <;> decide +kernel

/-- A sentence that gives the heading 90.0, and a binary frame of a relative reference (06 R178, R179). -/
def wSentence : Bytes := ascii "$GPHDT,90.0,T*0C" ++ [0x0D, 0x0A]
def wFix : Bytes := withCrc ([0xAE, 0x51, 0x11, 0x10, 0, 0, 1, 0, 0xFF, 0xFF, 0xFF, 0xFF] ++ zeros 16)

def wHeadingRef : RefRec := { (default : RefRec) with refId := 4, kind := 2, source := 1, format := 0x03, talker := ascii "GP", flags := 1 }

def wIn : State := wA fun x => { x with
  image := some { wImg with refs := wImg.refs ++ [wHeadingRef], mode := { (default : ModeRec) with targetRef := 0xFF },
                            serp := [{ (default : Serp) with port := 1 }, { (default : Serp) with port := 0, framing := 1 }] },
  refs := { x.refs with refs := modNth x.refs.refs 3 fun r => { r with mode := .accepted, lostFrames := 10 }, predOnlyPos := 250, predOnlyHdg := 250 },
  obs := { x.obs with drPos := true, drPosT := 500, drHdg := true, drHdgT := 500, status := 1 } }

theorem witness_ReferenceEvents : ((wIn.lane .a).intake = true ∧ (wIn.lane .a).framed 1 0 = true ∧ (wIn.lane .a).framed 0 1 = true ∧
      (wIn.lane .a).framed 1 1 = false ∧ (wIn.lane .a).framed 0 0 = false) ∧
    ((∀ p, (wIn.lane .a).refs.ports[1]? = some p → p.fill + wSentence.length ≤ 1024) ∧
      (∀ p, (wIn.lane .a).refs.ports[0]? = some p → p.fill + wFix.length ≤ 1024)) ∧
    (∃ sen v, parseSentence wSentence = some sen ∧ takesSentence wHeadingRef 1 sen = true ∧ sentenceValue wHeadingRef sen = some v) ∧
    ((wIn.lane .a).img.refs.map (·.refId) = [3, 4] ∧ wHeadingRef ∈ (wIn.lane .a).img.refs ∧ wHeadingRef.flags.testBit 0 = true ∧
      wHeadingRef.refId ≠ (wIn.lane .a).img.mode.targetRef ∧ wHeadingRef.refId < (wIn.lane .a).refs.refs.length) ∧
    (parseSentence [0x24] = none ∧ ([0x24] : Bytes) ≠ [] ∧ 1 < (wIn.lane .a).refs.ports.length) ∧
    (binaryOk wFix = true ∧ ∃ r, (wIn.lane .a).img.refs.head? = some r ∧ takesBinary r 0 wFix = true ∧ (binaryValue r wFix).isSome = true ∧
      r.flags.testBit 0 = true ∧ r.refId = 3) ∧
    (∃ r, (wIn.lane .a).refRec 3 = some r ∧ r.lostTime ≤ (nth default (wIn.lane .a).refs.refs 3).lostFrames) ∧
    (nth default (wIn.lane .a).refs.refs 3).mode = .accepted ∧ 250 ≤ (wIn.lane .a).refs.predOnlyPos ∧ 250 ≤ (wIn.lane .a).refs.predOnlyHdg ∧
    ((wIn.lane .a).obs.drPos = true ∧ 50 * (wIn.lane .a).img.vmod.drLimitPos ≤ (wIn.lane .a).obs.drPosT ∧ (wIn.lane .a).ctrl.mode ≤ 2 ∧
      (wIn.lane .a).obs.status ≠ 0 ∧ (wIn.lane .a).obs.limitHdg = false) ∧
    ((wIn.lane .a).obs.drHdg = true ∧ 50 * (wIn.lane .a).img.vmod.drLimitHdg ≤ (wIn.lane .a).obs.drHdgT) := by
  refine ⟨?_, ?_, ⟨(parseSentence wSentence).get (by decide +kernel), (sentenceValue wHeadingRef ((parseSentence wSentence).get (by decide +kernel))).get (by decide +kernel),
    ?_, ?_, ?_⟩, ?_, ?_, ⟨?_, _, rfl, ?_, ?_, ?_, ?_⟩, ⟨_, rfl, ?_⟩, ?_, ?_, ?_, ?_, ?_⟩ <;>
    decide +kernel

/-- Lane A following a track, with a target, a joystick silent, an actuator out of use and one in transit; the engine idle. -/
def wMove (mode : Nat) : State := wA fun x => { x with
  ctrl := { x.ctrl with mode := mode, xteRun := 500, stickAge := some 0 }, obs := { x.obs with status := 1 },
  alloc := { x.alloc with acts := [{ (default : Act) with mode := .unavailable, clearRun := 50 }, { (default : Act) with mode := .ramp, transit := 1 }] } }

theorem witness_ControlAndAllocationEvents :
    (((wMove 1).lane .a).ctrl.stickAge = some 0 ∧ ((wMove 1).lane .a).img.mode.joystickTimeout ≤ 0 ∧ ((wMove 1).lane .a).img.mode.joystickSource = 0 ∧
      ((wMove 1).lane .a).ctrl.mode = 1) ∧
    (((wMove 5).lane .a).ctrl.mode = 5 ∧ 500 ≤ ((wMove 5).lane .a).ctrl.xteRun ∧ ((wMove 5).lane .a).obs.status ≠ 0 ∧
      ((wMove 5).lane .a).obs.limitPos = false ∧ ((wMove 5).lane .a).obs.limitHdg = false) ∧
    (((wMove 6).lane .a).img.mode.targetLostTime ≤ ((wMove 6).lane .a).ctrl.tracker.lostFrames ∧ ((wMove 6).lane .a).ctrl.mode = 6) ∧
    (((wMove 1).lane .a).alloc.eng.run = none ∧
      ((wA fun x => { x with alloc := { x.alloc with problem := { x.alloc.problem with flags := 1 } } }).lane .a).alloc.problem.flags.testBit 0 = true) ∧
    ((wA fun x => { x with alloc := { x.alloc with eng := { x.alloc.eng with run := some (default, []) } } }).lane .a).alloc.eng.run = some (default, []) ∧
    ((∃ r, ((wMove 1).lane .a).thru? 0 = some r ∧ r.kind ≠ 1) ∧ 0 < ((wMove 1).lane .a).alloc.acts.length ∧
      (((wMove 1).lane .a).alloc.act 0).mode = .unavailable ∧ 50 ≤ (((wMove 1).lane .a).alloc.act 0).clearRun ∧
      (((wMove 1).lane .a).alloc.act 0).exclusion = false) ∧
    (1 < ((wMove 1).lane .a).alloc.acts.length ∧ (((wMove 1).lane .a).alloc.act 1).mode = .ramp ∧
      1000 * ((wMove 1).lane .a).img.aloc.transitTimeout < (((wMove 1).lane .a).alloc.act 1).transit) := by
  refine ⟨?_, ?_, ?_, ?_, rfl, ⟨⟨_, rfl, ?_⟩, ?_⟩, ?_⟩ <;> decide +kernel

/-- Lane A with axis 0 in a mode, everything about it ripe. -/
def wAxis (m : AxisMode) (causes : Nat) : State := wA fun x => { x with
  image := some { wImg with axes := [{ (default : AxisRec) with channel := 0xFF, feTime := 10, freezeTime := 10, feLatch := 1 }] },
  loop := { x.loop with axes := modNth x.loop.axes 0 fun a => { a with mode := m, causes := causes, feRun := 80, freezeRun := 80, limitRun := 8000 } } }

theorem witness_LoopEvents :
    (∃ r, (((wAxis .run 0).lane .a).img.axes.find? fun r => r.axis == 0) = some r ∧ 8 * r.feTime ≤ (((wAxis .run 0).lane .a).axis 0).feRun ∧
      8 * r.freezeTime ≤ (((wAxis .run 0).lane .a).axis 0).freezeRun ∧ r.feLatch ≠ 0) ∧
    0 < ((wAxis .run 0).lane .a).loop.axes.length ∧ (((wAxis .run 0).lane .a).axis 0).mode = .run ∧ (((wAxis .safe 8).lane .a).axis 0).mode = .safe ∧
    hasCause (((wAxis .safe 8).lane .a).axis 0).causes 3 = true ∧ (((wAxis .safe 8).lane .a).axis 0).latchLeft = 0 ∧
    8000 ≤ (((wAxis .run 0).lane .a).axis 0).limitRun := by
  refine ⟨⟨_, rfl, ?_, ?_, ?_⟩, ?_, ?_, ?_, ?_, ?_, ?_⟩ <;> decide +kernel

/-! ## Witnesses: feedback, drive buses -/

theorem witness_CountsStayReduced : (1 : Int) ≠ 0 ∧ ({ (default : Fbch) with modulus := 0 } : Fbch).modulus = 0 ∧
    ({ (default : Fbch) with modulus := 360 } : Fbch).modulus ≠ 0 ∧
    ((default : FbChan).index { (default : Fbch) with indexMode := 1, modulus := 360, indexValue := 7 }).1.count ≠ (default : FbChan).count := by
  decide +kernel

/-- Lane A with channel 0 of a mode of measurement and of index, the channel set up. -/
def wChan (r : Fbch) (f : FbChan → FbChan) : State := wA fun x => { x with
  image := some { wImg with fbch := [r] }, fb := { x.fb with chans := modNth x.fb.chans 0 f } }

def wQuad : Fbch := { (default : Fbch) with mode := 2, indexMode := 1, supplyOpenMa := 1 }

theorem witness_FeedbackEvents :
    (fbRec ((wChan wQuad id).lane .a).img.fbch 0 = some wQuad ∧ 0 < ((wChan wQuad id).lane .a).fb.chans.length ∧ wQuad.mode = 2 ∧
      wQuad.flags.testBit 0 = false ∧ (((wChan wQuad id).lane .a).chan 0).loss = false ∧ (((wChan wQuad id).lane .a).chan 0).referenced = false) ∧
    ((grayIndex false true + 4 - grayIndex false false) % 4 = 1 ∧ (grayIndex true false + 4 - grayIndex false false) % 4 = 3 ∧
      (grayIndex true true + 4 - grayIndex false false) % 4 = 2) ∧
    (let r := { (default : Fbch) with mode := 5, ssiBits := 8, ssiMiss := 1 }
     let fr : SsiFrame := ⟨7, false, false, true, true, true, true, 0⟩
     fr.valid r none = true ∧ SsiFrame.valid r none default = false ∧ (ssiDiff 8 (fr.position r) 5 ≠ 0) ∧ r.mode = 5 ∧
      r.ssiMiss ≤ (((wChan r fun f => { f with ssiMissRun := 1 }).lane .a).chan 0).ssiMissRun) ∧
    (let r := { (default : Fbch) with mode := 1, ampSamples := 3 }
     r.mode = 1 ∧ r.ampSamples ≤ (((wChan r fun f => { f with ampRun := 3 }).lane .a).chan 0).ampRun) ∧
    ((((wChan wQuad fun f => { f with illegal := [1023, 5, 3, 0] }).lane .a).chan 0).illegal = [1023, 5, 3, 0] ∧ 1023 - 0 < 1024) ∧
    (let s := wChan { (default : Fbch) with mode := 4 } fun f => { f with alike := 1, alikeSince := [7, 0, 0] }
     ((s.lane .a).chan 0).alike.testBit 0 = true ∧ ((s.lane .a).chan 0).alike.testBit 3 = false ∧ nth 0 ((s.lane .a).chan 0).alikeSince 0 + 3 ≤ 10) ∧
    (let s := wChan wQuad fun f => { f with supplyOn := true, shortRun := 80, openRun := 800 }
     ((s.lane .a).chan 0).supplyOn = true ∧ 80 ≤ ((s.lane .a).chan 0).shortRun ∧ wQuad.supplyOpenMa ≠ 0 ∧ 800 ≤ ((s.lane .a).chan 0).openRun) ∧
    (let s := wChan wQuad fun f => { f with loss := true, holds := 32, referenced := true }
     ((s.lane .a).chan 0).holds.testBit 5 = true ∧ ((s.lane .a).chan 0).loss = true ∧ 8 * wQuad.clearTime ≤ ((s.lane .a).chan 0).clearRun ∧
      wQuad.flags.testBit 2 = false ∧ ((s.lane .a).chan 0).referenced = true) ∧
    (let r := { wQuad with flags := 4 }
     r.flags.testBit 2 = true ∧ r.mode ≠ 5 ∧ (((wChan r id).lane .a).chan 0).referenced = false) ∧
    (wQuad.indexMode = 1 ∧ ({ wQuad with indexMode := 2 } : Fbch).indexMode = 2 ∧
      (((wChan wQuad fun f => { f with armed := true }).lane .a).chan 0).armed = true) := by
  refine ⟨?_, ?_, ⟨?_, ?_, ?_, ?_, ?_⟩, ⟨?_, ?_⟩, ?_, ⟨?_, ?_⟩, ⟨?_, ?_, ?_, ?_⟩, ⟨?_, ?_, ?_, ?_, ?_⟩, ⟨?_, ?_, ?_⟩, ?_⟩ <;> decide +kernel

/-- Lane A with bus 0 enabled, its buffer 0 loaded and pending. -/
def wBus (f : Bus → Bus) : State :=
  let g := fun (b : Bus) => f { b with enabled := true, bufs := [{ (default : TxBuf) with state := 1, item := some default }, default, default] }
  wA fun x => { x with can := { x.can with buses := modNth x.can.buses 0 g } }

theorem witness_DriveBusTransmits :
    (let b := ((wBus id).lane .a).bus 0
     0 < ((wBus id).lane .a).can.buses.length ∧ b.inhibited = false ∧ 0 < b.bufs.length ∧ (nth default b.bufs 0).item.isSome = true ∧
      (nth default b.bufs 0).state = 1 ∧ b.list = [] ∧ (nth default b.bufs 0).next = none ∧ b.busOff = false ∧ b.offered 0 = some 0 ∧ (default : TxItem).key ≠ laneMarkKey) ∧
    (((wBus fun b => { b with busOff := true }).lane .a).bus 0).busOff = true ∧
    (∃ e ∈ (((wBus fun b => { b with stagings := [(3, 98)] }).lane .a).bus 0).stagings, e.1 = 3 ∧ e.2 + 2 ≤ (wPair.lane .a).frame.number) ∧
    ((wZ fun z => { z with viewA := { z.viewA with inhibit := true } }).baize.view .a).inhibit = true ∧ (wPair.baize.view .a).inhibit = false := by
  refine ⟨⟨?_, ?_, ?_, ?_, ?_, ?_, ?_, ?_, ?_⟩, ?_, ?_, ?_, ?_⟩ <;> decide +kernel

/-- Bus 0 of lane A under the default profile with a filter that passes all, its FIFO of a length. -/
def wRx (n : Nat) : State := (wBus fun b => { b with fifo := List.replicate n default }).onLane .a fun x => { x with
  image := some { wImg with canp := { (default : Canp) with profile := 1, statusTimeout := 5 } },
  can := { x.can with sources := modNth x.can.sources 1 fun r => { r with age := 5 } } }

theorem witness_DriveBusReceives :
    (((wRx 64).lane .a).bus 0).enabled = true ∧ (((wRx 63).lane .a).bus 0).busOff = false ∧
    (let f : CanFrame := { (default : CanFrame) with id := 0x281, data := zeros 16 }
     otherTraffic ((wRx 63).lane .a) .a 0 f = none ∧ f.remote = false ∧ moduleId ((wRx 63).lane .a).img.canp ((wRx 63).lane .a).img.thru 0 f = false ∧
      rxEntry ((wRx 63).lane .a).img.canp ((wRx 63).lane .a).img.thru 0 f = some (1, 16, none) ∧ 1 < ((wRx 63).lane .a).can.sources.length ∧
      3 * 1 + 2 < ((wRx 63).lane .a).can.status.length) ∧
    (let f : CanFrame := { (default : CanFrame) with id := 0x200 }
     otherTraffic ((wRx 63).lane .a) .a 0 f = none ∧ moduleId ((wRx 63).lane .a).img.canp ((wRx 63).lane .a).img.thru 0 f = true) ∧
    (let f : CanFrame := { (default : CanFrame) with id := 0x10, remote := true }
     otherTraffic ((wRx 63).lane .a) .a 0 f = none ∧ f.remote = true) ∧
    (let f : CanFrame := { (default : CanFrame) with id := 0x10 }
     rxEntry ((wRx 63).lane .a).img.canp ((wRx 63).lane .a).img.thru 0 f = none ∧
      (∃ c, canbOf ((wRx 63).lane .a).img.canb 0 = some c ∧ ((c.filters.take c.filterCount).any fun q => q.passes f) = true) ∧
      (((wRx 63).lane .a).bus 0).fifo.length < 64 ∧ 64 ≤ (((wRx 64).lane .a).bus 0).fifo.length) ∧
    (sourceUsed ((wRx 0).lane .a).img.canp ((wRx 0).lane .a).img.thru 1 = true ∧
      sourceTimeout ((wRx 0).lane .a).img.canp 1 ≤ (nth default ((wRx 0).lane .a).can.sources 1).age) := by
  refine ⟨?_, ?_, ⟨?_, ?_, ?_, ?_, ?_, ?_⟩, ⟨?_, ?_⟩, ⟨?_, ?_⟩, ⟨?_, ⟨_, rfl, ?_⟩, ?_, ?_⟩, ?_⟩ <;> decide +kernel

/-! ## Witnesses: safety, analog, network, sessions -/

/-- The Baize with the record of lane A. -/
def wSafe : State := wZ fun z => { z with safe := some { (default : SafeRec) with hash := [1] } }

theorem witness_SafetyEvents : (wPair.lane .b).runs = true ∧
    (let s := wZ fun z => { z with safeFrom := some .b }
     s.baize.powered = true ∧ s.baize.ready = true ∧ s.baize.safe = none ∧ s.baize.safeFrom = some .b ∧ (s.lane .b).image = some wImg ∧
      s.baize.coresAgree = true) ∧
    (wSafe.baize.safe = some { (default : SafeRec) with hash := [1] } ∧ wSafe.baize.active = some .a ∧ (wSafe.lane .a).active = true ∧
      (wSafe.lane .a).image = some wImg ∧ wImg.safe.hash ≠ ({ (default : SafeRec) with hash := [1] } : SafeRec).hash) ∧
    ((wA fun x => { x with voter := { x.voter with baizeDirect := true } }).lane .a).voter.baizeDirect = true := by
  refine ⟨?_, ⟨?_, ?_, ?_, ?_, ?_⟩, ⟨?_, ?_, ?_, ?_, ?_⟩, ?_⟩ <;> decide +kernel

/-- Lane A with analog input 0 and output 0 set up, and with a record of the input. -/
def wIn0 (r : Anin) (f : AnChan → AnChan) : State := wA fun x => { x with
  image := some { wImg with anin := [r] }, analog := { x.analog with chans := modNth x.analog.chans 0 f } }

def wOut0 (f : AnOut → AnOut) : State := wA fun x => { x with analog := { x.analog with outs := modNth x.analog.outs 0 f } }

def wAnin : Anin := { (default : Anin) with cicR := 1, firD := 1, oorSamples := 3, flags := 1, loLimit := -1, hiLimit := 10 }

theorem witness_AnalogEvents :
    (aninOf (wPair.lane .a).img.anin 0 = wImg.anin.head? ∧ 0 < (wPair.lane .a).analog.chans.length ∧
      (((wIn0 { wAnin with flags := 0 } fun c => { c with running := true, set := 3 }).lane .a).input 0).running = true ∧
      (((wIn0 { wAnin with flags := 0 } fun c => { c with running := false, set := 3 }).lane .a).input 0).running = false) ∧
    (let s := wIn0 wAnin fun c => { c with running := true, set := 3, dcest := some 0, cause := 0 }
     ((s.lane .a).input 0).running = true ∧ ((s.lane .a).input 0).dcest = some 0 ∧ ((s.lane .a).input 0).cause = 0 ∧ ((s.lane .a).input 0).oorRun = 0 ∧
      wAnin.flags.testBit 0 = true ∧ wAnin.dcFreeze = 0 ∧
      wAnin.loLimit ≤ sumQ (List.zipWith (· * ·) (slotTaps (s.lane .a).attic.coeffs ((s.lane .a).input 0).set) [1, 2, 1]) ∧
      sumQ (List.zipWith (· * ·) (slotTaps (s.lane .a).attic.coeffs ((s.lane .a).input 0).set) [1, 2, 1]) < wAnin.hiLimit) ∧
    (let s := wIn0 wAnin fun c => { c with cause := 0, oorRun := 3 }
     ((s.lane .a).input 0).cause = 0 ∧ wAnin.oorSamples ≤ ((s.lane .a).input 0).oorRun) ∧
    (let s := wIn0 wAnin fun c => { c with cause := 2 }
     ((s.lane .a).input 0).cause = 2 ∧ 8 * wAnin.clearTime ≤ ((s.lane .a).input 0).goodRun) ∧
    (let s := wIn0 wAnin fun c => { c with cause := 4, fill := 0 }
     ((s.lane .a).input 0).cause = 4 ∧ ((s.lane .a).input 0).fill = 0) ∧
    ((∃ r, anouOf (wPair.lane .a).img.anou 0 = some r ∧ r.source = 2 ∧
        r.objTimeout ≤ (((wOut0 fun o => { o with object := some 1, age := 5 }).lane .a).output 0).age) ∧
      (((wOut0 fun o => { o with object := some 1, age := 5 }).lane .a).output 0).object.isSome = true) ∧
    ((((wOut0 fun o => { o with diffRun := 800 }).lane .a).output 0).diffRun = 800 ∧ (((wOut0 fun o => { o with diffRun := 800 }).lane .a).output 0).complRun ≠ 800 ∧
      (((wOut0 fun o => { o with complRun := 800 }).lane .a).output 0).complRun = 800 ∧ ((wOut0 id).lane .a).active = true) ∧
    (nth false ({ wPair with discreteOut := List.replicate 8 true } : State).discreteOut 3 = true ∧ nth false wPair.overload 3 = false ∧
      nth false ({ wPair with overload := List.replicate 8 true } : State).overload 3 = true ∧ wPair.activeLane = some .a) := by
  refine ⟨?_, ⟨?_, ?_, ?_, ?_, ?_, ?_, ?_, ?_⟩, ⟨?_, ?_⟩, ⟨?_, ?_⟩, ⟨?_, ?_⟩, ⟨⟨_, rfl, ?_, ?_⟩, ?_⟩, ?_, ?_⟩ <;> decide +kernel

/-- Lane A with 100 tokens at every port and a node heard at both LANs. -/
def wNet : State := wA fun x => { x with net := { x.net with
  nodes := [{ (default : NodeEntry) with source := 5, startA := 8, expectA := 9, expectB := 9, ageA := 60000, ageB := 60000 }],
  lanA := { x.net.lanA with tokens := 100 }, service := { x.net.service with tokens := 100 } } }

theorem witness_NetworkEvents :
    (let f : NetFrame := { (default : NetFrame) with length := 101 }
     f.special = false ∧ ((wNet.lane .a).net.port 0).tokens < f.length) ∧
    (let f : NetFrame := { (default : NetFrame) with length := 100 }
     f.special = false ∧ f.length ≤ ((wNet.lane .a).net.port 2).tokens) ∧
    (∃ e, (wNet.lane .a).net.nodes.find? (fun e => e.source == 5) = some e ∧ (e.hear 1 8).2 = true) ∧
    (∀ e ∈ (wNet.lane .a).net.nodes, e.source = 5 → 1000 * (wNet.lane .a).img.netw.nodeForget ≤ e.age) ∧ (wNet.lane .a).net.nodes.length < 256 := by
  refine ⟨⟨?_, ?_⟩, ⟨?_, ?_⟩, ⟨_, rfl, ?_⟩, ?_, ?_⟩ <;> decide +kernel

/-- An OPEN of station 1 on the service port, and lane A with that station and its key. -/
def wOpenBody : Bytes := leBytes 1 1 ++ zeros 19
def wOpen : Msg := wSigned 2 (wFrame 0x01 0 wOpenBody)

def wDesk (n : Nat) : State := wA fun x => { x with
  image := some { wImg with role := { wImg.role with stations := [⟨1, 2, 0x1FFF, 7, 0⟩] } },
  attic := { x.attic with sessionKeys := [⟨7, 2, zeros 32⟩] },
  ses := { (wSes 2 0x1FFF) with sessions := List.replicate n (wSession 2 0x1FFF) } }

theorem witness_SessionMessages :
    ((wDesk 3).lane .a).image.isSome = true ∧ ((wDesk 3).lane .a).life.powered = true ∧
    parseDatagram wOpen.bytes = some ⟨0x01, 0, 7, 1, wOpenBody⟩ ∧ wOpenBody.length = 20 ∧
    ((wDesk 3).lane .a).openStation wOpen ⟨0x01, 0, 7, 1, wOpenBody⟩ = some (⟨1, 2, 0x1FFF, 7, 0⟩, ⟨7, 2, zeros 32⟩) ∧
    ((wDesk 4).lane .a).openStation wOpen ⟨0x01, 0, 7, 1, wOpenBody⟩ = some (⟨1, 2, 0x1FFF, 7, 0⟩, ⟨7, 2, zeros 32⟩) ∧
    ((wDesk 3).lane .a).ses.sessions.length < 4 ∧ 4 ≤ ((wDesk 4).lane .a).ses.sessions.length ∧ parseDatagram [] = none ∧
    (∃ ses q, (wPair.lane .a).hearsType (wSigned 2 (wFrame 0x03 1 [])) 0x03 ses q ⟨0x03, 1, 7, 1, []⟩ ∧ q.rights = 0x1FFF) ∧
    (∃ ses q, (wPair.lane .a).hearsType (wSigned 2 (wFrame 0x04 1 [])) 0x04 ses q ⟨0x04, 1, 7, 1, []⟩ ∧ q.rights = 0x1FFF) ∧
    (∃ ses q, (wPair.lane .a).hearsType (wSigned 2 (wFrame 0x10 1 (1 :: leBytes 2 0x1001 ++ zeros 6))) 0x10 ses q
      ⟨0x10, 1, 7, 1, 1 :: leBytes 2 0x1001 ++ zeros 6⟩ ∧ q.rights = 0x1FFF) ∧
    (fieldN (1 :: leBytes 2 0x1001 ++ zeros 6) 0 1 = 1 ∧ (readItems 1 ((1 :: leBytes 2 0x1001 ++ zeros 6 : Bytes).drop 1)).isSome = true) ∧
    (∃ ses q, (wPair.lane .a).hearsType (wSigned 2 (wFrame 0x20 1 (1 :: leBytes 2 0x1001 ++ [1, 0]))) 0x20 ses q
      ⟨0x20, 1, 7, 1, 1 :: leBytes 2 0x1001 ++ [1, 0]⟩ ∧ q.rights = 0x1FFF) ∧
    (subItems 1 ((1 :: leBytes 2 0x1001 ++ [1, 0] : Bytes).drop 1)).isSome = true ∧
    ((wPair.lane .a).ses.find 1 = some (wSession 2 0x1FFF) ∧ 1000 * (wPair.lane .a).img.netw.sessionTimeout ≤ (wSession 2 0x1FFF).age) ∧
    (((wWriting false).lane .a).ownsWrite 1 = true) := by
  have hp : parseDatagram wOpen.bytes = some ⟨0x01, 0, 7, 1, wOpenBody⟩ := wSigned_says.trans (by decide +kernel)
  have ht : tagOk (zeros 32) wOpen.bytes = true := tagOk_signed _ _
  have ho : ∀ n, ((wDesk n).lane .a).openStation wOpen ⟨0x01, 0, 7, 1, wOpenBody⟩ = some (⟨1, 2, 0x1FFF, 7, 0⟩, ⟨7, 2, zeros 32⟩) := fun n => by
    have h1 : ((wDesk n).lane .a).role.stations = [⟨1, 2, 0x1FFF, 7, 0⟩] := rfl
    have h2 : ((wDesk n).lane .a).attic.sessionKeys = [⟨7, 2, zeros 32⟩] := rfl
    simp [LaneState.openStation, h1, h2, ht, show fieldN wOpenBody 0 1 = 1 from by decide +kernel]
    decide +kernel
  refine ⟨?_, ?_, hp, ?_, ho 3, ho 4, ?_, ?_, ?_, ?_, ?_, ?_, ?_, ?_, ?_, ?_, ?_⟩ <;>
    first
    | exact wSigned_enters rfl (by decide) (by decide +kernel)
    | decide +kernel

/-! ## Witnesses: time, pulses, the panel, registers -/

/-- Lane A with a unit 0 and a unit 5 that hold a stamp. -/
def wStamped : State := wA fun x => { x with stamps := List.replicate 8 { (default : StampUnit) with valid := true } }

theorem witness_ClockAndStamps :
    (let s := wA fun x => { x with clock := { x.clock with stepPending := true, stepS := 1 } }
     (s.lane .a).clock.stepPending = true ∧ 0 ≤ ((s.lane .a).clock.total : Int) + (s.lane .a).clock.stepTotal ∧
      ((s.lane .a).clock.total : Int) + (s.lane .a).clock.stepTotal < 2 ^ 48 * 1000000000) ∧
    (wPair.lane .a).clock.tickOffset = 0 ∧
    (5 < (wPair.lane .a).stamps.length ∧ ((wPair.lane .a).stamp 4).valid = false ∧ ((wPair.lane .a).stamp 5).valid = false ∧
      5 < (wStamped.lane .a).stamps.length ∧ (wStamped.lane .a).stamps.length = 8 ∧ ((wStamped.lane .a).stamp 4).valid = true ∧ ((wStamped.lane .a).stamp 5).valid = true) := by
  refine ⟨⟨?_, ?_, ?_⟩, ?_, ?_⟩ <;> decide +kernel

/-- Lane A with n foreign masters of identity 1, the first selected. -/
def wMasters (n : Nat) : State := wA fun x => { x with
  image := some { wImg with time := { (default : TimeRec) with sourceOrder := [1, 0xFF, 0xFF, 0xFF] } },
  ptp := { x.ptp with masters := List.replicate n { (default : ForeignMaster) with identity := 1, selected := true, age := 10000000 }, isMaster := true } }

theorem witness_PtpAndTimeSources :
    (((wMasters 8).lane .a).ptp.masters.all (fun q => !(q.identity == 2 && q.lan == 0)) = true ∧ 8 ≤ ((wMasters 8).lane .a).ptp.masters.length ∧
      ((wMasters 7).lane .a).ptp.masters.all (fun q => !(q.identity == 2 && q.lan == 0)) = true ∧ ((wMasters 7).lane .a).ptp.masters.length < 8) ∧
    ((wMasters 1).lane .a).ptp.isMaster = true ∧ (((wMasters 1).lane .a).ptp.masters.any fun m => m.selected && m.lan == 0) = true ∧
    ((∃ m ∈ ((wMasters 1).lane .a).ptp.masters, m.identity = 1) ∧
      ∀ m ∈ ((wMasters 1).lane .a).ptp.masters, m.identity = 1 → announceFrames ((wMasters 1).lane .a).img.time ≤ m.age) ∧
    (let s := (wMasters 1).onLane .a fun x => { x with src := { x.src with gnssRun := 10000 } }
     (s.lane .a).src.gnssRun = 10000 ∧ (s.lane .a).order.head? = some .gnss ∧ (s.lane .a).src.source ≠ .gnss ∧ (s.lane .a).clock.stepPending = false) ∧
    (let s := (wMasters 1).onLane .a fun x => { x with src := { x.src with quality := .locked, noneRun := 2000 } }
     (s.lane .a).src.quality = .locked ∧ (s.lane .a).order.contains (s.lane .a).src.source = false ∧ 2000 ≤ (s.lane .a).src.noneRun) ∧
    (let s := wA fun x => { x with src := { x.src with quality := .holdover, estimate := some 10001 } }
     (s.lane .a).src.quality = .holdover ∧ (s.lane .a).src.estimate = some 10001 ∧ 10000 < 10001 + (s.lane .a).src.growth) := by
  refine ⟨?_, ?_, ?_, ?_, ⟨?_, ?_, ?_, ?_⟩, ⟨?_, ?_, ?_⟩, ?_, ?_, ?_⟩ <;> decide +kernel

/-- Lane A with generator 0 set up. -/
def wPulse (f : PulseGen → PulseGen) : State := wA fun x => { x with pulses := modNth x.pulses 0 f, clock := { x.clock with s := 5 } }

theorem witness_PulseGenerators : 0 < ((wPulse id).lane .a).pulses.length ∧
    ((((wPulse fun g => { g with mode := 2 }).lane .a).pulse 0).high = false ∧ (((wPulse fun g => { g with mode := 2 }).lane .a).pulse 0).mode = 2) ∧
    (let s := wPulse fun g => { g with mode := 1, startS := 5, startNs := 999 }
     ((s.lane .a).pulse 0).mode = 1 ∧ ((s.lane .a).pulse 0).startS * 1000000000 + ((s.lane .a).pulse 0).startNs < (s.lane .a).nowNs + 0 + 1000) ∧
    (let s := wPulse fun g => { g with mode := 1, startS := 5, startNs := 1000 }
     (s.lane .a).nowNs + 0 + 1000 ≤ ((s.lane .a).pulse 0).startS * 1000000000 + ((s.lane .a).pulse 0).startNs) ∧
    (((wPulse id).lane .a).pulse 0).mode = 0 ∧ (((wPulse fun g => { g with mode := 3 }).lane .a).pulse 0).mode = 3 ∧
    (let s := wPulse fun g => { g with high := true, running := true, armed := true, newMode := 2 }
     ((s.lane .a).pulse 0).high = true ∧ ((s.lane .a).pulse 0).running = true ∧ ((s.lane .a).pulse 0).armed = true ∧ ((s.lane .a).pulse 0).newMode = 2) ∧
    (let s := wPulse fun g => { g with running := true }
     ((s.lane .a).pulse 0).running = true ∧ ((s.lane .a).pulse 0).high = false ∧ ((s.lane .a).pulse 0).lastFall = none ∧
      ((s.lane .a).pulse 0).armed = false) := by
  refine ⟨?_, ?_, ⟨?_, ?_⟩, ?_, ?_, ?_, ⟨?_, ?_, ?_, ?_⟩, ?_, ?_, ?_, ?_⟩ <;> decide +kernel

/-- The panel running. -/
def wPanel (f : CanvasState → CanvasState) : State :=
  { wPair with canvas := f { wPair.canvas with running := true, rails := .up } }

theorem witness_CanvasEvents :
    (wPair.canvas.running = false ∧ wPair.laneA.power.regulated = true) ∧
    (let s := (wPanel id).onLane .a fun x => { x with canvasOut := [some [1], none, none, none, none] }
     nth none (s.lane .a).canvasOut 0 = some [1] ∧ s.sender = .a ∧ s.canvas.running = true ∧ s.canvas.stopped = 0 ∧ 0 < s.canvas.regions.length) ∧
    (let i : CanvasIn := { (default : CanvasIn) with temperature := 599, railOk := true }
     0 ≤ i.temperature ∧ i.temperature < 600 ∧ i.railOk = true ∧ (wPanel id).canvas.rails = .up) ∧
    ((wPanel fun c => { c with rails := .rising 5 }).canvas.rails = .rising 5 ∧ (wPanel fun c => { c with rails := .falling 0 }).canvas.rails = .falling 0 ∧
      (wPanel fun c => { c with misses := 2 }).canvas.misses = 2 ∧ (default : CanvasIn).railOk = false) ∧
    (wPanel fun c => { c with clearing := some 1 }).canvas.clearing = some 1 ∧
    ((wPanel id).canvas.clearing = none ∧ (wPanel id).canvas.stopped = 0 ∧ (wPanel id).canvas.cold = false ∧ (wPanel id).canvas.regions.length = 5) ∧
    (let s := wPanel fun c => { c with regions := [{ (default : CanvasRegion) with pending := some [] }, { (default : CanvasRegion) with state := 1, phase := 6 }] }
     (nth default s.canvas.regions 0).state ≠ 1 ∧ (nth default s.canvas.regions 0).pending.isSome = true ∧ (nth default s.canvas.regions 1).state = 1 ∧
      (nth default s.canvas.regions 1).balance = 0 ∧ (nth default s.canvas.regions 1).phase < 7) ∧
    ((wPanel id).canvas.work = false ∧ (wPanel id).canvas.idleRails ≤ (wPanel id).canvas.idle) ∧
    (wPanel fun c => { c with rails := .down, retryWait := some 10000 }).canvas.retryWait = some 10000 ∧
    ((wPanel fun c => { c with cold := true, inRange := 60000 }).canvas.cold = true ∧
      60000 ≤ (wPanel fun c => { c with cold := true, inRange := 60000 }).canvas.inRange) ∧
    (wDark.canvas.running = true ∧ wDark.laneA.powerFail = true ∧ wDark.laneB.powerFail = true) ∧
    ((wPair.lane .a).runs = true ∧ 1000 ≤ ((wA fun x => { x with canvasAge := 1000 }).lane .a).canvasAge) := by
  refine ⟨?_, ⟨?_, ?_, ?_, ?_, ?_⟩, ⟨?_, ?_, ?_, ?_⟩, ?_, ?_, ?_, ⟨?_, ?_, ?_, ?_, ?_⟩, ?_, ?_, ?_, ?_, ?_⟩ <;> decide +kernel

theorem witness_RegisterWrites : (wPair.lane .a).life.powered = true ∧ (-1000000000 < signed 32 0xFFFFFFFF ∧ signed 32 0xFFFFFFFF < 1000000000) ∧
    (1 < (wPair.lane .a).oneStep.length ∧ 1 < (wPair.lane .a).pulses.length ∧ 71 < (wPair.lane .a).loop.buffer.length ∧ 7 < (wPair.lane .a).stamps.length) ∧
    ((wA fun x => { x with alloc := { x.alloc with problem := { x.alloc.problem with crcOk := true } } }).lane .a).alloc.problem.crcOk = true ∧
    (-439804651 ≤ signed 32 439804651 ∧ signed 32 439804651 ≤ 439804651) ∧ (fbRec (wPair.lane .a).img.fbch 0).isSome = true ∧
    f32Value (0x3F800000 % 2 ^ 32) = some 1 := by
  refine ⟨?_, ?_, ?_, ?_, ?_, ?_, ?_⟩ <;> decide +kernel

theorem witness_EventsTouchTheirPart : ∃ t, exec (.countLatchRead .a 0) wPair = .next t := ⟨_, rfl⟩

/-! ## Effects -/

/-- CRC-32C of "123456789", the check value of the polynomial 03 names; SHA-256 of "abc" (FIPS 180-4). -/
theorem test_crc_and_digest : crc32c (ascii "123456789") = 0xE3069283 ∧
    (sha256 (ascii "abc")).take 8 = [0xBA, 0x78, 0x16, 0xBF, 0x8F, 0x01, 0xCF, 0xEA] := by decide +kernel

/-- The second test vector of RFC 8032 section 7.1: key and signature of the one-byte message 0x72. -/
def wSigKey : Bytes :=
  [0x3d, 0x40, 0x17, 0xc3, 0xe8, 0x43, 0x89, 0x5a, 0x92, 0xb7, 0x0a, 0xa7, 0x4d, 0x1b, 0x7e, 0xbc, 0x9c, 0x98, 0x2c, 0xcf,
   0x2e, 0xc4, 0x96, 0x8c, 0xc0, 0xcd, 0x55, 0xf1, 0x2a, 0xf4, 0x66, 0x0c]

def wSig : Bytes :=
  [0x92, 0xa0, 0x09, 0xa9, 0xf0, 0xd4, 0xca, 0xb8, 0x72, 0x0e, 0x82, 0x0b, 0x5f, 0x64, 0x25, 0x40, 0xa2, 0xb2, 0x7b, 0x54,
   0x16, 0x50, 0x3f, 0x8f, 0xb3, 0x76, 0x22, 0x23, 0xeb, 0xdb, 0x69, 0xda, 0x08, 0x5a, 0xc1, 0xe4, 0x3e, 0x15, 0x99, 0x6e,
   0x45, 0x8f, 0x36, 0x13, 0xd0, 0xf1, 0x1d, 0x8c, 0x38, 0x7b, 0x2e, 0xae, 0xb4, 0x30, 0x2a, 0xee, 0xb0, 0x0d, 0x29, 0x16,
   0x12, 0xbb, 0x0c, 0x00]

/-- RFC 8032 section 7.1, test 2, and the same signature under another message; the S-box and a column of FIPS 197. -/
theorem test_signature_and_cipher : ed25519Verify wSigKey [0x72] wSig = true ∧ ed25519Verify wSigKey [0x73] wSig = false ∧
    aesSub 0x53 = 0xED ∧ aesInvSub 0xED = 0x53 ∧ aesUnmixColumn [0x8e, 0x4d, 0xa1, 0xbc] = [0xdb, 0x13, 0x53, 0x45] := by decide +kernel

/-- 01 R12, R14: after slot 19 comes slot 0 of the next motion cycle, after motion index 49 comes 0. -/
theorem test_frame_indices_wrap :
    let f := (LaneState.nextTick { wLane .b .standby with frame := { (wLane .b .standby).frame with slot := 19, motion := 49 } }).frame
    (f.slot, f.motion, f.number) = (0, 0, 101) := by decide +kernel

/-- 01 R12: microframe 7 is followed by microframe 0. -/
theorem test_microframe_wraps :
    let s := after (.microframeTick .b ⟨0, 0, List.replicate 24 none, List.replicate 16 none⟩)
      (wB fun x => { x with frame := { x.frame with micro := 7 } })
    (s.lane .b).frame.micro = 0 := by decide +kernel

/-- 02 R54: the takeover sequence is one byte. -/
theorem test_takeover_sequence_wraps :
    let s := after (.takeover .b) (wB fun x =>
      { x with life := { x.life with orderTakeover := true }, attic := { x.attic with takeoverSeq := 255 },
               peer := { x.peer with last := some { wBeat .a 2 99 with takeoverSeq := 255 } } })
    ((s.lane .b).attic.takeoverSeq, (s.lane .b).life.state) = (0, LaneLife.active) := by decide +kernel

/-- 11 R329, R333: a step up from 359 with modulus 360, and one down from 0; both lines at once count nothing. -/
theorem test_quadrature :
    let at_ := fun (n : Int) (a b : Bool) =>
      ((after (.filteredLineChange .a 0 0 a b false false false false) (wChan { (default : Fbch) with mode := 2, modulus := 360 } fun f => { f with count := n })).lane .a).chan 0
    (at_ 359 false true).count = 0 ∧ (at_ 0 true false).count = 359 ∧ (at_ 7 true true).count = 7 ∧ (at_ 7 true true).phaseErrors = 1 := by decide +kernel

/-- 12 R372: a transmit error raises TEC by 8, and bus-off is entered above 255. -/
theorem test_bus_off :
    let bus := fun (n : Nat) => ((after (.canTxError .a 0 0 .transmit) (wBus fun b => { b with tec := n })).lane .a).bus 0
    (bus 247).busOff = false ∧ (bus 247).tec = 255 ∧ (bus 248).busOff = true := by decide +kernel

/-- 15 R439, R441: a rate of more than 200 ppm is clamped and flagged. -/
theorem test_incr_clamp :
    let c := ((after (.incrWrite .a 0xFF) (wA fun x => { x with clock := { x.clock with incrNs := 8 } })).lane .a).clock
    c.incr = incrHigh ∧ c.incrClamped = true := by decide +kernel

/-- 15 R442: the second event of a unit that holds one sets overrun and leaves the time. -/
theorem test_stamp_overrun :
    let s := after (.timestampCapture .a 1 700) (after (.timestampCapture .a 1 300) wPair)
    ((s.lane .a).stamp 1).ns = 300 ∧ ((s.lane .a).stamp 1).overrun = true := by decide +kernel

/-- 15 R441: TICK_SLEW takes a signed value and is held within 50 ppm. -/
theorem test_tick_slew :
    ((after (.registerWrite .a .tickSlew 0xFFFFFFFF) wPair).lane .a).clock.tickSlew = -1 ∧
    ((after (.registerWrite .a .tickSlew 0x7FFFFFFF) wPair).lane .a).clock.tickSlew = 439804651 := by decide +kernel

/-- 09 R278: ENG_START while a run is under way sets the refusal and starts nothing. -/
theorem test_engine_refuses :
    let s := after (.engStart .a 1) (after (.engStart .a 1) wPair)
    (s.lane .a).alloc.eng.refused = true ∧ (s.lane .a).alloc.eng.state = 1 := by decide +kernel

/-- 06 R178: the sentence $GPHDT,90.0,T gives the heading 90 degrees to the reference it names. -/
theorem test_sentence :
    ((nth default ((after (.sentenceReceived .a 1 wSentence 5000000) wIn).lane .a).refs.refs 4).waiting.map (·.value)) = some (.heading 90 0) := by
  decide +kernel

/-- 14 R413: slot 3 holds the taps 1/4, 1/2, 1/4. -/
theorem test_fir :
    ((after (.firSample .a 0 [4, 8, 4]) (wIn0 { wAnin with flags := 0 } fun c => { c with running := true, set := 3 })).lane .a).input 0 =
      { ((wIn0 { wAnin with flags := 0 } fun c => { c with running := true, set := 3 }).lane .a).input 0 with x := some 6, y := 6 } := by decide +kernel

/-- 02 R40, 13: an abdicating lane is FAILED with its cause and commands no switch. -/
theorem test_abdication :
    let s := after (.abdication .a 1) (wA fun x => { x with voter := { x.voter with cmd := 0xFF } })
    ((s.lane .a).life.state, (s.lane .a).life.cause, (s.lane .a).voter.cmd) = (LaneLife.failed, 1, 0) := by decide +kernel

/-- 17: rails fall from their last step down to off. -/
theorem test_rails :
    (after (.canvasTick { (default : CanvasIn) with temperature := 200, railOk := true }) (wPanel fun c => { c with rails := .rising 5 })).canvas.rails = .up ∧
    (after (.canvasTick { (default : CanvasIn) with temperature := 200, railOk := true }) (wPanel fun c => { c with rails := .falling 0 })).canvas.rails = .down := by
  decide +kernel

/-- The words of the table spell no command: no row gives bits. -/
theorem test_no_word : decodeTableWord 32 0x12345678 = none := by decide

end Sys2Proof.Tests
end

namespace Sys2Proof.Machine

/-!
SUPPORT and settled obligations: FRAME_TICK (O14) and REGISTER_WRITE (O59).
-/

/-! ## What a tick sets, and what its other work leaves

The work of a frame tick goes through every part of a lane. Of the indices and the clock it moves only what `advanceFrame` moves:
each lemma `timing_…` says so of one operation. -/

/-- What a tick sets of a lane: number and indices of the frame, the tick's flags and acknowledgements, and the clock. -/
structure Timing where
  number : Nat
  slot : Nat
  motion : Nat
  micro : Nat
  ticked : Bool
  adopted : Bool
  acks : List Bool
  clock : ClockState

def LaneState.timing (x : LaneState) : Timing :=
  ⟨x.frame.number, x.frame.slot, x.frame.motion, x.frame.micro, x.frame.ticked, x.frame.adopted, x.frame.acks, x.clock⟩

/-! ### Codes, samples and sub-states -/

@[simp] theorem LaneState.timing_alarm (x : LaneState) (op : AlarmOp) (d : Bytes) : (x.alarm op d).timing = x.timing := by
  simp [LaneState.timing]
@[simp] theorem LaneState.timing_codes (x : LaneState) (ops : List AlarmOp) : (x.codes ops).timing = x.timing := by
  simp [LaneState.timing]
@[simp] theorem LaneState.timing_raise (x : LaneState) (c : Code) (i k : Nat) : (x.raise c i k).timing = x.timing := x.timing_alarm _ _
@[simp] theorem LaneState.timing_clear (x : LaneState) (c : Code) (i : Nat) : (x.clear c i).timing = x.timing := x.timing_alarm _ _

/-- A fold keeps what each of its steps keeps. -/
theorem foldl_keeps {α β γ : Type} (f : β → γ) (op : β → α → β) (h : ∀ b a, f (op b a) = f b) (as : List α) (b : β) :
    f (as.foldl op b) = f b := by
  induction as generalizing b with
  | nil => rfl
  | cons a as ih => rw [List.foldl_cons, ih, h]

@[simp] theorem LaneState.timing_withGnss (x : LaneState) (r : GnssState × List AlarmOp) : (x.withGnss r).timing = x.timing :=
  LaneState.timing_codes _ _
@[simp] theorem LaneState.timing_withRefs (x : LaneState) (r : RefsState × List AlarmOp) : (x.withRefs r).timing = x.timing :=
  LaneState.timing_codes _ _
@[simp] theorem LaneState.timing_withObs (x : LaneState) (r : ObserverState × List AlarmOp) : (x.withObs r).timing = x.timing :=
  LaneState.timing_codes _ _
@[simp] theorem LaneState.timing_withCtrl (x : LaneState) (r : ControlState × List AlarmOp) : (x.withCtrl r).timing = x.timing :=
  LaneState.timing_codes _ _
@[simp] theorem LaneState.timing_withAlloc (x : LaneState) (r : AllocState × List AlarmOp) : (x.withAlloc r).timing = x.timing :=
  LaneState.timing_codes _ _
@[simp] theorem LaneState.timing_withVoter (x : LaneState) (r : Voter × List AlarmOp) : (x.withVoter r).timing = x.timing :=
  LaneState.timing_codes _ _

theorem LaneState.timing_samples (x : LaneState) (qs : List (Nat × Nat × Rat)) : (x.samples qs).timing = x.timing :=
  foldl_keeps _ _ (fun y q => by simp only [LaneState.sampleItem]; split <;> rfl) qs x

/-! ### The slices -/

theorem LaneState.timing_offerInternal (x : LaneState) (l : Lane) : (x.offerInternal l).timing = x.timing :=
  foldl_keeps _ _ (fun y r => by split <;> rfl) x.refRecs x

theorem LaneState.timing_fixFloating (x : LaneState) (l : Lane) : (x.fixFloating l).timing = x.timing := by
  simp only [LaneState.fixFloating]
  split <;> rfl

theorem LaneState.timing_refsSlice (x : LaneState) (l : Lane) : (x.refsSlice l).timing = x.timing := by
  simp [LaneState.refsSlice, LaneState.timing_fixFloating, LaneState.timing_offerInternal]

theorem LaneState.timing_judgeEligible (x : LaneState) (l : Lane) : (x.judgeEligible l).timing = x.timing := rfl

theorem LaneState.timing_obsSlice (x : LaneState) (l : Lane) : (x.obsSlice l).timing = x.timing := by
  have h := x.timing_withObs (x.obs.update (x.obsCtx (x.alloc.delivered x.allocCtx)))
  simp only [LaneState.obsSlice, LaneState.timing_judgeEligible]
  split <;> exact h

theorem LaneState.timing_setupSlice (x : LaneState) : x.setupSlice.timing = x.timing := x.timing_withAlloc _

theorem LaneState.timing_checkSlice (x : LaneState) : x.checkSlice.timing = x.timing := by
  have h := x.timing_withAlloc (x.alloc.check x.allocCtx)
  simp only [LaneState.checkSlice]
  split <;> exact h

theorem LaneState.timing_consSlice (x : LaneState) : x.consSlice.timing = x.timing := by
  simp only [LaneState.consSlice]
  split
  · split <;> rfl
  · rfl

theorem LaneState.timing_judgeSlice (x : LaneState) : x.judgeSlice.timing = x.timing := by
  simp only [LaneState.judgeSlice]
  split <;> split
  · exact LaneState.timing_withCtrl _ _
  · rfl
  · exact LaneState.timing_withCtrl _ _
  · rfl

theorem LaneState.timing_larderWrote (x : LaneState) (d : LarderState) : (x.larderWrote d).timing = x.timing := by
  simp only [LaneState.larderWrote]
  split
  · exact LaneState.timing_raise _ _ _ _
  · rfl

theorem LaneState.timing_larderSlice (x : LaneState) (amb : Ambient) : (x.larderSlice amb).timing = x.timing := by
  simp only [LaneState.larderSlice]
  split
  · rfl
  · split
    · exact x.timing_larderWrote _
    · exact (LaneState.timing_larderWrote _ _).trans (x.timing_samples _)

theorem LaneState.timing_healthSlice (x : LaneState) (l : Lane) : (x.healthSlice l).timing = x.timing := by
  simp only [LaneState.healthSlice]
  split
  · rw [LaneState.timing_codes]; rfl
  · rfl

theorem LaneState.timing_abortWrite (x : LaneState) (reason : Nat) : (x.abortWrite reason).timing = x.timing := by
  simp only [LaneState.abortWrite]
  split
  · exact LaneState.timing_raise _ _ _ _
  · rfl

theorem LaneState.timing_endSession (x : LaneState) (n : Nat) : (x.endSession n).timing = x.timing := by
  simp only [LaneState.endSession]
  split
  · exact x.timing_abortWrite _
  · rfl

theorem LaneState.timing_endSpent (x : LaneState) : x.endSpent.timing = x.timing :=
  foldl_keeps _ _ (fun y q => by rw [LaneState.timing_clear, LaneState.timing_endSession]) _ x

theorem LaneState.timing_commsSlice (x : LaneState) (l : Lane) : (x.commsSlice l).timing = x.timing :=
  LaneState.timing_endSpent _

theorem LaneState.timing_abandon (x : LaneState) (id : Nat) : (x.abandon id).timing = x.timing := LaneState.timing_raise _ _ _ _

theorem State.timing_sendContent (s : State) (l : Lane) : ((s.sendContent l).lane l).timing = (s.lane l).timing := by
  simp only [State.sendContent]
  split
  · refine foldl_keeps (fun t : State => (t.lane l).timing) _ (fun t n => ?_) _ s
    rw [State.lane_onLane]
    split <;> rfl
  · rfl

theorem State.timing_telemetrySlice (s : State) (l : Lane) : ((s.telemetrySlice l).lane l).timing = (s.lane l).timing := by
  simp only [State.telemetrySlice, State.lane_tick, State.lane_setLane]
  rfl

/-- No slice moves the indices or the clock (01 R523). -/
theorem State.timing_runSlice (s : State) (l : Lane) (inp : FrameIn) (id : Nat) :
    ((s.runSlice l inp id).lane l).timing = (s.lane l).timing := by
  simp only [State.runSlice]
  split <;> try rw [State.lane_onLane]
  · exact LaneState.timing_withGnss _ _
  · exact LaneState.timing_refsSlice _ _
  · exact LaneState.timing_obsSlice _ _
  · exact LaneState.timing_withCtrl _ _
  · exact s.timing_telemetrySlice l
  · exact LaneState.timing_withObs _ _
  · exact LaneState.timing_setupSlice _
  · exact LaneState.timing_checkSlice _
  · exact LaneState.timing_larderSlice _ _
  · exact LaneState.timing_consSlice _
  · exact LaneState.timing_judgeSlice _
  · exact LaneState.timing_withAlloc _ _
  · exact LaneState.timing_healthSlice _ _
  · exact LaneState.timing_commsSlice _ _
  · rfl
  · split
    · exact s.timing_sendContent l
    · rfl
  · rfl

theorem State.timing_runSlices (s : State) (l : Lane) (inp : FrameIn) : ((s.runSlices l inp).lane l).timing = (s.lane l).timing := by
  simp only [State.runSlices, State.lane_onLane]
  rw [foldl_keeps LaneState.timing _ LaneState.timing_abandon]
  refine foldl_keeps (fun t : State => (t.lane l).timing) _ (fun t id => ?_) _ s
  split
  · rfl
  · rw [State.lane_onLane]
    exact t.timing_runSlice l inp id

/-! ### The frame that ends -/

theorem LaneState.timing_enterFailed (x : LaneState) (cause : Nat) : (x.enterFailed cause).timing = x.timing := by
  have h : x.stopOutputs.timing = x.timing := rfl
  simp only [LaneState.enterFailed, LaneState.judgeLatch]
  split
  · exact (LaneState.timing_raise _ _ _ _).trans ((LaneState.timing_raise _ _ _ _).trans h)
  · exact (LaneState.timing_raise _ _ _ _).trans h

theorem State.timing_fail (s : State) (l : Lane) (cause : Nat) : ((s.fail l cause).lane l).timing = (s.lane l).timing := by
  have h := (s.lane l).timing_enterFailed cause
  simp only [State.fail]
  split
  · rfl
  · split
    · simpa [LaneState.timing] using h
    · simpa using h

theorem State.timing_judgeOverruns (s : State) (l : Lane) : ((s.judgeOverruns l).lane l).timing = (s.lane l).timing := by
  simp only [State.judgeOverruns]
  split
  · rw [State.timing_fail, State.lane_onLane, LaneState.timing_raise]
  · rfl

theorem State.timing_judgeScrub (s : State) (l : Lane) (t : TestIn) : ((s.judgeScrub l t).lane l).timing = (s.lane l).timing := by
  simp only [State.judgeScrub]
  split
  · exact s.timing_fail l 4
  · rfl

/-- What is done for the frame that ends leaves its indices and the clock. -/
theorem State.timing_endFrame (s : State) (l : Lane) (inp : FrameIn) : ((s.endFrame l inp).lane l).timing = (s.lane l).timing := by
  simp only [State.endFrame]
  split
  · rw [State.lane_onLane, LaneState.sampleAxes, LaneState.timing_samples, State.timing_judgeScrub, State.timing_judgeOverruns,
      State.timing_runSlices, State.lane_onLane]
    rfl
  · rfl

/-! ### What follows the indices at a tick -/

theorem LaneState.timing_vote (x : LaneState) (l : Lane) (inp : FrameIn) : (x.vote l inp).timing = x.timing := by
  simp only [LaneState.vote]
  generalize x.voter.evaluate _ = r
  have h := x.timing_withVoter r
  split
  · split
    · rw [LaneState.timing_abandon]
      split <;> exact h
    · split <;> exact h
  · rfl

theorem LaneState.timing_leaveStart (x : LaneState) : x.leaveStart.timing = x.timing := by
  simp only [LaneState.leaveStart]
  split
  · split
    · exact LaneState.timing_raise _ _ _ _
    · rfl
  · rfl

theorem LaneState.timing_judgeLinks (x : LaneState) (l : Lane) : (x.judgeLinks l).timing = x.timing := x.timing_codes _

theorem LaneState.timing_judgeReady (x : LaneState) (l : Lane) : (x.judgeReady l).timing = x.timing := by
  simp only [LaneState.judgeReady]
  split
  · exact x.timing_codes _
  · rfl

/-- Microframe 0 begins as the slices start. -/
theorem LaneState.timing_startSlices (x : LaneState) (late : Bool) : (x.startSlices late).timing = { x.timing with micro := 0 } := rfl

theorem LaneState.timing_compareShadow (x : LaneState) : x.compareShadow.timing = x.timing := by
  simp only [LaneState.compareShadow]
  split
  · split
    · rfl
    · exact LaneState.timing_clear _ _ _
  · exact LaneState.timing_clear _ _ _

theorem LaneState.timing_motionStart (x : LaneState) (l : Lane) : (x.motionStart l).timing = x.timing :=
  LaneState.timing_compareShadow _

theorem LaneState.timing_missionStart (x : LaneState) : x.missionStart.timing = x.timing := by
  simp only [LaneState.missionStart, LaneState.judgePlate, LaneState.timing_codes]
  exact LaneState.timing_codes _ _

/-! ### The module in a DP-3 pair (02 R73 to R77) -/

@[simp] theorem State.timing_onPartner (s : State) (f : PartnerState → PartnerState) (l : Lane) :
    ((s.onPartner f).lane l).timing = (s.lane l).timing := by cases l <;> rfl

/-- Codes given to the lanes that run leave both lanes' timing. -/
@[simp] theorem State.timing_runningCodes (s : State) (ops : List AlarmOp) (l : Lane) :
    ((s.runningCodes ops).lane l).timing = (s.lane l).timing := by
  have h : ∀ x : LaneState, (if x.runs then x.codes ops else x).timing = x.timing := fun x => by
    split
    · exact x.timing_codes ops
    · rfl
  cases l <;> exact h _

@[simp] theorem State.timing_takeCommand (s : State) (m : Lane) (cause : Nat) (forced : Bool) (l : Lane) :
    ((s.takeCommand m cause forced).lane l).timing = (s.lane l).timing := by simp [State.takeCommand]

theorem State.timing_partnerBoundary (s : State) (m l : Lane) : ((s.partnerBoundary m).lane l).timing = (s.lane l).timing := by
  simp only [State.partnerBoundary]
  repeat' split
  all_goals simp

theorem State.timing_sendPartner (s : State) (l : Lane) : ((s.sendPartner l).lane l).timing = (s.lane l).timing := by
  simp only [State.sendPartner, State.lane_onLane, apply_ite (fun t : State => (t.lane l).timing)]
  split <;> rfl

theorem State.timing_beginSlot (s : State) (l : Lane) : ((s.beginSlot l).lane l).timing = (s.lane l).timing := by
  have hm : ((if (s.lane l).frame.slot = 0 ∧ (s.lane l).frame.motion = 0 then s.onLane l LaneState.missionStart else s).lane l).timing =
      (s.lane l).timing := by
    split
    · rw [State.lane_onLane, LaneState.timing_missionStart]
    · rfl
  simp only [State.beginSlot]
  generalize (if (s.lane l).frame.slot = 0 ∧ (s.lane l).frame.motion = 0 then s.onLane l LaneState.missionStart else s) = t at hm ⊢
  rw [← hm]
  split
  · rw [State.timing_partnerBoundary, State.lane_onLane, LaneState.timing_motionStart]
  · split
    · exact t.timing_sendPartner l
    · split
      · rw [State.lane_onLane]; rfl
      · rfl

/-! ### What the lane sends -/

theorem State.timing_reportLost (s : State) (l : Lane) : (s.reportLost.lane l).timing = (s.lane l).timing :=
  s.timing_runningCodes s.lostCodes l

theorem State.timing_sendCopy (s : State) (l : Lane) : ((s.sendCopy l).lane l).timing = (s.lane l).timing := by
  simp only [State.sendCopy]
  split <;> simp only [State.lane_onLane] <;> rfl

theorem State.timing_sendHeartbeat (s : State) (l : Lane) (failed : Bool) : ((s.sendHeartbeat l failed).lane l).timing = (s.lane l).timing := by
  simp only [State.sendHeartbeat]
  split
  · rfl
  · rw [State.lane_setLane]; rfl

/-- The indices and the clock after a tick are those that `advanceFrame` gives them, in microframe 0. -/
theorem State.timing_frameTick (s : State) (l : Lane) (inp : FrameIn) :
    ((s.frameTick l inp).lane l).timing = { (((s.endFrame l inp).advanceFrame l inp).lane l).timing with micro := 0 } := by
  simp only [State.frameTick]
  rw [State.timing_sendHeartbeat, State.timing_sendCopy, State.timing_reportLost, State.lane_onLane, LaneState.timing_startSlices,
    LaneState.timing_judgeReady, LaneState.timing_judgeLinks, LaneState.timing_leaveStart, LaneState.timing_vote, State.timing_beginSlot]

/-! ## Indices and clock of the new frame (00 R8; 01 R14 to R16) -/

@[simp] theorem LaneState.readSupply_frame (x : LaneState) (a : Ambient) : (x.readSupply a).frame = x.frame := LaneState.codes_frame _ _
@[simp] theorem LaneState.readSupply_clock (x : LaneState) (a : Ambient) : (x.readSupply a).clock = x.clock := LaneState.codes_clock _ _
@[simp] theorem LaneState.takeTests_frame (x : LaneState) (t : TestIn) : (x.takeTests t).frame = x.frame := LaneState.codes_frame _ _
@[simp] theorem LaneState.takeTests_clock (x : LaneState) (t : TestIn) : (x.takeTests t).clock = x.clock := LaneState.codes_clock _ _
@[simp] theorem LaneState.age_frame (x : LaneState) : x.age.frame = x.frame := LaneState.codes_frame _ _
@[simp] theorem LaneState.age_clock (x : LaneState) : x.age.clock = x.clock := LaneState.codes_clock _ _
@[simp] theorem LaneState.advanceCalendar_frame (x : LaneState) (ok : Bool) : (x.advanceCalendar ok).frame = x.frame := LaneState.codes_frame _ _
@[simp] theorem LaneState.advanceCalendar_clock (x : LaneState) (ok : Bool) : (x.advanceCalendar ok).clock = x.clock := LaneState.codes_clock _ _
@[simp] theorem LaneState.takeUp_frame (x : LaneState) (off : Int) (adds : Nat) : (x.takeUp off adds).frame = x.frame := LaneState.codes_frame _ _

theorem State.setCalendars_frame (s : State) (l : Lane) (oldS : Nat) : ((s.setCalendars l oldS).lane l).frame = (s.lane l).frame := by
  simp only [State.setCalendars]
  repeat' split
  all_goals simp
theorem State.setCalendars_clock (s : State) (l : Lane) (oldS : Nat) : ((s.setCalendars l oldS).lane l).clock = (s.lane l).clock := by
  simp only [State.setCalendars]
  repeat' split
  all_goals simp

theorem State.takeMeasurement_frame (s : State) (l : Lane) (off : Int) : ((s.takeMeasurement l off).lane l).frame = (s.lane l).frame := by
  simp only [State.takeMeasurement]
  split
  · simp [LaneState.withClock]
  · rfl

theorem State.timeFrame_frame (s : State) (l : Lane) (t : TimeIn) : ((s.timeFrame l t).lane l).frame = (s.lane l).frame := by
  simp only [State.timeFrame]
  split
  · simp [State.takeMeasurement_frame]
  · simp

/-- Without a measured offset the time sources leave the clock. -/
theorem State.timeFrame_clock (s : State) (l : Lane) (t : TimeIn) (h : t.offset = none) :
    ((s.timeFrame l t).lane l).clock = (s.lane l).clock := by
  simp [State.timeFrame, h]

/-- Adopting indices leaves number, flags of the tick and clock, and indices that are adopted. -/
theorem LaneState.adoptIndices_keeps (x : LaneState) :
    x.adoptIndices.frame.number = x.frame.number ∧ x.adoptIndices.frame.ticked = x.frame.ticked ∧ x.adoptIndices.clock = x.clock ∧
    (x.frame.adopted = true → (x.adoptIndices.frame.slot, x.adoptIndices.frame.motion) = (x.frame.slot, x.frame.motion)) := by
  cases h : x.frame.adopted with
  | true => simp [LaneState.adoptIndices, h]
  | false =>
    simp only [LaneState.adoptIndices, h]
    repeat' split
    all_goals simp

/-- The next tick: the number advances, the clock runs to the tick; adopted indices follow. -/
theorem LaneState.nextTick_spec (x : LaneState) :
    x.nextTick.frame.number = (x.frame.number + 1) % 2 ^ 64 ∧ x.nextTick.frame.ticked = x.frame.ticked ∧ x.nextTick.clock = x.clock.frame ∧
    (x.frame.adopted = true → (x.nextTick.frame.slot, x.nextTick.frame.motion) = nextIndex x.frame.slot x.frame.motion) :=
  LaneState.adoptIndices_keeps _

/-- The next indices, one by one. -/
theorem nextIndex_eq (slot motion : Nat) :
    nextIndex slot motion = (if slot = 19 then 0 else slot + 1, if slot = 19 then (motion + 1) % 50 else motion) := by
  simp only [nextIndex]
  split <;> rfl

/-- A clock whose ticks do not slew reads 1 ms more at the next tick. -/
theorem ClockState.frame_total (c : ClockState) (hw : c.tickSlew = 0) (hf : c.frac < 2 ^ 40) (hn : c.ns < 1000000000)
    (hs : c.s + 1 < 2 ^ 48) : c.frame.total = c.total + 1000000 := by
  simp only [ClockState.frame, ClockState.frameAdvance, hw, true_or, if_true, ClockState.at, ClockState.total, nsUnit]
  omega

/-- The next whole millisecond, from a time in units of 2^-40 ns. -/
theorem nextWholeMs_units (t : Nat) : (t * nsUnit + 1000000 * nsUnit - 1) / (1000000 * nsUnit) = (t + 999999) / 1000000 := by
  simp only [nsUnit]
  omega

/-- The first tick of a lane that hears no other: indices of module time, on a whole millisecond. -/
theorem LaneState.firstTick_alone (x : LaneState) (hh : x.hears = false) (hf : x.clock.frac = 0) :
    let ms := (x.clock.total + 999999) / 1000000
    x.firstTick.frame = { x.frame with ticked := true, adopted := true, slot := ms % 1000 % 20, motion := ms % 1000 / 20 % 50 } ∧
    x.firstTick.clock.ns = ms * 1000000 % 1000000000 ∧ x.firstTick.clock.s = ms * 1000000 / 1000000000 % 2 ^ 48 := by
  cases hp : x.peer.last <;> simp [LaneState.firstTick, hp, hh, hf, nextWholeMs_units, ClockState.at]

/-! ## FRAME_TICK -/

/-- `advanceFrame` in a lane that has had its first tick. -/
theorem State.advanceFrame_ticked (s : State) (l : Lane) (inp : FrameIn) (h : (s.lane l).frame.ticked = true) :
    let y := ((s.lane l).advanceCalendar inp.ambient.cellOk).nextTick
    ((s.advanceFrame l inp).lane l).frame = { y.frame with acks := inp.acks, overruns := y.frame.recent } ∧
    (inp.time.offset = none → ((s.advanceFrame l inp).lane l).clock = y.clock) := by
  simp only [State.advanceFrame, h, if_true]
  constructor
  · simp [State.setCalendars_frame, State.timeFrame_frame]
  · intro ht
    simp [State.setCalendars_clock, State.timeFrame_clock _ _ _ ht]

/-- `advanceFrame` at the first tick of a lane. -/
theorem State.advanceFrame_first (s : State) (l : Lane) (inp : FrameIn) (h : (s.lane l).frame.ticked = false) :
    let y := (s.lane l).firstTick
    ((s.advanceFrame l inp).lane l).frame = { y.frame with acks := inp.acks, overruns := y.frame.recent } ∧
    ((s.advanceFrame l inp).lane l).clock = y.clock := by
  simp [State.advanceFrame, h]

theorem exec_frameTick (s : State) (l : Lane) (inp : FrameIn) (h : (s.lane l).clocked = true) :
    exec (.frameTick l inp) s = .next (s.frameTick l inp) := by
  change execFrameTick l inp s = _
  rw [execFrameTick, if_pos h]

/-- The tick of a lane that has its ticks. -/
theorem State.frameTick_ticked (s : State) (l : Lane) (inp : FrameIn) (h : (s.lane l).frame.ticked = true) :
    let f := (s.lane l).frame
    let t := s.frameTick l inp
    let g := (t.lane l).frame
    g.number = (f.number + 1) % 2 ^ 64 ∧ g.micro = 0 ∧ g.ticked = true ∧ g.acks = inp.acks ∧
    (f.adopted = true → (g.slot, g.motion) = nextIndex f.slot f.motion) ∧
    (inp.time.offset = none → (t.lane l).clock = (s.lane l).clock.frame) := by
  have ht := s.timing_frameTick l inp
  have he := s.timing_endFrame l inp
  simp only [LaneState.timing, Timing.mk.injEq] at ht he
  obtain ⟨hn, hs, hm, hmi, hti, -, hac, hc⟩ := ht
  obtain ⟨en, es, em, -, eti, ead, -, ec⟩ := he
  obtain ⟨af, ac⟩ := (s.endFrame l inp).advanceFrame_ticked l inp (eti.trans h)
  obtain ⟨nn, nt, nc, ni⟩ := (((s.endFrame l inp).lane l).advanceCalendar inp.ambient.cellOk).nextTick_spec
  simp only [LaneState.advanceCalendar_frame, LaneState.advanceCalendar_clock, en, es, em, eti, ead, ec] at nn nt nc ni
  simp only [af] at hn hs hm hti hac
  refine ⟨hn.trans nn, hmi, hti.trans (nt.trans h), hac, fun ha => ?_, fun ho => (hc.trans (ac ho)).trans nc⟩
  rw [hs, hm]
  exact ni ha

/-- The first tick of a lane that hears no other. -/
theorem State.frameTick_first (s : State) (l : Lane) (inp : FrameIn) (h : (s.lane l).frame.ticked = false)
    (hh : (s.lane l).hears = false) (hf : (s.lane l).clock.frac = 0) :
    let ms := ((s.lane l).clock.total + 999999) / 1000000
    let t := s.frameTick l inp
    let g := (t.lane l).frame
    g.ticked = true ∧ g.adopted = true ∧ g.number = (s.lane l).frame.number ∧ g.micro = 0 ∧
    g.slot = ms % 1000 % 20 ∧ g.motion = ms % 1000 / 20 ∧
    (t.lane l).clock.ns = ms * 1000000 % 1000000000 ∧ (t.lane l).clock.s = ms * 1000000 / 1000000000 % 2 ^ 48 := by
  have he : s.endFrame l inp = s := by simp [State.endFrame, h]
  have ht := s.timing_frameTick l inp
  rw [he] at ht
  obtain ⟨af, ac⟩ := s.advanceFrame_first l inp h
  obtain ⟨ff, fn, fs⟩ := (s.lane l).firstTick_alone hh hf
  simp only [LaneState.timing, Timing.mk.injEq, af, ac, ff] at ht
  obtain ⟨hn, hs, hm, hmi, hti, had, -, hc⟩ := ht
  refine ⟨hti, had, hn, hmi, hs, ?_, hc ▸ fn, hc ▸ fs⟩
  omega

/-- Settles O14: no work of a tick but `advanceFrame` moves the indices or the clock. -/
theorem frameTickAdvances : Obligations.FrameTickAdvances := by
  unfold Obligations.FrameTickAdvances
  refine ⟨fun s l inp hc ht => ⟨_, exec_frameTick s l inp hc, ?_⟩, fun s l inp hc ht hh hf => ⟨_, exec_frameTick s l inp hc, ?_⟩⟩
  · obtain ⟨hn, hmi, hti, hac, hi, hk⟩ := s.frameTick_ticked l inp ht
    refine ⟨hn, hmi, hti, hac, fun ha => ?_, fun hw ho hf hns hs => ?_⟩
    · exact Prod.mk.inj ((hi ha).trans (nextIndex_eq _ _))
    · rw [hk ho]
      exact ClockState.frame_total _ hw hf hns hs
  · exact s.frameTick_first l inp ht hh hf

/-! ## REGISTER_WRITE, one lemma per table of registers (00 R10, R11; log entry 35) -/

/-- A register of pulse generator `n` is written in that generator alone. -/
theorem LaneState.modNth_pulses (x : LaneState) {n : Nat} (h : n < x.pulses.length) (f : PulseGen → PulseGen) :
    { x with pulses := modNth x.pulses n f } = x.setPulse n (f (x.pulse n)) := by
  rw [modNth_eq_set default _ _ _ h]; rfl

theorem LaneState.modNth_oneStep (x : LaneState) {n : Nat} (h : n < x.oneStep.length) (f : OneStep → OneStep) :
    { x with oneStep := modNth x.oneStep n f } = { x with oneStep := x.oneStep.set n (f (nth default x.oneStep n)) } := by
  rw [modNth_eq_set default _ _ _ h]

/-- An entry of the setpoint buffer is written alone. -/
theorem LaneState.modNth_buffer (x : LaneState) {n : Nat} (h : n < x.loop.buffer.length) (f : SpEntry → SpEntry) :
    { x with loop := { x.loop with buffer := modNth x.loop.buffer n f } } =
      { x with loop := { x.loop with buffer := x.loop.buffer.set n (f (nth default x.loop.buffer n)) } } := by
  rw [modNth_eq_set default _ _ _ h]

theorem LaneState.onStamp_eq_setStamp (x : LaneState) {n : Nat} (h : n < x.stamps.length) (f : StampUnit → StampUnit) :
    x.onStamp n f = x.setStamp n (f (x.stamp n)) := by
  rw [LaneState.onStamp, modNth_eq_set default _ _ _ h]; rfl

/-- A change of a configured feedback channel is a change of its entry alone. -/
theorem FbState.withChan_of_rec {recs : List Fbch} {n : Nat} {r : Fbch} (h : fbRec recs n = some r)
    (f : Fbch → FbChan → FbChan × List AlarmOp) (b : FbState) :
    b.withChan recs n f = ({ b with chans := b.chans.set n (f r (nth default b.chans n)).1 }, (f r (nth default b.chans n)).2) := by
  simp [FbState.withChan, h]

/-- A nanosecond step in its range is taken. -/
theorem stepNsOk_of_range {v : Int} (hl : -1000000000 < v) (hh : v < 1000000000) : stepNsOk v = true := by
  simp [stepNsOk, hl, hh]

/-- A written slew in its range is taken as it is. -/
theorem slewValue_of_range {v : Int} (hl : -439804651 ≤ v) (hh : v ≤ 439804651) : slewValue v = v := by
  simp only [slewValue, slewMax]
  omega

/-- A word of the problem block after which its CRC holds has changed nothing. -/
theorem Problem.write_of_crcOk {p : Problem} {off v : Nat} {q : Rat} (ho : off ≠ 0x2178) (h : (p.write off v q).crcOk = true) :
    p.write off v q = p := by
  simp only [Problem.write, if_neg ho] at h ⊢
  have he := of_decide_eq_true (Bool.and_eq_true_iff.mp h).2
  simp only [he, decide_true, Bool.and_true]

/-- A write to a register of a lane that has its rails. -/
theorem exec_registerWrite {s : State} {l : Lane} (hp : (s.lane l).life.powered = true) (reg : Reg) (v : Nat) :
    exec (.registerWrite l reg v) s = .next (s.tick.onLane l fun x => x.writeReg reg v (Config.freshRat s.fresh)) := by
  change execRegisterWrite l reg v s = _
  rw [execRegisterWrite, if_pos hp]

/-- The same write, by what it makes of the lane. -/
theorem exec_registerWrite_of_eq {s : State} {l : Lane} {reg : Reg} {v : Nat} {f : LaneState → LaneState}
    (hp : (s.lane l).life.powered = true) (h : (s.lane l).writeReg reg v (Config.freshRat s.fresh) = f (s.lane l)) :
    exec (.registerWrite l reg v) s = .next (s.tick.onLane l f) := by
  rw [exec_registerWrite hp]
  exact congrArg _ (State.onLane_congr (by rw [State.lane_tick, h]))

/-- Settles O59: the register's own table is written and nothing else. -/
theorem registerWrites : Obligations.RegisterWrites := by
  unfold Obligations.RegisterWrites
  intro s l v hp
  refine ⟨exec_registerWrite_of_eq hp rfl, exec_registerWrite_of_eq hp rfl, exec_registerWrite_of_eq hp rfl,
    ?stepNs, ?oneStep, ?pulse, ?seq, ?word, exec_registerWrite_of_eq hp rfl, exec_registerWrite_of_eq hp rfl, ?slew, ?stamp, ?width, ?ctrl,
    exec_registerWrite_of_eq hp rfl, exec_registerWrite_of_eq hp rfl, ?status, ?control, ?setpoint⟩
  case stepNs =>
    intro hl hh
    exact exec_registerWrite_of_eq hp (by simp [LaneState.writeReg, ClockState.write, stepNsOk_of_range hl hh])
  case oneStep => exact fun n hn => exec_registerWrite_of_eq hp (LaneState.modNth_oneStep _ hn _)
  case pulse =>
    intro n hn
    refine ⟨?_, ?_, ?_, ?_, ?_⟩ <;> exact exec_registerWrite_of_eq hp (LaneState.modNth_pulses _ hn _)
  case seq => exact fun n hn => exec_registerWrite_of_eq hp (LaneState.modNth_buffer _ hn _)
  case word =>
    refine ⟨_, exec_registerWrite hp _ _, ?_, fun hc => ?_⟩
    · rw [State.lane_onLane]; rfl
    · rw [State.lane_onLane, State.lane_tick] at hc
      refine State.onLane_id ?_
      rw [State.lane_tick, LaneState.writeReg, Problem.write_of_crcOk (by decide) hc]
  case slew =>
    refine ⟨_, exec_registerWrite hp _ _, ?_⟩
    rw [State.lane_onLane]
    exact ⟨(slewValue_bounds _).1, (slewValue_bounds _).2, slewValue_of_range⟩
  case stamp => exact fun n hn => exec_registerWrite_of_eq hp (LaneState.onStamp_eq_setStamp _ hn _)
  case width => exact fun n hn => exec_registerWrite_of_eq hp (LaneState.modNth_pulses _ hn _)
  case ctrl => exact fun n hn => exec_registerWrite_of_eq hp (LaneState.modNth_pulses _ hn _)
  case status =>
    intro n r hr
    refine exec_registerWrite_of_eq hp ?_
    rw [LaneState.writeReg, FbState.withChan_of_rec hr]
    rfl
  case control => exact fun n hn => exec_registerWrite_of_eq hp (LaneState.modNth_buffer _ hn _)
  case setpoint =>
    intro n q hn hq
    refine exec_registerWrite_of_eq hp ((LaneState.modNth_buffer _ hn _).trans ?_)
    simp only [SpEntry.write, hq, Option.getD_some]

end Sys2Proof.Machine

namespace Sys2Proof.Machine

/-!
SUPPORT and settled obligations: what an event leaves unchanged (O60), the ticks' frame (O15, O16), and the indices and the clock
(O3, O4).
-/

/-! ## What an event changes of its lane -/

/-- `f` takes a part of a second lane that neither the active codes nor the Larder belong to. -/
structure TakesPart (f : LaneState → LaneState → LaneState) : Prop where
  self : ∀ x, f x x = x := by intros; rfl
  assoc : ∀ x y z, f (f x y) z = f x z := by intros; rfl
  codes : ∀ x y z, f x (y.codesOf z) = f x y := by intros; rfl
  codesOf : ∀ x y z, f (x.codesOf y) z = (f x z).codesOf y := by intros; rfl
  alarms : ∀ x y, (f x y).alarms = x.alarms := by intros; rfl
  larder : ∀ x y, (f x y).larder = x.larder := by intros; rfl

/-- `y` is `x` but for what `f` takes. -/
def LaneState.changesJust (f : LaneState → LaneState → LaneState) (x y : LaneState) : Prop := y = f x y

/-- `y` is `x` but for what `f` takes, and for the active codes and the Larder. -/
def LaneState.changesOnly (f : LaneState → LaneState → LaneState) (x y : LaneState) : Prop := y = (f x y).codesOf y

namespace LaneState

variable {f g : LaneState → LaneState → LaneState} {x y z : LaneState}

theorem codes_eq_codesOf (x : LaneState) (ops : List AlarmOp) : x.codes ops = x.codesOf (x.codes ops) := x.codes_eq ops

theorem changesJust.refl (hf : TakesPart f) (x : LaneState) : x.changesJust f x := (hf.self x).symm

theorem changesJust.trans (hf : TakesPart f) (h : x.changesJust f y) (k : y.changesJust f z) : x.changesJust f z := by
  unfold changesJust at h k ⊢
  calc z = f y z := k
    _ = f (f x y) z := congrArg (f · z) h
    _ = f x z := hf.assoc x y z

theorem changesJust.ite {c : Prop} [Decidable c] (h : c → x.changesJust f y) (k : ¬c → x.changesJust f z) :
    x.changesJust f (if c then y else z) := by
  split
  · exact h ‹_›
  · exact k ‹_›

/-- A fold changes no more than each of its steps. -/
theorem changesJust.foldl {α : Type} (hf : TakesPart f) (op : LaneState → α → LaneState) (h : ∀ (y : LaneState) a, y.changesJust f (op y a))
    (as : List α) (x : LaneState) : x.changesJust f (as.foldl op x) := by
  induction as generalizing x with
  | nil => exact .refl hf x
  | cons a as ih => exact .trans hf (h x a) (ih _)

/-- What takes more covers what takes less. -/
theorem changesJust.mono (h : x.changesJust f y) (hg : ∀ x y, g x (f x y) = f x y) : x.changesJust g y := by
  unfold changesJust at h ⊢
  calc y = f x y := h
    _ = g x (f x y) := (hg x y).symm
    _ = g x y := congrArg (g x) h.symm

theorem changesOnly.mono (h : x.changesOnly f y) (hc : TakesPart g) (hg : ∀ x y, g x (f x y) = f x y) : x.changesOnly g y := by
  unfold changesOnly at h ⊢
  have e : g x y = f x y := by
    calc g x y = g x ((f x y).codesOf y) := congrArg (g x) h
      _ = f x y := by rw [hc.codes, hg]
  rw [e]
  exact h

theorem changesJust.only (h : x.changesJust f y) : x.changesOnly f y := by
  unfold changesJust changesOnly at *
  rw [← h]; rfl

theorem changesOnly.refl (hf : TakesPart f) (x : LaneState) : x.changesOnly f x := (changesJust.refl hf x).only

theorem changesOnly.trans (hf : TakesPart f) (h : x.changesOnly f y) (k : y.changesOnly f z) : x.changesOnly f z := by
  unfold changesOnly at h k ⊢
  calc z = (f y z).codesOf z := k
    _ = (f ((f x y).codesOf y) z).codesOf z := congrArg (fun w => (f w z).codesOf z) h
    _ = (f x z).codesOf z := by rw [hf.codesOf, hf.assoc]; rfl

theorem changesOnly.codes (hf : TakesPart f) (ops : List AlarmOp) (h : x.changesOnly f y := by exact rfl) :
    x.changesOnly f (y.codes ops) := by
  refine h.trans hf ?_
  unfold changesOnly
  have e := y.codes_eq_codesOf ops
  have k : f y (y.codes ops) = y := by rw [e, hf.codes, hf.self]
  rw [k]
  exact e

theorem changesOnly.raise (hf : TakesPart f) (c : Code) (i k : Nat) (h : x.changesOnly f y := by exact rfl) :
    x.changesOnly f (y.raise c i k) := .codes hf [.raise c i k] h

theorem changesOnly.clear (hf : TakesPart f) (c : Code) (i : Nat) (h : x.changesOnly f y := by exact rfl) :
    x.changesOnly f (y.clear c i) := .codes hf [.clear c i] h

/-- A step that is taken under a condition. -/
theorem changesOnly.ite {c : Prop} [Decidable c] (h : c → x.changesOnly f y) (k : ¬c → x.changesOnly f z) :
    x.changesOnly f (if c then y else z) := by
  split
  · exact h ‹_›
  · exact k ‹_›

end LaneState

theorem State.laneOnly_setLane {s : State} {l : Lane} {f : LaneState → LaneState → LaneState} {y : LaneState}
    (h : (s.lane l).changesOnly f y) : s.laneOnly (s.setLane l y) l f := by
  unfold State.laneOnly
  rw [State.lane_setLane]
  exact congrArg _ h

theorem State.laneOnly_onLane {s : State} {l : Lane} {f : LaneState → LaneState → LaneState} {g : LaneState → LaneState}
    (h : (s.lane l).changesOnly f (g (s.lane l))) : s.laneOnly (s.onLane l g) l f := State.laneOnly_setLane h

theorem State.alarmsKept_setLane {s : State} {l : Lane} {f : LaneState → LaneState → LaneState} {y : LaneState} (hf : TakesPart f)
    (h : (s.lane l).changesJust f y) : (s.setLane l y).alarmsKept s l := by
  unfold State.alarmsKept
  rw [State.lane_setLane]
  exact ⟨(congrArg LaneState.alarms h).trans (hf.alarms _ _), (congrArg LaneState.larder h).trans (hf.larder _ _)⟩


/-- One answer of the two equal outcomes. -/
theorem next_inj {s t : State} (h : (.next s : Result) = .next t) : t = s := (Host.Outcome.next.inj h).symm

/-! ### References and the target tracker (06 R178 to R181; 08 R253) -/

/-- What a sentence or a reference frame changes. -/
abbrev refsPart (x y : LaneState) : LaneState := { x with refs := y.refs, ctrl := { x.ctrl with tracker := y.ctrl.tracker } }

theorem takes_refsPart : TakesPart refsPart := {}

namespace LaneState

variable (x : LaneState)

theorem targetSeen_changes (r : RefRec) (t : Nat) (v : RefValue) : x.changesJust refsPart (x.targetSeen r t v) := by
  unfold targetSeen
  split
  · rfl
  · exact .refl takes_refsPart x

theorem offer_changes (r : RefRec) (arrival : Nat) (v : Option (RefValue × Bool × Bool × Option Nat)) :
    x.changesJust refsPart (x.offer r arrival v) := by
  unfold offer
  split
  · split
    · dsimp only
      split
      · exact x.targetSeen_changes _ _ _
      · exact .refl takes_refsPart x
    · exact .refl takes_refsPart x
  · split
    · exact .refl takes_refsPart x
    · split <;> rfl

theorem gst_changes (source : Nat) (s : Sentence) : x.changesJust refsPart (x.gst source s) := by
  unfold gst
  dsimp only
  split
  · refine .foldl takes_refsPart _ (fun y r => ?_) _ x
    split
    · rfl
    · exact .refl takes_refsPart y
  · exact .refl takes_refsPart x

theorem offerSentence_changes (source arrival : Nat) (s : Sentence) (whole : Bool) :
    x.changesJust refsPart (x.offerSentence source arrival s whole) := by
  refine .foldl takes_refsPart _ (fun y r => ?_) _ x
  split
  · exact y.offer_changes _ _ _
  · exact .refl takes_refsPart y

theorem sentence_changes (source : Nat) (bytes : Bytes) (arrival : Nat) : x.changesJust refsPart (x.sentence source bytes arrival) := by
  have hr : ∀ (y : LaneState) (r : RefsState), y.changesJust refsPart { y with refs := r } := fun _ _ => rfl
  unfold sentence
  dsimp only
  split
  · exact ((hr x _).trans takes_refsPart (hr _ _)).trans takes_refsPart (offerSentence_changes _ _ _ _ _)
  · split
    · exact hr x _
    · split
      · exact (hr x _).trans takes_refsPart (gst_changes _ _ _)
      · refine .trans takes_refsPart (.trans takes_refsPart ?_ (offerSentence_changes _ _ _ _ _)) (hr _ _)
        split
        · exact (hr x _).trans takes_refsPart (hr _ _)
        · exact hr x _

theorem binaryFrame_changes (source : Nat) (bytes : Bytes) (arrival : Nat) :
    x.changesJust refsPart (x.binaryFrame source bytes arrival) := by
  unfold binaryFrame
  generalize x.refs.receive source bytes = q
  refine .trans takes_refsPart (y := { x with refs := _ }) rfl (.foldl takes_refsPart _ (fun y r => ?_) _ _)
  split
  · split
    · exact y.offer_changes _ _ _
    · exact .refl takes_refsPart y
  · split
    · exact y.offer_changes _ _ _
    · exact .refl takes_refsPart y


/-! ### Network frames (15 R433 to R436) -/

end LaneState

/-- What a network frame changes. -/
abbrev netPart (x y : LaneState) : LaneState :=
  { x with net := y.net, gnss := y.gnss, refs := y.refs, ctrl := { x.ctrl with tracker := y.ctrl.tracker } }

theorem takes_netPart : TakesPart netPart := {}

namespace LaneState

variable (x : LaneState)

theorem stream_changes (n : Nat) (r : StreamRec) (f : NetFrame) (arrival : Nat) : x.changesJust netPart (x.stream n r f arrival) := by
  unfold stream
  split
  · split
    · exact .foldl takes_netPart _ (fun y b => (y.sentence_changes _ _ _).mono fun _ _ => rfl) _ x
    · rfl
  · split
    · rfl
    · exact .refl takes_netPart x

theorem deliver_changes (f : NetFrame) (arrival : Nat) : x.changesJust netPart (x.deliver f arrival) := by
  unfold deliver
  split
  · exact .foldl takes_netPart _ (fun y q => y.stream_changes _ _ _ _) _ x
  · exact .refl takes_netPart x

theorem networkFrame_changes (port : Nat) (f : NetFrame) (arrival : Nat) : x.changesOnly netPart (x.networkFrame port f arrival) := by
  unfold networkFrame
  dsimp only
  split
  · exact .codes takes_netPart _
  · split
    · rfl
    · split
      · split
        · exact .trans takes_netPart (.codes takes_netPart _) rfl
        · exact .trans takes_netPart (.codes takes_netPart _) (deliver_changes _ _ _).only
      · exact .trans (y := { x with net := _ }) takes_netPart rfl (deliver_changes _ _ _).only

end LaneState

/-! ### Vessel control (08 R245) -/

/-- What an event of vessel control changes. -/
abbrev ctrlPart (x y : LaneState) : LaneState := { x with ctrl := y.ctrl }

theorem takes_ctrlPart : TakesPart ctrlPart := {}

namespace LaneState

variable (x : LaneState)

theorem fallBack_changes : x.changesOnly ctrlPart x.fallBack := by
  unfold fallBack
  split
  · exact changesOnly.raise takes_ctrlPart _ _ _
  · exact .refl takes_ctrlPart x

end LaneState

/-! ### Sessions (15 R453, R456, R460) -/

/-- What the end of a session changes. -/
abbrev sessionPart (x y : LaneState) : LaneState := { x with ses := y.ses, cellar := y.cellar }

theorem takes_sessionPart : TakesPart sessionPart := {}

namespace LaneState

variable (x : LaneState)

theorem abortWrite_changes (reason : Nat) : x.changesOnly sessionPart (x.abortWrite reason) := by
  unfold abortWrite
  split
  · exact changesOnly.raise takes_sessionPart _ _ _
  · exact .refl takes_sessionPart x

theorem endSession_changes (n : Nat) : x.changesOnly sessionPart (x.endSession n) := by
  have h : x.changesOnly sessionPart (if x.ownsWrite n then x.abortWrite 0x02 else x) :=
    .ite (fun _ => x.abortWrite_changes _) fun _ => .refl takes_sessionPart x
  exact h.trans takes_sessionPart rfl

theorem badOpen_changes (address : Nat) : x.changesOnly (fun x y => { x with ses := y.ses }) (x.badOpen address) := by
  unfold badOpen
  exact .ite (fun _ => changesOnly.raise {} _ _ _) fun _ => rfl

theorem open_changes (m : Msg) (nonce : Bytes) : x.changesOnly (fun x y => { x with ses := y.ses }) (x.open m nonce) := by
  unfold LaneState.open
  split
  · exact x.badOpen_changes _
  · split
    · exact x.badOpen_changes _
    · split
      · exact x.badOpen_changes _
      · exact .ite (fun _ => changesOnly.raise {} _ _ _) fun _ => rfl

/-! ### Time sources (15 R445, R449) -/

theorem withClock_changes (f : ClockState → ClockState) : x.changesOnly (fun x y => { x with clock := y.clock }) (x.withClock f) := rfl

theorem takeUp_changes (off : Int) (adds : Nat) : x.changesOnly (fun x y => { x with src := y.src, clock := y.clock }) (x.takeUp off adds) :=
  changesOnly.codes {} _

end LaneState

/-! ### The shared operations of the families -/

section
variable (s : State) (l : Lane)

theorem State.laneOnly_onGnss (f : LaneState → GnssState → GnssState × List AlarmOp) :
    s.laneOnly (s.onGnss l f) l fun x y => { x with gnss := y.gnss } :=
  State.laneOnly_onLane (.ite (fun _ => .codes {} _) fun _ => .refl {} _)

theorem State.laneOnly_onAxis (n : Nat) (f : LoopState → AxisRec → LoopState × List AlarmOp) :
    s.laneOnly (s.onAxis l n f) l fun x y => { x with loop := y.loop } := by
  refine State.laneOnly_onLane ?_
  split
  · exact .codes {} _
  · exact .refl {} _

theorem State.laneOnly_onChan (n : Nat) (f : Fbch → FbChan → FbChan × List AlarmOp) :
    s.laneOnly (s.onChan l n f) l fun x y => { x with fb := y.fb } := State.laneOnly_onLane (.codes {} _)

theorem State.laneOnly_onBus (n : Nat) (f : Bus → Bus × List AlarmOp) :
    s.laneOnly (s.onBus l n f) l fun x y => { x with can := y.can } := State.laneOnly_onLane (.codes {} _)

theorem State.laneOnly_onAnalogIn (n : Nat) (f : Anin → AnChan → AnChan × List AlarmOp) :
    s.laneOnly (s.onAnalogIn l n f) l fun x y => { x with analog := y.analog } := State.laneOnly_onLane (.codes {} _)

theorem LaneState.withOut_changes (x : LaneState) (n : Nat) (f : Anou → AnOut → AnOut × List AlarmOp) :
    x.changesOnly (fun x y => { x with analog := y.analog }) (x.withOut n f) := by
  unfold LaneState.withOut
  split
  · exact .codes {} _
  · exact .refl {} x

theorem State.laneOnly_onPulse (n : Nat) (f : LaneState → PulseGen → PulseGen × List AlarmOp) :
    s.laneOnly (s.onLane l fun x => x.onPulse n (f x)) l fun x y => { x with pulses := y.pulses } :=
  State.laneOnly_onLane (.codes {} _)

theorem State.laneOnly_refl {f : LaneState → LaneState → LaneState} (hf : TakesPart f) : s.laneOnly s l f := by
  unfold State.laneOnly
  rw [hf.self]
  exact (s.setLane_lane l).symm

theorem State.laneOnly_ite {c : Prop} [Decidable c] {f : LaneState → LaneState → LaneState} {t u : State} (h : c → s.laneOnly t l f)
    (k : ¬c → s.laneOnly u l f) : s.laneOnly (if c then t else u) l f := by
  split
  · exact h ‹_›
  · exact k ‹_›

/-- A message of a session leads to one lane, through its sessions and what the message does. -/
theorem State.onMessage_eq_setLane (R : LaneState → LaneState → Prop) (m : Msg) (type : Nat)
    (g : State → Session → Datagram → LaneState → LaneState) (hs : ∀ ses, R (s.lane l) { s.lane l with ses := ses })
    (hg : ∀ t ses q d, R (s.lane l) (g t q d { s.lane l with ses := ses })) :
    ∃ y, R (s.lane l) y ∧ s.onMessage l m type (fun t q d => t.onLane l (g t q d)) = s.setLane l y := by
  unfold State.onMessage
  dsimp only
  split
  · exact ⟨_, hs _, rfl⟩
  · split
    · exact ⟨_, hg _ _ _ _, State.onLane_setLane _ _ _ _⟩
    · exact ⟨_, hs _, rfl⟩

/-- What both lanes have of codes that are given to the lanes that run. -/
theorem LaneState.ite_codes_eq (x : LaneState) (c : Prop) [Decidable c] (ops : List AlarmOp) :
    (if c then x.codes ops else x) = x.codesOf (if c then x.codes ops else x) := by
  split
  · exact x.codes_eq ops
  · rfl

theorem State.canvasStep_eq (r : CanvasState × List AlarmOp) :
    s.canvasStep r = { s with canvas := (s.canvasStep r).canvas, laneA := s.laneA.codesOf (s.canvasStep r).laneA,
                              laneB := s.laneB.codesOf (s.canvasStep r).laneB } := by
  have a := s.laneA.ite_codes_eq s.laneA.runs r.2
  have b := s.laneB.ite_codes_eq s.laneB.runs r.2
  simp only [State.canvasStep]
  rw [← a, ← b]

end


section
variable {s t : State} {l : Lane} {f : LaneState → LaneState → LaneState}

/-- An event that answers with a change of one lane. -/
theorem laneOnly_of_next {g : LaneState → LaneState} (h : (.next (s.onLane l g) : Result) = .next t)
    (hg : (s.lane l).changesOnly f (g (s.lane l))) : s.laneOnly t l f := next_inj h ▸ State.laneOnly_onLane hg

/-- An event that answers with a change of one lane, without a code. -/
theorem kept_of_next {g : LaneState → LaneState} (hf : TakesPart f) (h : (.next (s.onLane l g) : Result) = .next t)
    (hg : (s.lane l).changesJust f (g (s.lane l))) : t.alarmsKept s l ∧ s.laneOnly t l f := by
  obtain rfl := next_inj h
  exact ⟨State.alarmsKept_setLane hf hg, State.laneOnly_onLane hg.only⟩
end

/-! ### Events that judge before they act -/

section
variable {s t : State} {l : Lane}

theorem execReferenceLost_changes {ref : Nat} (h : execReferenceLost l ref s = .next t) :
    s.laneOnly t l fun x y => { x with refs := y.refs } := by
  refine laneOnly_of_next h ?_
  split
  · exact .ite (fun _ => .raise {} _ _ _) fun _ => .refl {} _
  · exact .refl {} _

theorem execPredictionOnlyTimeout_changes {heading : Bool} (h : execPredictionOnlyTimeout l heading s = .next t) :
    s.laneOnly t l fun x y => { x with refs := y.refs } := by
  refine laneOnly_of_next h (.ite (fun _ => ?_) fun _ => ?_) <;> exact .ite (fun _ => .raise {} _ _ _) fun _ => .refl {} _

/-- What the dead-reckoning limit changes. -/
abbrev drPart (x y : LaneState) : LaneState := { x with obs := y.obs, ctrl := y.ctrl, eligible := y.eligible }

theorem takes_drPart : TakesPart drPart := {}

theorem execDeadReckoningLimit_changes {heading : Bool} (h : execDeadReckoningLimit l heading s = .next t) : s.laneOnly t l drPart := by
  have hf : ∀ x : LaneState, x.changesOnly drPart x.fallBack := fun x => x.fallBack_changes.mono takes_drPart fun _ _ => rfl
  refine laneOnly_of_next h (.ite (fun _ => ?_) fun _ => ?_) <;>
    exact .ite (fun _ => .trans takes_drPart (.raise takes_drPart _ _ _) (hf _)) fun _ => .refl takes_drPart _

theorem execJoystickTimeout_changes (h : execJoystickTimeout l s = .next t) : s.laneOnly t l ctrlPart := by
  refine laneOnly_of_next h ?_
  split
  · exact .ite (fun _ => .ite (fun _ => .raise takes_ctrlPart _ _ _) fun _ => rfl) fun _ => .refl takes_ctrlPart _
  · exact .refl takes_ctrlPart _

theorem execCrossTrackTimeout_changes (h : execCrossTrackTimeout l s = .next t) : s.laneOnly t l ctrlPart :=
  laneOnly_of_next h (.ite (fun _ => LaneState.fallBack_changes _) fun _ => .refl takes_ctrlPart _)

theorem execTargetLost_changes (h : execTargetLost l s = .next t) : s.laneOnly t l ctrlPart := by
  refine laneOnly_of_next h (.ite (fun _ => .ite (fun _ => ?_) fun _ => rfl) fun _ => .refl takes_ctrlPart _)
  exact .trans (y := { s.lane l with ctrl := _ }) takes_ctrlPart rfl (LaneState.fallBack_changes _)

theorem execActuatorReentry_changes {n : Nat} (h : execActuatorReentry l n s = .next t) :
    s.laneOnly t l fun x y => { x with alloc := y.alloc } := by
  refine laneOnly_of_next h ?_
  split
  · exact .codes {} _
  · exact .refl {} _

theorem execSessionTimeout_changes {n : Nat} (h : execSessionTimeout l n s = .next t) : s.laneOnly t l sessionPart := by
  refine laneOnly_of_next h ?_
  split
  · exact .ite (fun _ => .clear takes_sessionPart _ _ (LaneState.endSession_changes _ _)) fun _ => .refl takes_sessionPart _
  · exact .refl takes_sessionPart _

/-- What a navigation message changes. -/
abbrev navPart (x y : LaneState) : LaneState := { x with gnss := y.gnss, attic := { x.attic with ephs := y.attic.ephs } }

theorem takes_navPart : TakesPart navPart := {}

theorem LaneState.withGnss_changes (x : LaneState) (r : GnssState × List AlarmOp) : x.changesOnly navPart (x.withGnss r) :=
  .codes takes_navPart _

theorem LaneState.keepEphs_changes (x : LaneState) : x.changesOnly navPart x.keepEphs :=
  .ite (fun _ => rfl) fun _ => .refl takes_navPart x

theorem execNavMessage_changes {n : NavIn} (h : execNavMessage l n s = .next t) : s.laneOnly t l navPart := by
  obtain rfl := next_inj h
  rw [State.onGnss, State.onLane_onLane]
  exact State.laneOnly_onLane
    (.trans takes_navPart (.ite (fun _ => LaneState.withGnss_changes _ _) fun _ => .refl takes_navPart _) (LaneState.keepEphs_changes _))

theorem execClose_changes {m : Msg} (h : execClose l m s = .next t) : s.laneOnly t l sessionPart := by
  obtain rfl := next_inj h
  obtain ⟨y, hy, e⟩ := s.onMessage_eq_setLane l (LaneState.changesOnly sessionPart) m 0x03
    (fun _ q _ x => (x.endSession q.number).clear ⟨.nt, 21⟩ 0) (fun _ => rfl)
    fun _ _ _ _ => .clear takes_sessionPart _ _ (.trans takes_sessionPart (by exact rfl) (LaneState.endSession_changes _ _))
  exact e ▸ State.laneOnly_setLane hy

/-- A message that changes the sessions of its lane alone. -/
theorem State.onMessage_changes (m : Msg) (type : Nat) (g : State → Session → Datagram → LaneState → LaneState)
    (hg : ∀ t q d x, LaneState.changesJust (fun x y => { x with ses := y.ses }) x (g t q d x)) :
    (s.onMessage l m type fun t q d => t.onLane l (g t q d)).alarmsKept s l ∧
    s.laneOnly (s.onMessage l m type fun t q d => t.onLane l (g t q d)) l fun x y => { x with ses := y.ses } := by
  obtain ⟨y, hy, e⟩ := s.onMessage_eq_setLane l (LaneState.changesJust fun x y => { x with ses := y.ses }) m type g (fun _ => rfl)
    fun t ses q d => .trans {} (by exact rfl) (hg t q d _)
  exact e ▸ ⟨State.alarmsKept_setLane {} hy, State.laneOnly_setLane hy.only⟩

theorem execKeepalive_changes {m : Msg} (h : execKeepalive l m s = .next t) :
    t.alarmsKept s l ∧ s.laneOnly t l fun x y => { x with ses := y.ses } := by
  obtain rfl := next_inj h
  exact State.onMessage_changes _ _ _ fun _ _ _ _ => rfl

theorem execSubscribe_changes {m : Msg} (h : execSubscribe l m s = .next t) :
    t.alarmsKept s l ∧ s.laneOnly t l fun x y => { x with ses := y.ses } := by
  obtain rfl := next_inj h
  refine State.onMessage_changes _ _ _ fun _ _ _ _ => ?_
  split <;> rfl

theorem State.tick_setLane (s : State) (l : Lane) (x : LaneState) : (s.setLane l x).tick = s.tick.setLane l x := by cases l <;> rfl

theorem execOpenSession_changes {m : Msg} (h : execOpenSession l m s = .next t) :
    s.tick.laneOnly t l fun x y => { x with ses := y.ses } := by
  obtain rfl := next_inj h
  rw [State.onLane, State.tick_setLane]
  exact State.laneOnly_setLane (s := s.tick) (.ite (fun _ => LaneState.open_changes _ _ _) fun _ => .refl {} _)

theorem execRead_changes {m : Msg} (h : execRead l m s = .next t) :
    t.alarmsKept s l ∧ s.tick.laneOnly t l fun x y => { x with ses := y.ses } := by
  obtain rfl := next_inj h
  obtain ⟨y, hy, e⟩ := s.onMessage_eq_setLane l (LaneState.changesJust fun x y => { x with ses := y.ses }) m 0x10
    (fun t q d x => match (if 1 ≤ fieldN d.body 0 1 ∧ fieldN d.body 0 1 ≤ 32 then readItems (fieldN d.body 0 1) (d.body.drop 1) else none) with
      | some is => x.reply q d (t.readAnswers l 1420 is)
      | none => x.reply q d [⟨stMalformed, 0, 0, []⟩]) (fun _ => rfl) fun t ses q d => by split <;> rfl
  refine e ▸ ⟨State.alarmsKept_setLane {} hy, ?_⟩
  rw [State.tick_setLane]
  exact State.laneOnly_setLane hy.only

theorem execSourceQualified_changes {q : TimeSource} {off : Int} (h : execSourceQualified l q off s = .next t) :
    s.laneOnly t l fun x y => { x with src := y.src, clock := y.clock } := by
  obtain rfl := next_inj h
  refine s.laneOnly_ite l (fun _ => State.laneOnly_setLane (.ite (fun _ => .codes {} _) fun _ => ?_)) fun _ => s.laneOnly_refl l {}
  exact .trans {} (.codes {} _) (LaneState.takeUp_changes _ _ _)

end

/-! ### The panel controller, the discrete outputs and the Baize -/

section
variable {s t : State} {l : Lane}

/-- What a status of the panel controller changes of a lane that is given codes before. -/
theorem LaneState.canvasSeen_changes (x : LaneState) (b : Bool) (ops : List AlarmOp) (c : CanvasState) :
    x.changesOnly (fun x y => { x with canvasAge := y.canvasAge }) ((if b then x.codes ops else x).canvasSeen c) := by
  have hf : TakesPart fun x y : LaneState => { x with canvasAge := y.canvasAge } := {}
  have hb : x.changesOnly (fun x y => { x with canvasAge := y.canvasAge }) (if b then x.codes ops else x) :=
    .ite (fun _ => .codes hf _ (.refl hf x)) fun _ => .refl hf x
  exact hb.trans hf (.ite (fun _ => .codes hf _) fun _ => .refl hf _)

theorem execCanvasTick_changes {inp : CanvasIn} (h : execCanvasTick inp s = .next t) :
    t = { s with canvas := t.canvas, laneA := ({ s.laneA with canvasAge := t.laneA.canvasAge } : LaneState).codesOf t.laneA,
                 laneB := ({ s.laneB with canvasAge := t.laneB.canvasAge } : LaneState).codesOf t.laneB } := by
  obtain rfl := next_inj h
  split
  · exact congrArg₂ (fun a b => { s with canvas := (s.canvasValues.tick inp).1, laneA := a, laneB := b })
      (s.laneA.canvasSeen_changes _ _ _) (s.laneB.canvasSeen_changes _ _ _)
  · rfl

theorem execCanvasRequest_changes {r : Nat} (h : execCanvasRequest l r s = .next t) :
    t = { s.onLane l fun x => { x with canvasOut := (t.lane l).canvasOut } with canvas := t.canvas } := by
  obtain rfl := next_inj h
  split
  · dsimp only
    split <;> cases l <;> rfl
  · cases l <;> rfl

/-- Codes in the active lane. -/
theorem State.activeCodes_eq (s : State) (ops : List AlarmOp) :
    s.activeCodes ops = { s with laneA := s.laneA.codesOf (s.activeCodes ops).laneA, laneB := s.laneB.codesOf (s.activeCodes ops).laneB } := by
  unfold State.activeCodes
  split
  · next l _ => cases l <;> simp only [State.onLane, State.lane, State.setLane] <;> rw [← LaneState.codes_eq_codesOf] <;> rfl
  · rfl

/-- Codes in the active lane, with a change of the overloaded outputs. -/
theorem State.overload_activeCodes_eq (s : State) (o : List Bool) (ops : List AlarmOp) :
    let t := ({ s with overload := o } : State).activeCodes ops
    t = { s with overload := t.overload, laneA := s.laneA.codesOf t.laneA, laneB := s.laneB.codesOf t.laneB } := by
  intro t
  have e : t = _ := State.activeCodes_eq _ ops
  have ho : t.overload = o := congrArg State.overload e
  rw [ho]
  exact e

theorem execDiscreteOutputOverload_changes {n : Nat} (h : execDiscreteOutputOverload n s = .next t) :
    t = { s with overload := t.overload, laneA := s.laneA.codesOf t.laneA, laneB := s.laneB.codesOf t.laneB } := by
  obtain rfl := next_inj h
  split
  · exact s.overload_activeCodes_eq _ _
  · rfl

theorem execDiscreteOutputRetry_changes {n : Nat} (h : execDiscreteOutputRetry n s = .next t) :
    t = { s with overload := t.overload, laneA := s.laneA.codesOf t.laneA, laneB := s.laneB.codesOf t.laneB } := by
  obtain rfl := next_inj h
  split
  · exact s.overload_activeCodes_eq _ _
  · rfl

theorem execBaizeReady_changes (h : execBaizeReady s = .next t) : t = { s.tick with baize := t.baize } ∨ t = s := by
  obtain rfl := next_inj h
  split
  · exact .inl rfl
  · exact .inr rfl

theorem execRevertHoldoffEnd_changes (h : execRevertHoldoffEnd s = .next t) : t = { s with baize := t.baize } := by
  obtain rfl := next_inj h
  split
  · split <;> rfl
  · rfl

end

/-- Settles O60: each family's shared operation changes its own part, and codes change no other. -/
theorem eventsTouchTheirPart : Obligations.EventsTouchTheirPart := by
  unfold Obligations.EventsTouchTheirPart
  intro c s t h
  cases c
  case gnssDump | searchHit | slotRelease | antennaBiasFault | antennaBiasRetry | rtcmFrameReceived | gnssPeerSolutionReceived
      | gnssSolutionTimeout | headingFixTimeout | untrackedTimeout =>
    obtain rfl := next_inj h
    exact s.laneOnly_onGnss _ _
  case gnssFrontEndFault => exact laneOnly_of_next h (.codes {} _)
  case followingErrorFault | feedbackFreeze | feLatchExpiry =>
    obtain rfl := next_inj h
    exact s.laneOnly_onAxis _ _ _
  case outLimitTimeout => exact laneOnly_of_next h (.ite (fun _ => .raise {} _ _ _) fun _ => .refl {} _)
  case filteredLineChange | sineCosineConversion | indexEvent | illegalTransitionFault | wireDisagree | amplitudeLoss
      | ssiFrameComplete | ssiLoss | sensorSupplyShort | sensorSupplyOpen | sensorSupplyRetry | lossClear | countLatchRead =>
    obtain rfl := next_inj h
    exact s.laneOnly_onChan _ _ _
  case txbRequest | txbCancel | canFrameComplete | canTxError | busOffRecovery | fifoPop | commandLate =>
    obtain rfl := next_inj h
    exact s.laneOnly_onBus _ _ _
  case transmitInhibit =>
    obtain rfl := next_inj h
    exact s.laneOnly_ite _ (fun _ => State.laneOnly_onLane rfl) fun _ => s.laneOnly_refl _ {}
  case transmitInhibitRelease =>
    obtain rfl := next_inj h
    exact s.laneOnly_ite _ (fun _ => s.laneOnly_refl _ {}) fun _ => State.laneOnly_onLane rfl
  case driveStatusTimeout => exact laneOnly_of_next h (.codes {} _)
  case analogInputInvalid | analogInputValid | analogFillComplete =>
    obtain rfl := next_inj h
    exact s.laneOnly_onAnalogIn _ _ _
  case firSample =>
    obtain rfl := next_inj h
    exact s.laneOnly_ite _ (fun _ => s.laneOnly_refl _ {}) fun _ => s.laneOnly_onAnalogIn _ _ _
  case anOutTimeout => exact laneOnly_of_next h (LaneState.withOut_changes _ _ _)
  case analogReadbackFault => exact laneOnly_of_next h (.ite (fun _ => LaneState.withOut_changes _ _ _) fun _ => .refl {} _)
  case navMessage => exact execNavMessage_changes h
  case sentenceReceived =>
    exact kept_of_next takes_refsPart h (.ite (fun _ => LaneState.sentence_changes _ _ _ _) fun _ => .refl takes_refsPart _)
  case referenceBinaryFrame =>
    exact kept_of_next takes_refsPart h (.ite (fun _ => LaneState.binaryFrame_changes _ _ _ _) fun _ => .refl takes_refsPart _)
  case referenceLost => exact execReferenceLost_changes h
  case predictionOnlyTimeout => exact execPredictionOnlyTimeout_changes h
  case deadReckoningLimit => exact execDeadReckoningLimit_changes h
  case joystickTimeout => exact execJoystickTimeout_changes h
  case crossTrackTimeout => exact execCrossTrackTimeout_changes h
  case targetLost => exact execTargetLost_changes h
  case engStart => exact laneOnly_of_next h rfl
  case actuatorReentry => exact execActuatorReentry_changes h
  case transitTimeout => exact laneOnly_of_next h (.codes {} _)
  case engineRunComplete => exact kept_of_next (s := s.tick) {} h rfl
  case prpSupervision => exact laneOnly_of_next h rfl
  case linkChange | nodeForget => exact laneOnly_of_next h (.codes {} _)
  case networkFrameReceived => exact laneOnly_of_next h (LaneState.networkFrame_changes _ _ _ _)
  case openSession => exact execOpenSession_changes h
  case keepalive => exact execKeepalive_changes h
  case subscribe => exact execSubscribe_changes h
  case read => exact execRead_changes h
  case close => exact execClose_changes h
  case sessionTimeout => exact execSessionTimeout_changes h
  case incrWrite | stepArm | timeSnapshotRead => exact laneOnly_of_next h (LaneState.withClock_changes _ _)
  case slewComplete => exact laneOnly_of_next h (.ite (fun _ => .clear {} _ _) fun _ => .refl {} _)
  case captureNow | captureRelease | captureValidRead => exact kept_of_next {} h rfl
  case timestampCapture =>
    obtain rfl := next_inj h
    dsimp only
    split
    · exact kept_of_next {} rfl rfl
    · exact ⟨⟨rfl, rfl⟩, s.laneOnly_refl _ {}⟩
  case ptpMessageReceived | foreignMasterAgeOut => exact laneOnly_of_next h (.codes {} _)
  case ptpSyncSend | ptpDelayRequest => exact laneOnly_of_next h (.ite (fun _ => rfl) fun _ => .refl {} _)
  case sourceQualified => exact execSourceQualified_changes h
  case holdoverEntry | freerunEntry => exact laneOnly_of_next h (.codes {} _)
  case pulseArm | pulseEdge | pulseWidthEnd =>
    obtain rfl := next_inj h
    exact s.laneOnly_onPulse _ _ _
  case canvasPhaseBoundary | canvasRailsIdle | canvasRailRetry =>
    obtain rfl := next_inj h
    rfl
  case canvasPowerFail =>
    obtain rfl := next_inj h
    dsimp only
    split <;> rfl
  case crackLoopCheck | canvasTemperatureClear =>
    obtain rfl := next_inj h
    exact s.canvasStep_eq _
  case canvasStart =>
    obtain rfl := next_inj h
    dsimp only
    split
    · rfl
    · exact s.canvasStep_eq _
  case canvasTick => exact execCanvasTick_changes h
  case canvasRequest => exact execCanvasRequest_changes h
  case canvasStatusTimeout => exact laneOnly_of_next h (.ite (fun _ => .raise {} _ _ _) fun _ => .refl {} _)
  case shadowComparisonFault => exact laneOnly_of_next h (.ite (fun _ => .codes {} _) fun _ => .refl {} _)
  case testPulse =>
    obtain rfl := next_inj h
    rfl
  case discreteOutputOverload => exact execDiscreteOutputOverload_changes h
  case discreteOutputRetry => exact execDiscreteOutputRetry_changes h
  case baizeReady => exact execBaizeReady_changes h
  case baizeBusFrameSeen | transmitInhibitAssert | homeOnlyPeriodEnd =>
    obtain rfl := next_inj h
    dsimp only
    split <;> rfl
  case revertHoldoffEnd => exact execRevertHoldoffEnd_changes h
  all_goals trivial
end Sys2Proof.Machine

namespace Sys2Proof.Machine

/-! ## What the ticks of a lane leave of the block (01 R12; 02 R35, R53) -/

/-- A lane apart from what a tick of the other lane may change of it: its codes with their Larder, and its view of the DP-3 pair. -/
def LaneState.unshared (x : LaneState) : LaneState := { x with alarms := [], larder := default, partner := default }

/-- The frame slot and the motion index of the Baize (02 R48). -/
def BaizeState.index (b : BaizeState) : Nat × Nat := (b.slot, b.motion)

/-- What stands beside a lane: the other lane apart from what is shared, the keys, the panel, the outputs and the Baize's indices. -/
structure Beside where
  other : LaneState
  keyA : Option Key
  keyB : Option Key
  canvas : CanvasState
  pulse : PulseSource
  analogOut : List OutWord
  discreteOut : List Bool
  overload : List Bool
  index : Nat × Nat

def State.beside (s : State) (l : Lane) : Beside :=
  ⟨(s.lane l.other).unshared, s.keyA, s.keyB, s.canvas, s.pulse, s.analogOut, s.discreteOut, s.overload, s.baize.index⟩

@[simp] theorem LaneState.unshared_codes (x : LaneState) (ops : List AlarmOp) : (x.codes ops).unshared = x.unshared := by
  rw [x.codes_eq]; rfl

/-- Lanes that agree on what is not shared differ in what is. -/
theorem LaneState.eq_of_unshared {x y : LaneState} (h : x.unshared = y.unshared) :
    x = { y with alarms := x.alarms, larder := x.larder, partner := x.partner } :=
  congrArg (fun z : LaneState => { z with alarms := x.alarms, larder := x.larder, partner := x.partner }) h

section
variable (s : State) (l : Lane)

@[simp] theorem State.beside_setLane (x : LaneState) : (s.setLane l x).beside l = s.beside l := by cases l <;> rfl
@[simp] theorem State.beside_onLane (f : LaneState → LaneState) : (s.onLane l f).beside l = s.beside l := s.beside_setLane l _
@[simp] theorem State.beside_tick : s.tick.beside l = s.beside l := by cases l <;> rfl
theorem State.beside_onBaize {f : BaizeState → BaizeState} (h : (f s.baize).index = s.baize.index) :
    (s.onBaize f).beside l = s.beside l := by
  simp only [State.beside, State.lane_onBaize, State.onBaize_baize, h]
  rfl
@[simp] theorem State.beside_onPartner (f : PartnerState → PartnerState) : (s.onPartner f).beside l = s.beside l := by cases l <;> rfl

/-- Codes given to the lanes that run are shared. -/
@[simp] theorem State.beside_runningCodes (ops : List AlarmOp) : (s.runningCodes ops).beside l = s.beside l := by
  have h : ∀ x : LaneState, (if x.runs then x.codes ops else x).unshared = x.unshared := fun x => by
    split
    · exact x.unshared_codes ops
    · rfl
  have e : ((s.runningCodes ops).lane l.other).unshared = (s.lane l.other).unshared := by cases l <;> exact h _
  exact congrArg (fun o => (⟨o, s.keyA, s.keyB, s.canvas, s.pulse, s.analogOut, s.discreteOut, s.overload, s.baize.index⟩ : Beside)) e

@[simp] theorem State.beside_reportLost : s.reportLost.beside l = s.beside l := s.beside_runningCodes l s.lostCodes

/-! ### The frame that ends -/

theorem State.beside_sendContent : (s.sendContent l).beside l = s.beside l := by
  simp only [State.sendContent]
  split
  · exact foldl_keeps (fun t : State => t.beside l) _ (fun t n => t.beside_onLane l _) _ s
  · rfl

theorem State.beside_telemetrySlice : (s.telemetrySlice l).beside l = s.beside l := by simp [State.telemetrySlice]

theorem State.beside_runSlice (inp : FrameIn) (id : Nat) : (s.runSlice l inp id).beside l = s.beside l := by
  simp only [State.runSlice]
  split
  case h_5 => exact s.beside_telemetrySlice l
  case h_16 =>
    split
    · exact s.beside_sendContent l
    · rfl
  all_goals simp

theorem State.beside_runSlices (inp : FrameIn) : (s.runSlices l inp).beside l = s.beside l := by
  simp only [State.runSlices, State.beside_onLane]
  refine foldl_keeps (fun t : State => t.beside l) _ (fun t id => ?_) _ s
  split
  · rfl
  · rw [State.beside_onLane, State.beside_runSlice]

theorem State.beside_fail (cause : Nat) : (s.fail l cause).beside l = s.beside l := by
  simp only [State.fail]
  repeat' split
  all_goals simp

theorem State.beside_judgeOverruns : (s.judgeOverruns l).beside l = s.beside l := by
  simp only [State.judgeOverruns]
  split
  · rw [State.beside_fail, State.beside_onLane]
  · rfl

theorem State.beside_judgeScrub (t : TestIn) : (s.judgeScrub l t).beside l = s.beside l := by
  simp only [State.judgeScrub]
  split
  · exact s.beside_fail l 4
  · rfl

theorem State.beside_endFrame (inp : FrameIn) : (s.endFrame l inp).beside l = s.beside l := by
  simp only [State.endFrame]
  split
  · rw [State.beside_onLane, State.beside_judgeScrub, State.beside_judgeOverruns, State.beside_runSlices, State.beside_onLane]
  · rfl

/-! ### The new frame -/

theorem State.beside_takeMeasurement (off : Int) : (s.takeMeasurement l off).beside l = s.beside l := by
  simp only [State.takeMeasurement]
  split <;> simp

theorem State.beside_timeFrame (t : TimeIn) : (s.timeFrame l t).beside l = s.beside l := by
  simp only [State.timeFrame]
  split <;> simp [State.beside_takeMeasurement]

theorem State.beside_setCalendars (oldS : Nat) : (s.setCalendars l oldS).beside l = s.beside l := by
  have h : ∀ (t : State) (c : BaizeState → Calendar), (t.onBaize fun b => { b with cal := c b }).beside l = t.beside l :=
    fun t c => t.beside_onBaize l rfl
  simp only [State.setCalendars]
  repeat' split
  all_goals simp [h]

theorem State.beside_advanceFrame (inp : FrameIn) : (s.advanceFrame l inp).beside l = s.beside l := by
  simp only [State.advanceFrame]
  split
  · rw [State.beside_setCalendars, State.beside_timeFrame, State.beside_setLane]
  · exact s.beside_setLane l _

theorem State.beside_partnerBoundary : (s.partnerBoundary l).beside l = s.beside l := by
  simp only [State.partnerBoundary, State.takeCommand]
  repeat' split
  all_goals simp

theorem State.beside_sendPartner : (s.sendPartner l).beside l = s.beside l := by
  simp only [State.sendPartner]
  split <;> simp

theorem State.beside_beginSlot : (s.beginSlot l).beside l = s.beside l := by
  simp only [State.beginSlot]
  repeat' split
  all_goals simp [State.beside_partnerBoundary, State.beside_sendPartner]

theorem State.beside_sendCopy : (s.sendCopy l).beside l = s.beside l := by
  simp only [State.sendCopy]
  split <;> simp

theorem State.beside_sendHeartbeat (failed : Bool) : (s.sendHeartbeat l failed).beside l = s.beside l := by
  simp only [State.sendHeartbeat]
  split <;> simp

/-- A frame tick leaves what stands beside its lane. -/
theorem State.beside_frameTick (inp : FrameIn) : (s.frameTick l inp).beside l = s.beside l := by
  simp only [State.frameTick]
  rw [State.beside_sendHeartbeat, State.beside_sendCopy, State.beside_reportLost, State.beside_onLane, State.beside_beginSlot,
    State.beside_advanceFrame, State.beside_endFrame]

end

/-- Settles O16: every operation of a frame tick keeps what stands beside its lane. -/
theorem ticksTouchTheirOwnLane : Obligations.TicksTouchTheirOwnLane := by
  unfold Obligations.TicksTouchTheirOwnLane
  intro s l inp
  obtain ⟨t, ht, hb⟩ : ∃ t, exec (.frameTick l inp) s = .next t ∧ t.beside l = s.beside l := by
    refine ⟨if (s.lane l).clocked then s.frameTick l inp else s, rfl, ?_⟩
    split
    · exact s.beside_frameTick l inp
    · rfl
  simp only [State.beside, Beside.mk.injEq] at hb
  obtain ⟨ho, hka, hkb, hc, hp, hao, hdo, hov, -⟩ := hb
  exact ⟨t, _, _, _, ht, LaneState.eq_of_unshared ho, hka, hkb, hc, hp, hao, hdo, hov⟩

/-! ## MICROFRAME_TICK (02 R53; 11 R326; log entry 88) -/

/-- Of the Baize, a microframe tick changes the contacts alone, in microframe 0. -/
theorem State.microTick_baize (s : State) (l : Lane) (inp : MicroIn) :
    (s.microTick l inp).baize = if (s.lane l).frame.micro = 0 then s.baize.closeContacts l else s.baize := by
  have ha : ∀ t : State, (t.writeAnalog l).baize = t.baize := fun t => by simp only [State.writeAnalog]; split <;> rfl
  have hd : ∀ t : State, (t.writeDiscrete l).baize = t.baize := fun t => by simp only [State.writeDiscrete]; split <;> rfl
  have hc : ∀ t : State, (t.stageCommands l).baize = t.baize := fun t => by simp only [State.stageCommands]; split <;> simp
  simp only [State.microTick, State.onLane_baize, hc, hd, ha, State.onBaize_baize]

/-- A block whose lane A, with its rails and its ticks, waits for its contacts, which have never closed before. -/
def State.waitsForContacts : State :=
  { State.reset with
    laneA := { LaneState.reset with life := { (default : LifeState) with powered := true, phase := .done },
                                    power := { PowerState.blank with regulated := true },
                                    frame := { FrameState.blank with ticked := true } }
    baize := { State.reset.baize with closing := some .a } }

/-- Refutes O15: where the contacts of a lane close that has not timed the SSI clock driver before, the Baize changes `ssiClock`
beside `contacts` and `closing`. -/
theorem not_microframeTickAdvances : ¬ Obligations.MicroframeTickAdvances := by
  unfold Obligations.MicroframeTickAdvances
  intro h
  obtain ⟨t, ht, -, -, -, -, -, hclose⟩ := h State.waitsForContacts .a default rfl rfl
  have e : t = State.waitsForContacts.microTick .a default := next_inj ht
  have hb : t.baize = State.waitsForContacts.baize.closeContacts .a := e ▸ State.microTick_baize _ _ _
  have hs : (some .a : Option Lane) = none := congrArg BaizeState.ssiClock (hb.symm.trans (hclose rfl rfl))
  cases hs

end Sys2Proof.Machine

namespace Sys2Proof.Machine

/-! ## Indices and clock in their ranges (01 R12, R14; 02 R48; 15 R439 to R441) -/

/-- The indices and the clock registers of a lane are in their ranges. -/
def LaneState.inRange (x : LaneState) : Prop := x.frame.inRange ∧ x.clock.inBounds

theorem ClockState.blank_inBounds : ClockState.blank.inBounds := by
  unfold ClockState.inBounds
  decide

theorem LaneState.reset_inRange : LaneState.reset.inRange := by
  refine ⟨?_, ClockState.blank_inBounds⟩
  unfold FrameState.inRange
  decide

/-- Setting the time counter moves no register that has bounds. -/
theorem ClockState.at_inBounds {c : ClockState} (t : Nat) (h : c.inBounds) : (c.at t).inBounds := h

namespace LaneState.inRange

variable {x y : LaneState}

theorem of_timing (h : x.inRange) (e : y.timing = x.timing) : y.inRange := by
  obtain ⟨-, hs, hm, hmi, -, -, -, hc⟩ := Timing.mk.inj e
  unfold LaneState.inRange FrameState.inRange
  rw [hs, hm, hmi, hc]
  exact h

theorem codes {ops : List AlarmOp} (h : x.inRange) : (x.codes ops).inRange := h.of_timing (x.timing_codes ops)
theorem alarm {op : AlarmOp} {d : Bytes} (h : x.inRange) : (x.alarm op d).inRange := h.of_timing (x.timing_alarm op d)
theorem raise {c : Code} {i k : Nat} (h : x.inRange) : (x.raise c i k).inRange := h.alarm
theorem clear {c : Code} {i : Nat} (h : x.inRange) : (x.clear c i).inRange := h.alarm

theorem ite {c : Prop} [Decidable c] (h : c → x.inRange) (k : ¬c → y.inRange) : (if c then x else y).inRange := by
  split
  · exact h ‹_›
  · exact k ‹_›

/-- A change of another part of a lane leaves its indices and its clock. -/
theorem of_changes {f : LaneState → LaneState → LaneState} (h : x.inRange) (k : x.changesOnly f y)
    (hf : ∀ x y, (f x y).frame = x.frame ∧ (f x y).clock = x.clock := by intros; exact ⟨rfl, rfl⟩) : y.inRange := by
  obtain ⟨ef, ec⟩ := hf x y
  unfold LaneState.changesOnly at k
  rw [k]
  unfold LaneState.inRange LaneState.codesOf
  rw [ef, ec]
  exact h

end LaneState.inRange

/-! ### The block -/

namespace State.indicesOk

variable {s t : State} {l : Lane}

/-- Whatever keeps both lanes in range and the Baize's indices. -/
theorem of_lanes (hs : s.indicesOk) (h : ∀ l, (t.lane l).inRange) (hb : t.baize.index = s.baize.index) : t.indicesOk := by
  obtain ⟨es, em⟩ := Prod.mk.inj hb
  exact ⟨h, es ▸ hs.2.1, em ▸ hs.2.2⟩

theorem lane (hs : s.indicesOk) (l : Lane) : (s.lane l).inRange := hs.1 l

theorem setLane (hs : s.indicesOk) {x : LaneState} (hx : x.inRange) : (s.setLane l x).indicesOk := by
  refine hs.of_lanes (fun k => ?_) (congrArg _ (State.setLane_baize s l x))
  obtain rfl | rfl := Lane.eq_or_other l k
  · rw [State.lane_setLane]; exact hx
  · rw [State.lane_setLane_other]; exact hs.lane _

theorem onLane (hs : s.indicesOk) {f : LaneState → LaneState} (hf : (f (s.lane l)).inRange) : (s.onLane l f).indicesOk := hs.setLane hf

theorem onBaize (hs : s.indicesOk) {f : BaizeState → BaizeState} (hf : (f s.baize).index = s.baize.index) : (s.onBaize f).indicesOk :=
  hs.of_lanes (fun l => by rw [State.lane_onBaize]; exact hs.lane l) hf

theorem tick (hs : s.indicesOk) : s.tick.indicesOk := hs
theorem setKey (hs : s.indicesOk) (k : Option Key) : (s.setKey l k).indicesOk := by cases l <;> exact hs

theorem ite {c : Prop} [Decidable c] (h : c → s.indicesOk) (k : ¬c → t.indicesOk) : (if c then s else t).indicesOk := by
  split
  · exact h ‹_›
  · exact k ‹_›

theorem onLane_codes (hs : s.indicesOk) {f : LaneState → LaneState → LaneState} (k : s.laneOnly t l f)
    (hf : ∀ x y, (f x y).frame = x.frame ∧ (f x y).clock = x.clock := by intros; exact ⟨rfl, rfl⟩) : t.indicesOk := by
  unfold State.laneOnly at k
  rw [k]
  refine hs.setLane ?_
  obtain ⟨ef, ec⟩ := hf (s.lane l) (t.lane l)
  unfold LaneState.inRange LaneState.codesOf
  rw [ef, ec]
  exact hs.lane l

end State.indicesOk

/-- The tables of a lane without power are empty. -/
theorem LaneState.reset_tablesOk : LaneState.reset.tablesOk := by
  unfold LaneState.tablesOk
  decide

/-- Settles O3: each condition of the blank parts. -/
theorem invariantsAtReset : Obligations.InvariantsAtReset := by
  unfold Obligations.InvariantsAtReset
  refine ⟨⟨fun l => ?_, by decide, by decide⟩, ?_, ?_, ?_⟩
  · cases l <;> exact LaneState.reset_inRange
  · refine ⟨fun l => ?_, by decide, by decide, by decide⟩
    cases l <;> exact LaneState.reset_tablesOk
  · refine ⟨fun l => ?_, fun _ => rfl⟩
    cases l <;> exact fun _ => rfl
  · intro l k h
    cases l <;> cases h

end Sys2Proof.Machine

namespace Sys2Proof.Machine

/-! ### Operations of a lane that keep the ranges -/

namespace LaneState.inRange

variable {x : LaneState}

theorem enterFailed {cause : Nat} (h : x.inRange) : (x.enterFailed cause).inRange := h.of_timing (x.timing_enterFailed cause)

theorem sampleItem {i n : Nat} {v : Rat} (h : x.inRange) : (x.sampleItem i n v).inRange := .ite (fun _ => h) fun _ => h

theorem judgeImage (h : x.inRange) : x.judgeImage.inRange := .ite (fun _ => .raise h) fun _ => h

theorem leaveStart (h : x.inRange) : x.leaveStart.inRange := h.of_timing x.timing_leaveStart

theorem record {role flags object keyId : Nat} {old new : Bytes} (h : x.inRange) : (x.record role flags object keyId old new).1.inRange := by
  unfold LaneState.record
  split
  · exact h.raise
  · exact h

/-- Whether a WRITE is taken or not, no index and no clock register moves. -/
theorem take (h : x.inRange) (m : Msg) (a : Ask) : (x.take m a).1.inRange := by
  unfold LaneState.take
  split
  · exact h
  · next ses q d _ =>
    have h1 : LaneState.inRange { x with ses := ses } := h
    dsimp only
    split
    · exact h
    · split
      · exact h
      · split
        · split
          · exact h
          · split <;> exact h
        · split
          · exact h
          · exact h1.record

/-! Starts and the end of the supply (02 R41; 04 R120, R124, R132). -/

theorem claimCodes (h : x.inRange) : x.claimCodes.inRange := h.codes

/-- A start begins with blank indices and a blank clock. -/
theorem startOver (x : LaneState) (powerUp : Bool) : (x.startOver powerUp).inRange := by
  have h : ∀ y : LaneState, y.frame = FrameState.blank → y.clock = ClockState.blank → y.inRange := fun y ef ec => by
    unfold LaneState.inRange
    rw [ef, ec]
    exact LaneState.reset_inRange
  unfold LaneState.startOver
  dsimp only
  split
  · refine .ite (fun _ => ?_) fun _ => .raise ?_ <;> exact (h _ rfl rfl).claimCodes
  · exact (h _ rfl rfl).claimCodes

theorem seeded (h : x.inRange) (b : Calendar) (q : Seed) : (x.seeded b q).inRange := by
  have hc : ∀ t, (x.clock.at t).inBounds := fun t => ClockState.at_inBounds t h.2
  cases q with
  | other ns q e => exact .codes ⟨h.1, hc ns⟩
  | own => exact ⟨h.1, hc _⟩
  | baize => exact ⟨h.1, hc _⟩
  | image t => exact .raise ⟨h.1, hc _⟩

theorem unpower (x : LaneState) : x.unpower.inRange := LaneState.reset_inRange

/-! Frames of the other lane and of the Baize (02 R40 to R56). -/

theorem takeHeartbeat (h : x.inRange) (b : Heartbeat) (off : Int) : (x.takeHeartbeat b off).inRange := by
  unfold LaneState.takeHeartbeat
  extract_lets _ p _ y0 _ y1 _ y2
  have h0 : y0.inRange := h
  have h1 : y1.inRange := .ite (fun _ => h0) fun _ => h0
  have h2 : y2.inRange := .ite (fun _ => .raise h1) fun _ => h1
  exact h2.judgeImage.sampleItem

theorem becomeActive (h : x.inRange) (l : Lane) (revert : Bool) : (x.becomeActive l revert).inRange := by
  unfold LaneState.becomeActive
  dsimp only
  refine .codes (.alarm ?_)
  split <;> exact h

theorem standDown (h : x.inRange) (isolated : Bool) : (x.standDown isolated).inRange := .ite (fun _ => .raise h) fun _ => h

theorem takeAbdication (h : x.inRange) (b : Heartbeat) (u : Bool) : (x.takeAbdication b u).inRange := .ite (fun _ => h) fun _ => h

theorem takeStatus (h : x.inRange) (b : BaizeStatus) : (x.takeStatus b).inRange :=
  .ite (fun _ => h) fun _ => .ite (fun _ => .enterFailed h) fun _ => h

/-! Keys and supply (03 R99, R100; 04 R115 to R124). -/

theorem abortWrite {reason : Nat} (h : x.inRange) : (x.abortWrite reason).inRange := h.of_timing (x.timing_abortWrite _)

theorem answerClose {w : KeyWrite} {status reason : Nat} (h : x.inRange) : (x.answerClose w status reason).inRange := by
  unfold LaneState.answerClose
  split <;> exact h

theorem verified (h : x.inRange) (key : Option Key) (v : Variant) : (x.verified key v).inRange := by
  unfold LaneState.verified
  split
  · next w _ =>
    have hq : ∀ owner old new, (x.record 2 2 0x1312 owner old new).1.inRange := fun _ _ _ => h.record
    dsimp only
    split
    · exact h
    · split
      · exact h.abortWrite.answerClose
      · exact .answerClose (hq _ _ _)
  · exact h

theorem loseFeed (h : x.inRange) (feed reading : Nat) : (x.loseFeed feed reading).inRange := .ite (fun _ => .codes h) fun _ => h

theorem noteBothLost (h : x.inRange) : x.noteBothLost.inRange := .ite (fun _ => .raise h) fun _ => h

theorem loseSerial (h : x.inRange) (second : Bool) : (x.loseSerial second).inRange :=
  .ite (fun _ => .ite (fun _ => .codes h) fun _ => .codes h) fun _ => h

/-! Registers, steps and transfers (15 R439 to R441, R449). -/

end LaneState.inRange

theorem ClockState.write_inBounds {c : ClockState} (h : c.inBounds) (reg : Reg) (v : Nat) : (c.write reg v).inBounds := by
  obtain ⟨hl, hh, hs⟩ := h
  unfold ClockState.write
  split
  case h_4 => split <;> exact ⟨hl, hh, hs⟩
  case h_6 => exact ⟨hl, hh, slewValue_bounds _⟩
  all_goals exact ⟨hl, hh, hs⟩

theorem ClockState.setIncr_inBounds {c : ClockState} (h : c.inBounds) (v : Nat) : (c.setIncr v).inBounds :=
  ⟨(c.setIncr_bounds v).1, (c.setIncr_bounds v).2, h.2.2⟩

/-- A write of INCR_FRAC_HI sets INCR within its bounds. -/
theorem ClockState.loadIncr_eq (c : ClockState) (v : Nat) : ∃ w k, c.loadIncr v = { c.setIncr w with incrHi := k } := ⟨_, _, rfl⟩

theorem ClockState.loadIncr_inBounds {c : ClockState} (h : c.inBounds) (v : Nat) : (c.loadIncr v).inBounds := by
  obtain ⟨w, k, e⟩ := c.loadIncr_eq v
  rw [e]
  exact ClockState.setIncr_inBounds h w

theorem ClockState.slewDone_inBounds {c : ClockState} (h : c.inBounds) : c.slewDone.inBounds := by
  have h0 : -slewMax ≤ 0 ∧ (0 : Int) ≤ slewMax := by decide
  unfold ClockState.slewDone
  split
  · exact ⟨h.1, h.2.1, h0⟩
  · exact h

/-- A step sets TICK_SLEW to 0 or to one of its bounds. -/
theorem ClockState.applyStep_inBounds {c : ClockState} (h : c.inBounds) : c.applyStep.inBounds := by
  have hb : ∀ off : Int, -slewMax ≤ (if off = 0 then 0 else if 0 < off then -slewMax else slewMax) ∧
      (if off = 0 then 0 else if 0 < off then -slewMax else slewMax) ≤ slewMax := fun off => by
    have : (0 : Int) ≤ slewMax := by decide
    split
    · omega
    · split <;> omega
  exact ⟨h.1, h.2.1, hb _⟩

theorem ClockState.takeOffset_inBounds {c : ClockState} (h : c.inBounds) (off : Int) : (c.takeOffset off).inBounds := by
  unfold ClockState.takeOffset
  split <;> exact h

theorem ClockState.steer_inBounds {c : ClockState} (h : c.inBounds) (n : Nat) : (c.steer n).inBounds := by
  have hm := Nat.mod_lt n (show 0 < incrHigh - incrLow + 1 by decide)
  have hi : incrLow ≤ incrLow + n % (incrHigh - incrLow + 1) ∧ incrLow + n % (incrHigh - incrLow + 1) ≤ incrHigh := by
    have := incrLow_le_incrHigh
    omega
  unfold ClockState.steer
  exact ⟨hi.1, hi.2, h.2.2⟩

/-- The next tick sets the time counter and what counts ticks. -/
theorem ClockState.frame_eq (c : ClockState) :
    ∃ t f k a b, c.frame = { c.at t with frac := f, tickAt := k, tickOffset := a, slewLeft := b } := ⟨_, _, _, _, _, rfl⟩

theorem ClockState.frame_inBounds {c : ClockState} (h : c.inBounds) : c.frame.inBounds := by
  obtain ⟨t, f, k, a, b, e⟩ := c.frame_eq
  rw [e]
  exact ClockState.at_inBounds t h

namespace LaneState.inRange

variable {x : LaneState}

theorem withClock (h : x.inRange) {f : ClockState → ClockState} (hf : (f x.clock).inBounds) : (x.withClock f).inRange := ⟨h.1, hf⟩

theorem takeUp (h : x.inRange) (off : Int) (adds : Nat) : (x.takeUp off adds).inRange :=
  .codes ⟨h.1, ClockState.takeOffset_inBounds h.2 off⟩

theorem writeReg (h : x.inRange) (reg : Reg) (v : Nat) (q : Rat) : (x.writeReg reg v q).inRange := by
  cases reg
  case incrNs | incrLo | stepS | stepNs | clockFlags | tickSlew => exact ⟨h.1, ClockState.write_inBounds h.2 _ _⟩
  all_goals exact h

theorem stepPulses (h : x.inRange) (old new : Nat) : (x.stepPulses old new).inRange := .codes h

theorem shiftTimes (h : x.inRange) (d : Int) : (x.shiftTimes d).inRange := h

theorem applyStep (h : x.inRange) : x.applyStep.inRange := by
  unfold LaneState.applyStep
  extract_lets d base c _ y0 y1 y2 y3 r
  have h0 : y0.inRange := ⟨h.1, ClockState.applyStep_inBounds h.2⟩
  have h1 : y1.inRange := (h0.stepPulses _ _).shiftTimes _
  have h2 : y2.inRange := h1.alarm
  have h3 : y3.inRange := .ite (fun _ => h2) fun _ => h2.raise
  exact .codes h3

theorem transfer (h : x.inRange) (item : MuslinItem) : (x.transfer item).inRange := by
  cases item with
  | fbArm n => exact .codes h
  | anChannel n start alt => exact .codes h
  | ephemeris e => exact .ite (fun _ => .ite (fun _ => h) fun _ => h) fun _ => h
  | timeTransfer ns => exact h
  | aiding leap => exact h
  | coeffCrcs crcs => exact .codes h

end LaneState.inRange
end Sys2Proof.Machine

namespace Sys2Proof.Machine

/-! ### The ticks of a lane -/

namespace LaneState.inRange

variable {x : LaneState}

/-- The lane takes up a slot and a motion index that are in range. -/
theorem withIndices (h : x.inRange) {slot motion : Nat} (hs : slot < 20) (hm : motion < 50) :
    ({ x with frame := { x.frame with slot := slot, motion := motion, adopted := true } } : LaneState).inRange :=
  ⟨⟨hs, hm, h.1.2.2⟩, h.2⟩

theorem adoptIndices (h : x.inRange) : x.adoptIndices.inRange := by
  have own := (h.withIndices h.1.1 h.1.2.1).clear (c := ⟨.ln, 32⟩) (i := 0)
  unfold LaneState.adoptIndices
  split
  · exact h
  · dsimp only
    split
    · exact .ite (fun _ => .ite (fun _ => .clear (h.withIndices (Nat.zero_lt_succ _) (Nat.mod_lt _ (Nat.zero_lt_succ _)))) fun _ => h) fun _ => own
    · exact own

theorem nextTick (h : x.inRange) : x.nextTick.inRange := by
  obtain ⟨⟨hs, hm, hmi⟩, hc⟩ := h
  obtain ⟨ns, nm⟩ := nextIndex_range hs hm
  exact .adoptIndices ⟨⟨ns, nm, hmi⟩, ClockState.frame_inBounds hc⟩

theorem age (h : x.inRange) : x.age.inRange := .codes h

theorem advanceCalendar (h : x.inRange) (ok : Bool) : (x.advanceCalendar ok).inRange := .codes h

/-- The first tick sets the indices modulo their ranges, and of the clock the time. -/
theorem firstTick_eq (x : LaneState) : ∃ t k i, x.firstTick =
    { x with clock := { x.clock.at t with frac := 0, tickAt := k },
             frame := { x.frame with ticked := true, adopted := true, slot := i % 20, motion := i / 20 % 50 } } := ⟨_, _, _, rfl⟩

theorem firstTick (h : x.inRange) : x.firstTick.inRange := by
  obtain ⟨t, k, i, e⟩ := firstTick_eq x
  rw [e]
  exact ⟨⟨Nat.mod_lt _ (by decide), Nat.mod_lt _ (by decide), h.1.2.2⟩, ClockState.at_inBounds t h.2⟩

theorem readSupply (h : x.inRange) (a : Ambient) : (x.readSupply a).inRange := .codes h
theorem takeTests (h : x.inRange) (t : TestIn) : (x.takeTests t).inRange := .codes h

theorem steer (h : x.inRange) (n : Nat) : (x.withClock fun c => c.steer n).inRange := h.withClock (ClockState.steer_inBounds h.2 n)

theorem latch (h : x.inRange) (g : PulseSource) (inp : MicroIn) : (x.latch g inp).inRange := h
theorem measureActs (h : x.inRange) : x.measureActs.inRange := .ite (fun _ => h) fun _ => h
theorem runAxes (h : x.inRange) : x.runAxes.inRange := .ite (fun _ => .codes h) fun _ => h
theorem readOutputs (h : x.inRange) (driving : Bool) (rbs : List (Option (Rat × Bool))) : (x.readOutputs driving rbs).inRange :=
  .ite (fun _ => h) fun _ => .codes h

/-- The microframe index goes through 0 to 7. -/
theorem nextMicro (h : x.inRange) : ({ x with frame := { x.frame with micro := (x.frame.micro + 1) % 8 } } : LaneState).inRange :=
  ⟨⟨h.1.1, h.1.2.1, Nat.mod_lt _ (Nat.zero_lt_succ _)⟩, h.2⟩

end LaneState.inRange

/-- The contacts are no index. -/
theorem BaizeState.index_closeContacts (b : BaizeState) (l : Lane) : (b.closeContacts l).index = b.index := by
  unfold BaizeState.closeContacts
  split <;> rfl

namespace State.indicesOk

variable {s : State} {l : Lane}

theorem takeMeasurement (h : s.indicesOk) (off : Int) : (s.takeMeasurement l off).indicesOk := by
  have hx : ∀ n k, (((s.lane l).takeUp off n).withClock fun c => c.steer k).inRange := fun n k => ((h.lane l).takeUp off n).steer k
  unfold State.takeMeasurement
  extract_lets x
  split
  · refine State.indicesOk.tick ?_
    refine State.indicesOk.setLane h ?_
    exact hx _ _
  · exact h

theorem timeFrame (h : s.indicesOk) (t : TimeIn) : (s.timeFrame l t).indicesOk := by
  unfold State.timeFrame
  extract_lets x r u
  have hx : ({ x with src := r.1 } : LaneState).inRange := h.lane l
  have hu : u.indicesOk := h.setLane (.codes hx)
  split
  · exact hu.takeMeasurement _
  · exact hu

theorem setCalendars (h : s.indicesOk) (oldS : Nat) : (s.setCalendars l oldS).indicesOk := by
  unfold State.setCalendars
  extract_lets x due leap y _ z t
  have hy : y.inRange := .ite (fun _ => h.lane l) fun _ => h.lane l
  have hz : z.inRange := .ite (fun _ => hy) fun _ => hy
  exact .ite (fun _ => .ite (fun _ => (h.setLane hz).onBaize rfl) fun _ => h.setLane hz) fun _ => h

theorem advanceFrame (h : s.indicesOk) (inp : FrameIn) : (s.advanceFrame l inp).indicesOk := by
  unfold State.advanceFrame
  extract_lets x y _ _ _ z t
  have hy : y.inRange := .ite (fun _ => ((h.lane l).advanceCalendar _).nextTick.age) fun _ => (h.lane l).firstTick
  have hz : z.inRange := hy
  have ht : t.indicesOk := h.setLane ((hz.readSupply _).takeTests _)
  exact .ite (fun _ => (ht.timeFrame _).setCalendars _) fun _ => ht

/-- A tick of another lane leaves a lane's indices and clock, and the Baize's indices. -/
theorem of_beside (h : s.indicesOk) {t : State} (hl : (t.lane l).inRange) (hb : t.beside l = s.beside l) : t.indicesOk := by
  have ho : (t.lane l.other).unshared = (s.lane l.other).unshared := congrArg Beside.other hb
  refine h.of_lanes (fun k => ?_) (congrArg Beside.index hb)
  obtain rfl | rfl := Lane.eq_or_other l k
  · exact hl
  · rw [LaneState.eq_of_unshared ho]
    exact h.lane _

theorem endFrame (h : s.indicesOk) (inp : FrameIn) : (s.endFrame l inp).indicesOk :=
  h.of_beside ((h.lane l).of_timing (s.timing_endFrame l inp)) (s.beside_endFrame l inp)

/-- The tick ends a frame, advances the indices and clears the microframe index. -/
theorem frameTick (h : s.indicesOk) (inp : FrameIn) : (s.frameTick l inp).indicesOk := by
  obtain ⟨hf, hc⟩ := ((h.endFrame (l := l) inp).advanceFrame inp).lane l
  have hx : ({ ((s.endFrame l inp).advanceFrame l inp).lane l with
      frame := { (((s.endFrame l inp).advanceFrame l inp).lane l).frame with micro := 0 } } : LaneState).inRange :=
    ⟨⟨hf.1, hf.2.1, Nat.zero_lt_succ _⟩, hc⟩
  exact h.of_beside (hx.of_timing (s.timing_frameTick l inp)) (s.beside_frameTick l inp)

theorem writeAnalog (h : s.indicesOk) : (s.writeAnalog l).indicesOk := .ite (fun _ => h) fun _ => h
theorem writeDiscrete (h : s.indicesOk) : (s.writeDiscrete l).indicesOk := .ite (fun _ => h) fun _ => h
theorem stageCommands (h : s.indicesOk) : (s.stageCommands l).indicesOk := .ite (fun _ => h.setLane (h.lane l)) fun _ => h

theorem microTick (h : s.indicesOk) (inp : MicroIn) : (s.microTick l inp).indicesOk := by
  have hb : (s.onBaize fun b => if (s.lane l).frame.micro = 0 then b.closeContacts l else b).indicesOk := by
    refine h.onBaize ?_
    split
    · exact s.baize.index_closeContacts l
    · rfl
  have hx := (((hb.lane l).latch s.pulse inp).measureActs).runAxes
  have hv := hb.onLane (f := fun x => ((x.latch s.pulse inp).measureActs).runAxes) hx
  have hu := ((hv.writeAnalog (l := l)).writeDiscrete (l := l)).stageCommands (l := l)
  exact hu.onLane ((hu.lane l).readOutputs _ _).nextMicro

end State.indicesOk
end Sys2Proof.Machine

namespace Sys2Proof.Machine

/-! ### The Baize's referee leaves its indices (02 R48) -/

namespace BaizeState

theorem index_codes (b : BaizeState) (ops : List AlarmOp) : (b.codes ops).index = b.index := rfl
theorem index_setView (b : BaizeState) (l : Lane) (v : LaneView) : (b.setView l v).index = b.index := by cases l <;> rfl

theorem index_ite {c : Prop} [Decidable c] {b d e : BaizeState} (h : b.index = e.index) (k : d.index = e.index) :
    (if c then b else d).index = e.index := by
  split
  · exact h
  · exact k

theorem index_declare (b : BaizeState) (l : Lane) (demote : Bool) : (b.declare l demote).index = b.index :=
  (index_setView _ _ _).trans (index_setView _ _ _)

theorem index_standbyFailed (b : BaizeState) (l : Lane) : (b.standbyFailed l).index = b.index := by
  unfold BaizeState.standbyFailed
  extract_lets v c o
  have hc : c.index = b.index := index_setView _ _ _
  exact index_ite ((index_setView _ _ _).trans hc) hc

theorem index_grant (b : BaizeState) (home : Lane) : (b.grant home).index = b.index := by
  unfold BaizeState.grant
  refine index_ite rfl ?_
  extract_lets ls
  cases ls with
  | nil => rfl
  | cons l _ => exact index_setView _ _ _

theorem index_watchActive (b : BaizeState) : b.watchActive.index = b.index := by
  unfold BaizeState.watchActive
  split
  · exact index_ite (index_declare _ _ _) (index_ite (index_declare _ _ _) rfl)
  · rfl

theorem index_watchStandby (b : BaizeState) : b.watchStandby.index = b.index :=
  foldl_keeps BaizeState.index _ (fun c l => index_ite (c.index_standbyFailed l) rfl) _ b

theorem index_countHoldoff (b : BaizeState) (home : Lane) (muslin : Bool) : (b.countHoldoff home muslin).index = b.index := index_ite rfl rfl

theorem index_orderSwitch (b : BaizeState) (muslin : Bool) : (b.orderSwitch muslin).index = b.index := by
  unfold BaizeState.orderSwitch
  split
  · exact index_ite rfl rfl
  · rfl

theorem index_judge (b : BaizeState) (home : Lane) : (b.judge home).index = b.index := by
  unfold BaizeState.judge
  extract_lets muslin c
  have hc : c.index = b.index := (index_watchStandby _).trans ((index_codes _ _).trans b.index_watchActive)
  refine index_ite rfl ?_
  rw [index_grant, index_orderSwitch, index_countHoldoff, hc]

theorem index_sendStatus (b : BaizeState) : b.sendStatus.index = b.index := rfl

theorem index_vote (b : BaizeState) (g : PulseSource) (inp : BaizeIn) : (b.vote g inp).index = b.index := by
  unfold BaizeState.vote
  split <;> rfl

theorem index_pickSafe (b : BaizeState) (home : Lane) : (b.pickSafe home).index = b.index := by
  unfold BaizeState.pickSafe
  extract_lets shows
  split
  · exact index_ite rfl rfl
  · exact index_ite rfl (index_ite rfl rfl)
  · rfl

theorem index_takeAbdication (b : BaizeState) (l home : Lane) (h : Heartbeat) : (b.takeAbdication l home h).index = b.index := by
  unfold BaizeState.takeAbdication
  extract_lets _ c
  have hc : c.index = b.index := b.index_setView l _
  rw [index_sendStatus]
  refine index_ite ?_ (index_ite hc ?_)
  · rw [index_grant, index_declare, hc]
  · rw [index_standbyFailed, hc]

/-- The frame slot and the motion index of the Baize are in their ranges. -/
def inRange (b : BaizeState) : Prop := b.slot < 20 ∧ b.motion < 50

theorem inRange.of_index {b c : BaizeState} (h : b.inRange) (e : c.index = b.index) : c.inRange := by
  obtain ⟨es, em⟩ := Prod.mk.inj e
  exact ⟨es ▸ h.1, em ▸ h.2⟩

theorem count_inRange (b : BaizeState) (inp : BaizeIn) : (b.count inp).inRange :=
  ⟨Nat.mod_lt _ (Nat.zero_lt_succ _), Nat.mod_lt _ (Nat.zero_lt_succ _)⟩

/-- A heartbeat that the parser lets through carries indices in range. -/
theorem inRange.takeHeartbeat {b : BaizeState} (hb : b.inRange) {bs : Bytes} {h : Heartbeat} (e : parseHeartbeat bs = some h) (l home : Lane) :
    (b.takeHeartbeat l home h).inRange := by
  unfold BaizeState.takeHeartbeat
  extract_lets v0 v _ c
  have hc : c.inRange := hb.of_index (b.index_setView l v)
  split
  · exact parseHeartbeat_range e
  · exact hc

end BaizeState

/-! ### The operations of the block -/

namespace State.indicesOk

variable {s t : State} {l : Lane}

theorem of_parts (ha : t.laneA.inRange) (hb : t.laneB.inRange) (hz : t.baize.inRange) : t.indicesOk :=
  ⟨fun l => by cases l; exacts [ha, hb], hz⟩

theorem laneA (h : s.indicesOk) : s.laneA.inRange := h.lane .a
theorem laneB (h : s.indicesOk) : s.laneB.inRange := h.lane .b
theorem baize (h : s.indicesOk) : s.baize.inRange := h.2

theorem withBaize (h : s.indicesOk) {f : BaizeState → BaizeState} (hf : (f s.baize).inRange) : (s.onBaize f).indicesOk :=
  of_parts h.laneA h.laneB hf

theorem pulse (h : s.indicesOk) (p : PulseSource) : ({ s with pulse := p } : State).indicesOk := of_parts h.laneA h.laneB h.baize

theorem queue (h : s.indicesOk) (q : List Instr) : ({ s with pending := q } : State).indicesOk := of_parts h.laneA h.laneB h.baize

theorem canvas (h : s.indicesOk) (c : CanvasState) : ({ s with canvas := c } : State).indicesOk := of_parts h.laneA h.laneB h.baize

theorem runningCodes (h : s.indicesOk) (ops : List AlarmOp) : (s.runningCodes ops).indicesOk := by
  have hf : ∀ x : LaneState, x.inRange → (if x.runs then x.codes ops else x).inRange := fun x hx => .ite (fun _ => .codes hx) fun _ => hx
  exact of_parts (hf _ h.laneA) (hf _ h.laneB) h.baize

theorem reportLost (h : s.indicesOk) : s.reportLost.indicesOk := h.runningCodes s.lostCodes

theorem fail (h : s.indicesOk) (cause : Nat) : (s.fail l cause).indicesOk :=
  h.of_beside ((h.lane l).of_timing (s.timing_fail l cause)) (s.beside_fail l cause)

theorem restart (h : s.indicesOk) : (s.restart l).indicesOk := by
  unfold State.restart
  extract_lets x up y _ _ z
  have hy : y.inRange := .startOver x up
  have hz : z.inRange := .ite (fun _ => hy) fun _ => hy
  exact (h.setLane hz).onBaize rfl

theorem supersede (h : s.indicesOk) (active : Bool) (seq : Nat) : (s.supersede l active seq).indicesOk :=
  .ite (fun _ => h.onLane (h.lane l).enterFailed) fun _ => h

theorem onPartner (h : s.indicesOk) (f : PartnerState → PartnerState) : (s.onPartner f).indicesOk := of_parts h.laneA h.laneB h.baize

theorem followMask (h : s.indicesOk) : s.followMask.indicesOk := by
  unfold State.followMask
  split
  · exact .ite (fun _ => h) fun _ => h.pulse _
  · exact h

theorem onLane_raise (h : s.indicesOk) {c : Code} {i k : Nat} : (s.onLane l fun x => x.raise c i k).indicesOk := h.onLane (h.lane l).raise

theorem adoptSafe (h : s.indicesOk) : s.adoptSafe.indicesOk := by
  unfold State.adoptSafe
  split
  · refine followMask (onLane_raise (of_parts ?_ ?_ ?_))
    exacts [h.laneA, h.laneB, h.baize]
  · exact h

theorem onVoter (h : s.indicesOk) (u : Unit3) (f : Voter → Voter) : (s.onVoter u f).indicesOk := by
  cases u with
  | lane l => exact h.onLane (h.lane l)
  | baize => exact h.onBaize rfl

theorem feedBaize (h : s.indicesOk) : s.feedBaize.indicesOk :=
  .ite (fun _ => h) fun _ => h.withBaize ⟨Nat.zero_lt_succ _, Nat.zero_lt_succ _⟩

theorem enterUnrefereed (h : s.indicesOk) : s.enterUnrefereed.indicesOk :=
  .ite (fun _ => of_parts h.laneA.codes h.laneB.codes h.baize) fun _ => h

theorem starveCanvas (h : s.indicesOk) : s.starveCanvas.indicesOk := .ite (fun _ => h) fun _ => h.canvas _

theorem flip (h : s.indicesOk) (bank keyId : Nat) : (s.flip l bank keyId).indicesOk := by
  unfold State.flip
  extract_lets x
  split
  · refine .ite (fun _ => h) fun _ => ?_
    extract_lets g
    refine setKey (h.setLane ?_) _
    exact h.lane l
  · exact h

theorem closeWrite (h : s.indicesOk) (seq : Nat) : (s.closeWrite l seq).indicesOk := by
  unfold State.closeWrite
  extract_lets x
  split
  · extract_lets q
    refine setKey (h.setLane ?_) _
    exact h.lane l
  · exact h

theorem writeChunk (h : s.indicesOk) (data : Bytes) : (s.writeChunk l data).indicesOk := by
  unfold State.writeChunk
  extract_lets x
  split
  · extract_lets q
    refine setKey (h.setLane ?_) _
    exact h.lane l
  · exact h

theorem makerWrite (h : s.indicesOk) (op : MakerOp) : (s.makerWrite l op).indicesOk := by
  unfold State.makerWrite
  split
  case h_4 =>
    split
    · exact h.setKey _
    · exact h
  all_goals exact h.onLane (h.lane l)

/-- A command takes its message, and where the gate lets it through, has its effect. -/
theorem command (h : s.indicesOk) (m : Msg) (a : Ask) {effect : State → State} (he : ∀ u, u.indicesOk → (effect u).indicesOk) :
    (s.command l m a effect).indicesOk := by
  unfold State.command
  extract_lets r s'
  have hs' : s'.indicesOk := h.setLane ((h.lane l).take m a)
  exact .ite (fun _ => he s' hs') fun _ => hs'

/-- A command whose effect is a change of a lane that keeps it in range. -/
theorem commandOn (h : s.indicesOk) (m : Msg) (a : Ask) (k : Lane) {f : LaneState → LaneState} (hf : ∀ x : LaneState, x.inRange → (f x).inRange) :
    (s.command l m a fun t => t.onLane k f).indicesOk := h.command m a fun _ hu => hu.onLane (hf _ (hu.lane k))

theorem post (h : s.indicesOk) (c : CtrlCmd) : (s.post l c).indicesOk := h.onLane (h.lane l)

end State.indicesOk
end Sys2Proof.Machine

namespace Sys2Proof.Machine

/-! ### Commands of the lanes and of the pair keep the ranges (02 R36 to R73) -/

namespace LaneState.inRange

variable {x : LaneState}

theorem install (h : x.inRange) (l : Lane) (i : Image) (b : Bool) (a : Option (List AnChan)) : (x.install l i b a).inRange := h
theorem selfTestCodes (h : x.inRange) (l : Lane) (b : Calendar) (t : StartTest) : (x.selfTestCodes l b t).inRange := by
  unfold LaneState.selfTestCodes
  extract_lets
  exact .codes h
theorem storeCopy (h : x.inRange) (c : StateCopy) : (x.storeCopy c).inRange := h
theorem follow (h : x.inRange) (c : StateCopy) : (x.follow c).inRange := h
theorem flush (h : x.inRange) : x.flush.inRange := h
theorem hearTraffic (h : x.inRange) (l : Lane) (bus : Nat) (f : CanFrame) : (x.hearTraffic l bus f).inRange := .ite (fun _ => h) fun _ => h
theorem compareSafe (h : x.inRange) (l : Lane) : (x.compareSafe l).inRange := by
  unfold LaneState.compareSafe
  split
  · exact .codes h
  · exact h
theorem withOut (h : x.inRange) (n : Nat) (f : Anou → AnOut → AnOut × List AlarmOp) : (x.withOut n f).inRange :=
  h.of_changes (LaneState.withOut_changes _ _ _)
theorem queueChannel (h : x.inRange) (n : Nat) (start alt : Bool) : (x.queueChannel n start alt).inRange := .codes h
theorem armChannel (h : x.inRange) (n : Nat) : (x.armChannel n).inRange := .codes h
theorem onPulse (h : x.inRange) (g : Nat) (f : PulseGen → PulseGen × List AlarmOp) : (x.onPulse g f).inRange := .codes h
theorem acknowledge (h : x.inRange) (c : Code) (item : Nat) : (x.acknowledge c item).inRange := h
theorem snapshot (h : x.inRange) : (x.withClock fun c => c.snapshot x.frame.number).inRange := h

end LaneState.inRange

section
variable {s t : State} {l : Lane}

theorem State.indicesOk.of_eq {u : State} (h : t = u) (hu : u.indicesOk) : t.indicesOk := h ▸ hu

theorem State.indicesOk.of_next {u : State} (h : (.next u : Result) = .next t) (hu : u.indicesOk) : t.indicesOk := next_inj h ▸ hu

variable (hs : s.indicesOk)
include hs
open State.indicesOk

theorem execLanePowerUp_keeps {feed : Nat} (h : execLanePowerUp l feed s = .next t) : t.indicesOk := by
  refine of_next h (.ite (fun _ => ?_) fun _ => hs)
  extract_lets y _ _ z u
  have hz : z.inRange := LaneState.inRange.startOver _ true
  have hu : u.indicesOk := (hs.setLane hz).onBaize rfl
  exact .ite (fun _ => hu) fun _ => of_parts hu.laneA hu.laneB hu.baize

theorem execBootComplete_keeps {err : Int} (h : execBootComplete l err s = .next t) : t.indicesOk := by
  refine of_next h (.ite (fun _ => ?_) fun _ => hs)
  extract_lets w y
  have hw : w.inRange := hs.lane l
  have hy : y.inRange := hw.seeded _ _
  refine hs.tick.setLane ?_
  exact hy

theorem execBootWatchdogReset_keeps (h : execBootWatchdogReset l s = .next t) : t.indicesOk := by
  refine of_next h (.ite (fun _ => ?_) fun _ => hs)
  extract_lets _ y z
  have hz : z.inRange := LaneState.inRange.startOver y false
  exact hs.setLane (.ite (fun _ => hz.enterFailed) fun _ => hz)

theorem execKeyCheckComplete_keeps (h : execKeyCheckComplete l s = .next t) : t.indicesOk := by
  refine of_next h (.ite (fun _ => ?_) fun _ => hs)
  extract_lets r y
  have hy : y.inRange := .codes (hs.lane l)
  split
  · extract_lets z0 _ z
    have h0 : z0.inRange := hy.install _ _ _ _
    have hz : z.inRange := h0
    exact hs.setLane hz.codes
  · exact (hs.setLane hy).fail _

theorem execStartSelfTestComplete_keeps {test : StartTest} (h : execStartSelfTestComplete l test s = .next t) : t.indicesOk := by
  refine of_next h (.ite (fun _ => ?_) fun _ => hs)
  extract_lets y
  have hy : y.inRange := (hs.lane l).selfTestCodes _ _ _
  have hz : ∀ f : LifeState, ({ y with life := f } : LaneState).inRange := fun _ => hy
  split
  · exact hs.setLane (hz _).leaveStart
  · exact fail (hs.setLane (hz _)) _

theorem execHeartbeatReceived_keeps {dest : Unit3} {bytes : Bytes} {off : Int} (h : execHeartbeatReceived dest bytes off s = .next t) :
    t.indicesOk := by
  refine of_next h ?_
  split
  · exact hs
  · rename_i b e
    cases dest with
    | lane d => exact .ite (fun _ => (hs.onLane ((hs.lane d).takeHeartbeat b off)).supersede _ _) fun _ => hs
    | baize => exact .ite (fun _ => (hs.withBaize (hs.baize.takeHeartbeat e _ _)).adoptSafe) fun _ => hs

theorem execStateCopyReceived_keeps {damage : Nat} (h : execStateCopyReceived l damage s = .next t) : t.indicesOk := by
  refine of_next h ?_
  split
  · refine .ite (fun _ => ?_) fun _ => hs
    extract_lets y
    have hy : y.inRange := (hs.lane l).storeCopy _
    exact hs.setLane (.ite (fun _ => hy.follow _) fun _ => hy)
  · exact hs

theorem execAbdicationFrameReceived_keeps {dest : Unit3} {bytes : Bytes} (h : execAbdicationFrameReceived dest bytes s = .next t) :
    t.indicesOk := by
  refine of_next h ?_
  split
  · exact hs
  · cases dest with
    | lane d => exact .ite (fun _ => hs.onLane ((hs.lane d).takeAbdication _ _)) fun _ => hs
    | baize => exact .ite (fun _ => hs.onBaize (BaizeState.index_takeAbdication _ _ _ _)) fun _ => hs

theorem execBaizeTick_keeps {inp : BaizeIn} (h : execBaizeTick inp s = .next t) : t.indicesOk := by
  refine of_next h (reportLost (.ite (fun _ => ?_) fun _ => hs))
  extract_lets u
  have hb : (((s.baize.count inp).vote s.pulse inp).pickSafe s.home).inRange :=
    (s.baize.count_inRange inp).of_index ((BaizeState.index_pickSafe _ _).trans (BaizeState.index_vote _ _ _))
  have hu : u.indicesOk := (hs.withBaize (f := fun b => ((b.count inp).vote s.pulse inp).pickSafe s.home) hb).followMask
  exact (State.indicesOk.ite (fun _ => hu.onBaize (BaizeState.index_judge _ _)) fun _ => hu).onBaize (BaizeState.index_sendStatus _)

theorem execBaizeStatusReceived_keeps {bytes : Bytes} (h : execBaizeStatusReceived l bytes s = .next t) : t.indicesOk := by
  refine of_next h ?_
  split
  · exact hs.onLane (.ite (fun _ => (hs.lane l).takeStatus _) fun _ => hs.lane l)
  · exact hs

theorem execTakeover_keeps (h : execTakeover l s = .next t) : t.indicesOk :=
  of_next h (.ite (fun _ => (hs.setLane ((hs.lane l).becomeActive l false)).onBaize (BaizeState.index_ite rfl rfl)) fun _ => hs)

theorem execCommandedSwitchover_keeps (h : execCommandedSwitchover l s = .next t) : t.indicesOk :=
  of_next h (.ite (fun _ => ((hs.setLane ((hs.lane l).becomeActive l _)).setLane ((hs.lane l.other).standDown _)).onBaize rfl) fun _ => hs)

theorem execHomeOnlyPeriodEnd_keeps (h : execHomeOnlyPeriodEnd s = .next t) : t.indicesOk :=
  of_next h (.ite (fun _ => hs.onBaize ((BaizeState.index_sendStatus _).trans (BaizeState.index_ite (BaizeState.index_grant _ _) rfl))) fun _ => hs)

theorem execRevertHoldoffEnd_keeps (h : execRevertHoldoffEnd s = .next t) : t.indicesOk := by
  refine of_next h ?_
  split
  · exact .ite (fun _ => hs.onBaize ((BaizeState.index_sendStatus _).trans (BaizeState.index_orderSwitch _ _))) fun _ => hs
  · exact hs

theorem execBaizeAbsent_keeps (h : execBaizeAbsent l s = .next t) : t.indicesOk :=
  of_next h (.ite (fun _ => enterUnrefereed (hs.onLane (LaneState.inRange.codes (x := { s.lane l with link := _, life := _ }) (hs.lane l))))
    fun _ => hs)

theorem execBaizePresentAgain_keeps (h : execBaizePresentAgain s = .next t) : t.indicesOk :=
  of_next h (.ite (fun _ => of_parts (.codes hs.laneA) (.codes hs.laneB) (hs.baize.of_index (BaizeState.index_ite rfl rfl))) fun _ => hs)

theorem execLaneSwitch_keeps {m : Msg} (h : execLaneSwitch l m s = .next t) : t.indicesOk := by
  refine of_next h ?_
  split
  · exact hs.command _ _ fun _ hu => hu.onBaize rfl
  · exact hs.command _ _ fun _ hu => hu

theorem execLaneIsolate_keeps {m : Msg} {v : Nat} (h : execLaneIsolate l m v s = .next t) : t.indicesOk := by
  refine of_next h ?_
  split
  · exact hs.commandOn _ _ _ fun _ hx => .ite (fun _ => .raise hx) fun _ => .codes hx
  · exact hs.command _ _ fun _ hu => hu

theorem execLaneAdoptImage_keeps {m : Msg} (h : execLaneAdoptImage l m s = .next t) : t.indicesOk := by
  refine of_next h ?_
  split
  · exact hs.command _ _ fun _ hu => hu.onBaize rfl
  · exact hs.command _ _ fun _ hu => hu

theorem execLaneRestart_keeps {m : Msg} {target : Lane} (h : execLaneRestart l m target s = .next t) : t.indicesOk := by
  refine of_next h (hs.command _ _ fun u hu => ?_)
  have hw := (hu.fail (l := target) 6).restart (l := target)
  exact hw.onLane (hw.lane target)

/-! ### The partner pair (02 R74 to R78) -/

theorem execPartnerMessageReceived_keeps {bytes : Bytes} (h : execPartnerMessageReceived l bytes s = .next t) : t.indicesOk := by
  refine of_next h ?_
  split
  · exact .ite (fun _ => ((hs.onLane (hs.lane l)).onPartner _).runningCodes _) fun _ => hs
  · exact hs

/-! ### Keys, feeds and the commands that only one lane takes (03, 04) -/

theorem execCellarWriteTimeout_keeps (h : execCellarWriteTimeout l s = .next t) : t.indicesOk := by
  refine of_next h (hs.onLane ?_)
  split
  · exact .ite (fun _ => (hs.lane l).abortWrite) fun _ => hs.lane l
  · exact hs.lane l

theorem execCellarKeyRemoved_keeps (h : execCellarKeyRemoved l s = .next t) : t.indicesOk := by
  have hk : (s.setKey l none).indicesOk := hs.setKey none
  exact of_next h (hk.onLane (.ite (fun _ => .raise (hk.lane l)) fun _ => hk.lane l))

theorem execKeyStoreAdd_keeps {m : Msg} {signer : Bool} {keyId kind : Nat} {key : Bytes}
    (h : execKeyStoreAdd l m signer keyId kind key s = .next t) : t.indicesOk := by
  refine of_next h (hs.commandOn _ _ _ fun x hx => ?_)
  split
  · exact .codes hx
  · exact hx

theorem execFeedGood_keeps {feed reading : Nat} (h : execFeedGood l feed reading s = .next t) : t.indicesOk := by
  have hy : ∀ p : PowerState, ({ s.lane l with power := p } : LaneState).inRange := fun _ => hs.lane l
  refine of_next h (.ite (fun _ => hs) fun _ => feedBaize (hs.onLane ?_))
  exact .ite (fun _ => (hy _).clear) fun _ => hy _

theorem execFeedLost_keeps {feed reading : Nat} (h : execFeedLost l feed reading s = .next t) : t.indicesOk := by
  have hu : (s.onLane l fun x => x.loseFeed feed reading).indicesOk := hs.onLane ((hs.lane l).loseFeed feed reading)
  have hv := (hu.onLane (hu.lane l).noteBothLost).fail (l := l) 5
  exact of_next h (.ite (fun _ => .ite (fun _ => hv.onLane (hv.lane l).flush) fun _ => hu) fun _ => hs)

theorem execMakerCommand_keeps {op : MakerOp} (h : execMakerCommand l op s = .next t) : t.indicesOk := by
  have hr : ∀ old new, (s.setLane l ((s.lane l).record 3 2 0xFFFF 0xFFFFFFFF old new).1).indicesOk := fun _ _ => hs.setLane (hs.lane l).record
  exact of_next h (.ite (fun _ => .ite (fun _ => (hr _ _).makerWrite _) fun _ => hr _ _) fun _ => hs)

/-! ### Control, drives and voters (08 to 13) -/

theorem execLoopReset_keeps {m : Msg} {axis : Nat} (h : execLoopReset l m axis s = .next t) : t.indicesOk := by
  refine of_next h (hs.command _ _ fun u hu => ?_)
  have hv := hu.onLane_codes (u.laneOnly_onAxis (l := l) axis fun p r => p.reset r)
  split
  · exact hv.onLane (hv.lane l)
  · exact hv

theorem execCanFrameReceived_keeps {bus : Nat} {frame : RxFrame} (h : execCanFrameReceived l bus frame s = .next t) : t.indicesOk := by
  refine of_next h ?_
  have hc : ∀ r : CanState × List AlarmOp, ((s.lane l).withCan r).inRange := fun r => .codes (hs.lane l)
  have hu := hs.onLane (l := l) (f := fun y => (y.withCan (y.can.receive y.img.canp y.img.canb y.img.thru bus frame)).hearTraffic l bus frame.frame)
    ((hc _).hearTraffic _ _ _)
  split
  · exact hu.supersede _ _
  · exact hu

theorem execSafeRecordTransfer_keeps (h : execSafeRecordTransfer l s = .next t) : t.indicesOk := by
  refine of_next h ?_
  split
  · refine followMask (of_parts ?_ ?_ ?_)
    exacts [hs.laneA, hs.laneB, hs.baize]
  · exact hs.adoptSafe

theorem execSafetyExchangeReceived_keeps {dest source : Unit3} (h : execSafetyExchangeReceived dest source s = .next t) : t.indicesOk := by
  refine of_next h (.ite (fun _ => hs) fun _ => ?_)
  have hv := fun f => hs.onVoter dest f
  cases dest with
  | lane k => exact (hv _).onLane (((hv _).lane k).compareSafe k)
  | baize => exact (hv _).adoptSafe

/-! ### Time, power down and Muslin (02, 04, 15) -/

theorem execRailsRampDown_keeps {part : Unit3} (h : execRailsRampDown part s = .next t) : t.indicesOk := by
  refine of_next h ?_
  cases part with
  | lane k => exact .ite (fun _ => (hs.onLane (.unpower _)).starveCanvas.reportLost) fun _ => hs
  | baize => exact .ite (fun _ => (hs.withBaize ⟨Nat.zero_lt_succ _, Nat.zero_lt_succ _⟩).reportLost) fun _ => hs

theorem execCalendarOscillatorStop_keeps {clock : Unit3} (h : execCalendarOscillatorStop clock s = .next t) : t.indicesOk := by
  refine of_next h ?_
  cases clock with
  | lane k => exact hs.onLane (hs.lane k)
  | baize => exact hs.onBaize rfl

theorem execSourceQualified_keeps {source : TimeSource} {off : Int} (h : execSourceQualified l source off s = .next t) : t.indicesOk := by
  refine of_next h (.ite (fun _ => ?_) fun _ => hs)
  extract_lets r y
  have hy : y.inRange := .codes (hs.lane l)
  exact hs.setLane (.ite (fun _ => hy) fun _ => hy.takeUp _ _)

end
end Sys2Proof.Machine

namespace Sys2Proof.Machine

/-! ### Every command -/

open State.indicesOk in
/-- The families of O60 take no index and no clock but for a few events of the clock and of the Baize; the other commands go through
the operations above. -/
theorem exec_keeps_indicesOk {c : Instr} {s t : State} (hs : s.indicesOk) (h : exec c s = .next t) : t.indicesOk := by
  have k := eventsTouchTheirPart c s t h
  cases c
  case gnssDump | searchHit | slotRelease | antennaBiasFault | antennaBiasRetry | rtcmFrameReceived | gnssPeerSolutionReceived
      | gnssSolutionTimeout | headingFixTimeout | untrackedTimeout | gnssFrontEndFault | navMessage | referenceLost | predictionOnlyTimeout
      | deadReckoningLimit | joystickTimeout | crossTrackTimeout | targetLost | engStart | actuatorReentry | transitTimeout
      | followingErrorFault | feedbackFreeze | feLatchExpiry | outLimitTimeout | filteredLineChange | sineCosineConversion | indexEvent
      | illegalTransitionFault | wireDisagree | amplitudeLoss | ssiFrameComplete | ssiLoss | sensorSupplyShort | sensorSupplyOpen
      | sensorSupplyRetry | lossClear | countLatchRead | txbRequest | txbCancel | canFrameComplete | canTxError | busOffRecovery | fifoPop
      | transmitInhibit | transmitInhibitRelease | driveStatusTimeout | commandLate | firSample | analogInputInvalid | analogInputValid
      | analogFillComplete | anOutTimeout | analogReadbackFault | prpSupervision | linkChange | nodeForget | networkFrameReceived | close
      | sessionTimeout | ptpMessageReceived | ptpSyncSend | ptpDelayRequest | foreignMasterAgeOut | holdoverEntry | freerunEntry | pulseArm
      | pulseEdge | pulseWidthEnd | canvasStatusTimeout | shadowComparisonFault => exact hs.onLane_codes k
  case sentenceReceived | referenceBinaryFrame | keepalive | subscribe | timestampCapture | captureNow | captureRelease
      | captureValidRead => exact hs.onLane_codes k.2
  case engineRunComplete | read => exact hs.tick.onLane_codes k.2
  case openSession => exact hs.tick.onLane_codes k
  case canvasPhaseBoundary | canvasRailsIdle | canvasRailRetry | canvasPowerFail | crackLoopCheck | canvasTemperatureClear | canvasStart
      | canvasTick | testPulse | discreteOutputOverload | discreteOutputRetry => exact of_eq k (of_parts hs.laneA hs.laneB hs.baize)
  case canvasRequest => exact of_eq k ((hs.onLane (hs.lane _)).canvas _)
  -- Start, ticks and heartbeats (01, 02 R42 to R53)
  case lanePowerUp => exact execLanePowerUp_keeps hs h
  case bootComplete => exact execBootComplete_keeps hs h
  case bootWatchdogReset => exact execBootWatchdogReset_keeps hs h
  case keyCheckComplete => exact execKeyCheckComplete_keeps hs h
  case startSelfTestComplete => exact execStartSelfTestComplete_keeps hs h
  case frameTick => exact of_next h (.ite (fun _ => hs.frameTick _) fun _ => hs)
  case microframeTick => exact of_next h (.ite (fun _ => hs.microTick _) fun _ => hs)
  case heartbeatReceived => exact execHeartbeatReceived_keeps hs h
  case stateCopyReceived => exact execStateCopyReceived_keeps hs h
  case abdication => exact of_next h (.ite (fun _ => hs.fail _) fun _ => hs)
  case abdicationFrameReceived => exact execAbdicationFrameReceived_keeps hs h
  -- The Baize and the lanes' roles (02 R48 to R73)
  case baizeReady => exact of_next h (.ite (fun _ => hs.tick.onBaize rfl) fun _ => hs)
  case baizeTick => exact execBaizeTick_keeps hs h
  case baizeStatusReceived => exact execBaizeStatusReceived_keeps hs h
  case baizeBusFrameSeen => exact of_next h (.ite (fun _ => hs.onBaize (BaizeState.index_setView _ _ _)) fun _ => hs)
  case takeover => exact execTakeover_keeps hs h
  case commandedSwitchover => exact execCommandedSwitchover_keeps hs h
  case transmitInhibitAssert => exact of_next h (.ite (fun _ => hs.onBaize (BaizeState.index_setView _ _ _)) fun _ => hs)
  case homeOnlyPeriodEnd => exact execHomeOnlyPeriodEnd_keeps hs h
  case revertHoldoffEnd => exact execRevertHoldoffEnd_keeps hs h
  case baizeAbsent => exact execBaizeAbsent_keeps hs h
  case baizePresentAgain => exact execBaizePresentAgain_keeps hs h
  case unrefereedTakeover => exact of_next h (hs.onLane (.ite (fun _ => hs.lane _) fun _ => hs.lane _))
  case autoRestart => exact of_next h (.ite (fun _ => hs.restart) fun _ => hs)
  case laneSwitch => exact execLaneSwitch_keeps hs h
  case laneIsolate => exact execLaneIsolate_keeps hs h
  case laneAdoptImage => exact execLaneAdoptImage_keeps hs h
  case laneRestart => exact execLaneRestart_keeps hs h
  -- The partner pair (02 R74 to R78)
  case partnerTakeCommand => exact of_next h (hs.command _ _ fun _ hu => hu.onPartner _)
  case partnerMessageReceived => exact execPartnerMessageReceived_keeps hs h
  case partnerRequestLapse => exact of_next h (.ite (fun _ => hs.onPartner _) fun _ => hs)
  case partnerMessagesLost => exact of_next h (.ite (fun _ => hs.runningCodes _) fun _ => hs)
  case partnerAutoTakeover => exact of_next h (.ite (fun _ => (hs.onPartner _).runningCodes _) fun _ => hs)
  -- Keys and feeds (03, 04)
  case cellarWriteOpen => exact of_next h (hs.commandOn _ _ _ fun _ hx => hx)
  case cellarWriteChunk => exact of_next h (hs.command _ _ fun _ hu => hu.writeChunk _)
  case cellarWriteClose => exact of_next h (hs.command _ _ fun _ hu => hu.closeWrite _)
  case cellarVerifyComplete => exact of_next h (hs.onLane ((hs.lane _).verified _ _))
  case cellarWriteAbort => exact of_next h (hs.commandOn _ _ _ fun _ hx => hx.abortWrite)
  case cellarWriteTimeout => exact execCellarWriteTimeout_keeps hs h
  case cellarSelect => exact of_next h (hs.command _ _ fun _ hu => hu.flip _ _)
  case cellarKeyRemoved => exact execCellarKeyRemoved_keeps hs h
  case cellarKeyInserted => exact of_next h (hs.setKey _)
  case keyStoreAdd => exact execKeyStoreAdd_keeps hs h
  case keyStoreRemove => exact of_next h (hs.commandOn _ _ _ fun _ hx => hx)
  case makerTokenEntry => exact of_next h (hs.onLane (.ite (fun _ => hs.lane _) fun _ => hs.lane _))
  case makerTokenLapse => exact of_next h (hs.onLane (.ite (fun _ => hs.lane _) fun _ => .ite (fun _ => hs.lane _) fun _ => hs.lane _))
  case makerCommand => exact execMakerCommand_keeps hs h
  case feedGood => exact execFeedGood_keeps hs h
  case feedLost => exact execFeedLost_keeps hs h
  case feedLowVoltage | feedHighVoltage => exact of_next h (hs.onLane (.ite (fun _ => .codes (hs.lane _)) fun _ => hs.lane _))
  case powerClaim => exact of_next h (hs.commandOn _ _ _ fun _ hx => .claimCodes hx)
  -- References, control, allocation and the loops (06 to 12)
  case refsSelect | refsAccept | refsAnchor => exact of_next h (hs.commandOn _ _ _ fun _ hx => hx)
  case ctrlMode | ctrlSetpoint | ctrlGainBank | ctrlFootprint | ctrlBiasRelease | ctrlTrackCommit | ctrlTargetOffset =>
    exact of_next h (hs.command _ _ fun _ hu => hu.post _)
  case ctrlJoystick => exact of_next h (hs.commandOn _ _ _ fun _ hx => .clear hx)
  case ctrlTrackPoint => exact of_next h (hs.commandOn _ _ _ fun _ hx => hx)
  case allocExclude => exact of_next h (hs.commandOn _ _ _ fun _ hx => .codes hx)
  case loopReset => exact execLoopReset_keeps hs h
  case fbArm => exact of_next h (hs.commandOn _ _ _ fun _ hx => hx.armChannel _)
  case fbClear => exact of_next h (hs.command _ _ fun _ hu => hu.onLane_codes (State.laneOnly_onChan _ _ _ _))
  case canFrameReceived => exact execCanFrameReceived_keeps hs h
  -- Safety and analog channels (13, 14)
  case voterWatchdogExpiry => exact of_next h (hs.onVoter _ _).reportLost
  case safeRecordTransfer => exact execSafeRecordTransfer_keeps hs h
  case safetyExchangeReceived => exact execSafetyExchangeReceived_keeps hs h
  case anChannel => exact of_next h (hs.commandOn _ _ _ fun _ hx => hx.queueChannel _ _ _)
  case anCoeffLoad => exact of_next h (hs.commandOn _ _ _ fun _ hx => hx)
  case anOutSet => exact of_next h (hs.commandOn _ _ _ fun _ hx => hx.withOut _ _)
  -- Time (15)
  case incrWrite => exact of_next h (hs.onLane ((hs.lane _).withClock (ClockState.loadIncr_inBounds (hs.lane _).2 _)))
  case stepArm => exact of_next h (hs.onLane ((hs.lane _).withClock (hs.lane _).2))
  case stepApply => exact of_next h (hs.onLane (.ite (fun _ => (hs.lane _).applyStep) fun _ => hs.lane _))
  case slewComplete =>
    exact of_next h (hs.onLane (.ite (fun _ => .clear ((hs.lane _).withClock (ClockState.slewDone_inBounds (hs.lane _).2))) fun _ => hs.lane _))
  case timeSnapshotRead => exact of_next h (hs.onLane (hs.lane _).snapshot)
  case sourceQualified => exact execSourceQualified_keeps hs h
  case timePulse => exact of_next h (hs.commandOn _ _ _ fun _ hx => hx.onPulse _ _)
  case registerWrite => exact of_next h (.ite (fun _ => hs.tick.onLane ((hs.lane _).writeReg _ _ _)) fun _ => hs)
  -- The panel, the alarms, power down and Muslin (02, 04, 16, 17)
  case canvasRestart => exact of_next h (hs.command _ _ fun _ hu => hu.canvas _)
  case alarmAcknowledgement => exact of_next h (hs.commandOn _ _ _ fun _ hx => hx.acknowledge _ _)
  case railsRampDown => exact execRailsRampDown_keeps hs h
  case calendarOscillatorStop => exact execCalendarOscillatorStop_keeps hs h
  case muslinSerialLaneFailed => exact of_next h (of_parts (hs.laneA.loseSerial _) (hs.laneB.loseSerial _) hs.baize)
  case muslinTransferReceived => exact of_next h (hs.onLane (.ite (fun _ => (hs.lane _).transfer _) fun _ => hs.lane _))

/-- Settles O4: the command at the front keeps indices and clock in range, whatever it is. -/
theorem indicesAndClockStayInRange : Obligations.IndicesAndClockStayInRange := by
  unfold Obligations.IndicesAndClockStayInRange
  intro s t hs h
  unfold step at h
  split at h
  · exact next_inj h ▸ hs
  · exact exec_keeps_indicesOk (hs.queue _) h

end Sys2Proof.Machine

namespace Sys2Proof.Machine

/-!
SUPPORT and settled obligation: no lost voter commands a switch (O6; 02 R40; 13 R386).
-/

/-! ## What the voters' silence rests on

Of a lane it rests on whether the lane is FAILED and on what its voter commands; of the Baize on its cores, its SAFE record and its voter's
command. `voting` gathers them: what leaves it leaves the voters off. -/

def LaneState.voting (x : LaneState) : LaneLife × Nat := (x.life.state, x.voter.cmd)

def BaizeState.voting (b : BaizeState) : Bool × Option SafeRec × Nat := (b.coresAgree, b.safe, b.voter.cmd)

def State.voting (s : State) : (LaneLife × Nat) × (LaneLife × Nat) × (Bool × Option SafeRec × Nat) :=
  (s.laneA.voting, s.laneB.voting, s.baize.voting)

/-- A lane that is FAILED commands nothing. -/
def LaneState.quiet (x : LaneState) : Prop := x.life.state = .failed → x.voter.cmd = 0

/-- A Baize whose cores differ or that holds no SAFE record commands nothing. -/
def BaizeState.quiet (b : BaizeState) : Prop := b.coresAgree = false ∨ b.safe = none → b.voter.cmd = 0

/-! ### Operations of a lane that leave its state and its voter's command -/

namespace LaneState

variable (x : LaneState)

@[simp] theorem voting_alarm (op : AlarmOp) (d : Bytes) : (x.alarm op d).voting = x.voting := by simp [voting]
@[simp] theorem voting_codes (ops : List AlarmOp) : (x.codes ops).voting = x.voting := by simp [voting]
@[simp] theorem voting_raise (c : Code) (i k : Nat) : (x.raise c i k).voting = x.voting := x.voting_alarm _ _
@[simp] theorem voting_clear (c : Code) (i : Nat) : (x.clear c i).voting = x.voting := x.voting_alarm _ _

/-- A change of other parts of a lane. -/
theorem voting_of_changes {f : LaneState → LaneState → LaneState} {x y : LaneState} (k : x.changesOnly f y)
    (hf : ∀ x y, (f x y).voting = x.voting := by intros; rfl) : y.voting = x.voting := by
  unfold changesOnly at k
  rw [k]
  exact hf x y

theorem voting_samples (qs : List (Nat × Nat × Rat)) : (x.samples qs).voting = x.voting :=
  foldl_keeps _ _ (fun y q => by simp only [sampleItem]; split <;> rfl) qs x

/-! The slices (01 R523). -/

@[simp] theorem voting_withGnss (r : GnssState × List AlarmOp) : (x.withGnss r).voting = x.voting :=
  voting_codes { x with gnss := r.1 } r.2
@[simp] theorem voting_withObs (r : ObserverState × List AlarmOp) : (x.withObs r).voting = x.voting := voting_codes { x with obs := r.1 } r.2
@[simp] theorem voting_withCtrl (r : ControlState × List AlarmOp) : (x.withCtrl r).voting = x.voting := voting_codes { x with ctrl := r.1 } r.2
@[simp] theorem voting_withAlloc (r : AllocState × List AlarmOp) : (x.withAlloc r).voting = x.voting := voting_codes { x with alloc := r.1 } r.2

theorem voting_refsSlice (l : Lane) : (x.refsSlice l).voting = x.voting := by
  have ho : (x.offerInternal l).voting = x.voting := foldl_keeps _ _ (fun y r => by split <;> rfl) x.refRecs x
  have hf : ∀ y : LaneState, (y.fixFloating l).voting = y.voting := fun y => by simp only [fixFloating]; split <;> rfl
  exact (voting_codes _ _).trans ((hf _).trans ho)

theorem voting_obsSlice (l : Lane) : (x.obsSlice l).voting = x.voting := by
  simp only [obsSlice]
  split <;> exact voting_codes _ _

theorem voting_checkSlice : x.checkSlice.voting = x.voting := by
  simp only [checkSlice]
  split <;> exact voting_codes _ _

theorem voting_consSlice : x.consSlice.voting = x.voting := by
  simp only [consSlice]
  split
  · split <;> rfl
  · rfl

theorem voting_judgeSlice : x.judgeSlice.voting = x.voting := by
  have hw : ∀ y : LaneState, (if y.frame.motion = 49 then y.withCtrl (y.ctrl.verdictStep y.img.fgrp y.img.mode.consPersist) else y).voting =
      y.voting := fun y => by
    split
    · exact voting_codes _ _
    · rfl
  simp only [judgeSlice, hw]
  split <;> rfl

theorem voting_larderWrote (g : LarderState) : (x.larderWrote g).voting = x.voting := by
  simp only [larderWrote]
  split
  · exact voting_raise _ _ _ _
  · rfl

theorem voting_larderSlice (amb : Ambient) : (x.larderSlice amb).voting = x.voting := by
  simp only [larderSlice]
  split
  · rfl
  · split
    · exact x.voting_larderWrote _
    · exact (voting_larderWrote _ _).trans (x.voting_samples _)

theorem voting_healthSlice (l : Lane) : (x.healthSlice l).voting = x.voting := by
  simp only [healthSlice]
  split
  · exact voting_codes _ _
  · rfl

theorem voting_endSpent : x.endSpent.voting = x.voting :=
  foldl_keeps _ _ (fun y q => by rw [voting_clear, voting_of_changes (endSession_changes _ _)]) _ x

theorem voting_abandon (id : Nat) : (x.abandon id).voting = x.voting := voting_raise _ _ _ _

/-! The new frame. -/

theorem voting_adoptIndices : x.adoptIndices.voting = x.voting := by
  simp only [adoptIndices]
  repeat' split
  all_goals rfl

theorem voting_age : x.age.voting = x.voting := voting_codes _ _

theorem voting_judgeLinks (l : Lane) : (x.judgeLinks l).voting = x.voting := voting_codes _ _

theorem voting_judgeReady (l : Lane) : (x.judgeReady l).voting = x.voting := by
  simp only [judgeReady]
  split
  · exact voting_codes _ _
  · rfl

theorem voting_compareShadow : x.compareShadow.voting = x.voting := by
  simp only [compareShadow]
  split
  · split
    · rfl
    · exact voting_clear _ _ _
  · exact voting_clear _ _ _

theorem voting_motionStart (l : Lane) : (x.motionStart l).voting = x.voting := voting_compareShadow _

theorem voting_missionStart : x.missionStart.voting = x.voting := (voting_codes _ _).trans (voting_codes _ _)

/-! The microframe. -/

theorem voting_latch (g : PulseSource) (inp : MicroIn) : (x.latch g inp).voting = x.voting := by
  simp only [latch, voting]
  split <;> rfl

theorem voting_measureActs : x.measureActs.voting = x.voting := by
  simp only [measureActs]
  split <;> rfl

theorem voting_runAxes : x.runAxes.voting = x.voting := by
  simp only [runAxes]
  split
  · exact voting_codes _ _
  · rfl

theorem voting_readOutputs (driving : Bool) (rbs : List (Option (Rat × Bool))) : (x.readOutputs driving rbs).voting = x.voting := by
  simp only [readOutputs]
  split
  · rfl
  · exact voting_codes _ _

end LaneState

/-! ### Operations of the block that leave all three voters -/

namespace State

variable (s : State) (l : Lane)

theorem voting_setLane {x : LaneState} (h : x.voting = (s.lane l).voting) : (s.setLane l x).voting = s.voting := by
  cases l <;> simp only [State.voting, State.setLane, h] <;> rfl

theorem voting_onLane {f : LaneState → LaneState} (h : (f (s.lane l)).voting = (s.lane l).voting) : (s.onLane l f).voting = s.voting :=
  s.voting_setLane l h

theorem voting_tick : s.tick.voting = s.voting := rfl

/-- What leaves every lane leaves each. -/
theorem voting_onLane_of {f : LaneState → LaneState} (h : ∀ x : LaneState, (f x).voting = x.voting) : (s.onLane l f).voting = s.voting :=
  s.voting_onLane l (h _)

theorem voting_onBaize {f : BaizeState → BaizeState} (h : (f s.baize).voting = s.baize.voting) : (s.onBaize f).voting = s.voting := by
  simp only [State.voting, State.onBaize_baize, h]
  rfl

theorem voting_onPartner (f : PartnerState → PartnerState) : (s.onPartner f).voting = s.voting := rfl

theorem voting_runningCodes (ops : List AlarmOp) : (s.runningCodes ops).voting = s.voting := by
  have h : ∀ x : LaneState, (if x.runs then x.codes ops else x).voting = x.voting := fun x => by
    split
    · exact x.voting_codes ops
    · rfl
  simp only [State.voting, State.runningCodes, h]

theorem voting_reportLost : s.reportLost.voting = s.voting := s.voting_runningCodes s.lostCodes

/-! The frame that ends. -/

theorem voting_sendContent : (s.sendContent l).voting = s.voting := by
  simp only [sendContent]
  split
  · exact foldl_keeps State.voting _ (fun t n => t.voting_onLane_of l fun x => by split <;> rfl) _ s
  · rfl

theorem voting_telemetrySlice : (s.telemetrySlice l).voting = s.voting := by
  simp only [telemetrySlice, voting_tick]
  exact s.voting_setLane l rfl

theorem voting_runSlice (inp : FrameIn) (id : Nat) : (s.runSlice l inp id).voting = s.voting := by
  simp only [runSlice]
  split
  case h_2 => exact s.voting_onLane_of l fun x => x.voting_refsSlice l
  case h_3 => exact s.voting_onLane_of l fun x => x.voting_obsSlice l
  case h_5 => exact s.voting_telemetrySlice l
  case h_8 => exact s.voting_onLane_of l fun x => x.voting_checkSlice
  case h_9 => exact s.voting_onLane_of l fun x => x.voting_larderSlice _
  case h_10 => exact s.voting_onLane_of l fun x => x.voting_consSlice
  case h_11 => exact s.voting_onLane_of l fun x => x.voting_judgeSlice
  case h_13 => exact s.voting_onLane_of l fun x => x.voting_healthSlice l
  case h_14 => exact s.voting_onLane_of l fun x => LaneState.voting_endSpent _
  case h_15 => exact s.voting_onLane_of l fun x => rfl
  case h_16 =>
    split
    · exact s.voting_sendContent l
    · rfl
  case h_17 => rfl
  case h_1 => exact s.voting_onLane_of l fun x => x.voting_withGnss _
  case h_4 => exact s.voting_onLane_of l fun x => x.voting_withCtrl _
  case h_6 => exact s.voting_onLane_of l fun x => x.voting_withObs _
  case h_7 => exact s.voting_onLane_of l fun x => x.voting_withAlloc _
  case h_12 => exact s.voting_onLane_of l fun x => x.voting_withAlloc _

theorem voting_runSlices (inp : FrameIn) : (s.runSlices l inp).voting = s.voting := by
  simp only [runSlices]
  refine (State.voting_onLane_of _ l fun x => foldl_keeps LaneState.voting _ LaneState.voting_abandon _ x).trans ?_
  refine foldl_keeps State.voting _ (fun t id => ?_) _ s
  split
  · rfl
  · exact (State.voting_onLane _ l rfl).trans (t.voting_runSlice l inp id)

/-! The new frame. -/

theorem voting_takeMeasurement (off : Int) : (s.takeMeasurement l off).voting = s.voting := by
  simp only [takeMeasurement]
  split
  · exact s.voting_setLane l (LaneState.voting_codes _ _)
  · rfl

theorem voting_timeFrame (t : TimeIn) : (s.timeFrame l t).voting = s.voting := by
  simp only [timeFrame]
  split
  · rw [State.voting_takeMeasurement]
    exact s.voting_setLane l (LaneState.voting_codes _ _)
  · exact s.voting_setLane l (LaneState.voting_codes _ _)

theorem voting_setCalendars (oldS : Nat) : (s.setCalendars l oldS).voting = s.voting := by
  simp only [setCalendars]
  split
  · split
    · rw [State.voting_onBaize _ rfl]
      exact s.voting_setLane l (by split <;> split <;> rfl)
    · exact s.voting_setLane l (by split <;> split <;> rfl)
  · rfl

theorem voting_advanceFrame (inp : FrameIn) : (s.advanceFrame l inp).voting = s.voting := by
  have hy : (if (s.lane l).frame.ticked then (((s.lane l).advanceCalendar inp.ambient.cellOk).nextTick).age else (s.lane l).firstTick).voting =
      (s.lane l).voting := by
    split
    · rw [LaneState.voting_age]
      exact (LaneState.voting_adoptIndices _).trans (LaneState.voting_codes _ _)
    · rfl
  simp only [advanceFrame]
  generalize (if (s.lane l).frame.ticked then _ else _ : LaneState) = y at hy ⊢
  split
  · rw [State.voting_setCalendars, State.voting_timeFrame]
    exact s.voting_setLane l ((LaneState.voting_codes _ _).trans ((LaneState.voting_codes _ _).trans hy))
  · exact s.voting_setLane l ((LaneState.voting_codes _ _).trans ((LaneState.voting_codes _ _).trans hy))

theorem voting_partnerBoundary : (s.partnerBoundary l).voting = s.voting := by
  simp only [partnerBoundary, takeCommand]
  repeat' split
  all_goals simp only [State.voting_onPartner, State.voting_runningCodes]

theorem voting_sendPartner : (s.sendPartner l).voting = s.voting := by
  simp only [sendPartner]
  split
  · refine (State.voting_onLane _ l ?_).trans (State.voting_onLane _ l ?_) <;> rfl
  · rfl

theorem voting_beginSlot : (s.beginSlot l).voting = s.voting := by
  have hm : (if (s.lane l).frame.slot = 0 ∧ (s.lane l).frame.motion = 0 then s.onLane l LaneState.missionStart else s).voting = s.voting := by
    split
    · exact s.voting_onLane_of l LaneState.voting_missionStart
    · rfl
  simp only [beginSlot]
  generalize (if (s.lane l).frame.slot = 0 ∧ (s.lane l).frame.motion = 0 then s.onLane l LaneState.missionStart else s) = t at hm ⊢
  rw [← hm]
  split
  · exact (State.voting_partnerBoundary _ l).trans (t.voting_onLane_of l fun x => x.voting_motionStart l)
  · split
    · exact t.voting_sendPartner l
    · split
      · exact t.voting_onLane_of l fun x => rfl
      · rfl

theorem voting_sendCopy : (s.sendCopy l).voting = s.voting := by
  simp only [sendCopy]
  split
  · refine (State.voting_onLane _ l ?_).trans (State.voting_onLane _ l ?_) <;> rfl
  · exact s.voting_onLane_of l fun x => rfl

theorem voting_sendHeartbeat (failed : Bool) : (s.sendHeartbeat l failed).voting = s.voting := by
  simp only [sendHeartbeat]
  split
  · rfl
  · exact s.voting_setLane l rfl

/-! The microframe. -/

theorem voting_microTick (inp : MicroIn) : (s.microTick l inp).voting = s.voting := by
  have hb : (s.onBaize fun b => if (s.lane l).frame.micro = 0 then b.closeContacts l else b).voting = s.voting := by
    refine s.voting_onBaize ?_
    simp only [BaizeState.closeContacts]
    repeat' split
    all_goals rfl
  have ha : ∀ t : State, (t.writeAnalog l).voting = t.voting := fun t => by simp only [writeAnalog]; split <;> rfl
  have hd : ∀ t : State, (t.writeDiscrete l).voting = t.voting := fun t => by simp only [writeDiscrete]; split <;> rfl
  have hc : ∀ t : State, (t.stageCommands l).voting = t.voting := fun t => by
    simp only [stageCommands]
    split
    · exact t.voting_setLane l rfl
    · rfl
  have hx : ∀ x : LaneState, (((x.latch s.pulse inp).measureActs).runAxes).voting = x.voting := fun x => by
    rw [LaneState.voting_runAxes, LaneState.voting_measureActs, LaneState.voting_latch]
  simp only [microTick]
  refine (State.voting_onLane _ l (LaneState.voting_readOutputs _ _ _)).trans ?_
  rw [hc, hd, ha]
  exact (State.voting_onLane_of _ l hx).trans hb

end State

end Sys2Proof.Machine

namespace Sys2Proof.Machine

/-! ## The voters stay off: a lane -/

theorem LaneState.startOver_state (x : LaneState) (powerUp : Bool) : (x.startOver powerUp).life.state = .starting := by
  unfold LaneState.startOver
  dsimp only
  split
  · split <;> simp [LaneState.claimCodes] <;> rfl
  · simp [LaneState.claimCodes]
    rfl

namespace LaneState.quiet

variable {x y : LaneState}

theorem of_voting (h : x.quiet) (e : y.voting = x.voting) : y.quiet := by
  obtain ⟨es, ec⟩ := Prod.mk.inj e
  unfold LaneState.quiet
  rw [es, ec]
  exact h

/-- A voter that commands nothing. -/
theorem of_cmd (h : x.voter.cmd = 0) : x.quiet := fun _ => h

/-- A lane in another state. -/
theorem of_state (h : x.life.state ≠ .failed) : x.quiet := fun k => absurd k h

theorem codes {ops : List AlarmOp} (h : x.quiet) : (x.codes ops).quiet := h.of_voting (x.voting_codes ops)
theorem alarm {op : AlarmOp} {d : Bytes} (h : x.quiet) : (x.alarm op d).quiet := h.of_voting (x.voting_alarm op d)
theorem raise {c : Code} {i k : Nat} (h : x.quiet) : (x.raise c i k).quiet := h.alarm
theorem clear {c : Code} {i : Nat} (h : x.quiet) : (x.clear c i).quiet := h.alarm

theorem ite {c : Prop} [Decidable c] (h : c → x.quiet) (k : ¬c → y.quiet) : (if c then x else y).quiet := by
  split
  · exact h ‹_›
  · exact k ‹_›

theorem of_changes {f : LaneState → LaneState → LaneState} (h : x.quiet) (k : x.changesOnly f y)
    (hf : ∀ x y, (f x y).voting = x.voting := by intros; rfl) : y.quiet := h.of_voting (voting_of_changes k hf)

/-! Entry into FAILED and starts (02 R40, R41). -/

/-- A lane that fails switches its voter's command off. -/
theorem enterFailed {cause : Nat} : (x.enterFailed cause).quiet := by
  obtain ⟨-, -, hc, -, -⟩ := x.enterFailed_spec cause
  exact .of_cmd hc

theorem sampleItem {i n : Nat} {v : Rat} (h : x.quiet) : (x.sampleItem i n v).quiet := .ite (fun _ => h) fun _ => h

theorem judgeImage (h : x.quiet) : x.judgeImage.quiet := .ite (fun _ => .raise (.of_state nofun)) fun _ => h

theorem leaveStart (h : x.quiet) : x.leaveStart.quiet := by
  have hs : (if x.imageDiffers then LaneLife.isolated else .standby) ≠ .failed := by split <;> exact nofun
  exact .ite (fun _ => .ite (fun _ => .raise (.of_state hs)) fun _ => .of_state hs) fun _ => h

theorem claimCodes (h : x.quiet) : x.claimCodes.quiet := h.codes

/-- A start is in STARTING. -/
theorem startOver (x : LaneState) (powerUp : Bool) : (x.startOver powerUp).quiet :=
  .of_state fun h => nomatch (x.startOver_state powerUp).symm.trans h

theorem seeded (h : x.quiet) (b : Calendar) (q : Seed) : (x.seeded b q).quiet := by
  have hc : ∀ (c : ClockState) (k : Calendar) (r : SourceState), ({ x with clock := c, cal := k, src := r } : LaneState).quiet :=
    fun _ _ _ => h
  cases q with
  | other ns q e => exact .codes (hc _ _ _)
  | own => exact hc _ _ _
  | baize => exact hc _ _ _
  | image t => exact .raise (hc _ _ _)

theorem unpower (x : LaneState) : x.unpower.quiet := .of_cmd rfl

/-- The voter of an image starts with its command off. -/
theorem install (x : LaneState) (l : Lane) (i : Image) (b : Bool) (a : Option (List AnChan)) : (x.install l i b a).quiet := .of_cmd rfl

theorem selfTestCodes (h : x.quiet) (l : Lane) (b : Calendar) (t : StartTest) : (x.selfTestCodes l b t).quiet := by
  unfold LaneState.selfTestCodes
  extract_lets
  exact .codes h

/-! Frames of the other lane and of the Baize (02 R40 to R56). -/

theorem takeHeartbeat (h : x.quiet) (b : Heartbeat) (off : Int) : (x.takeHeartbeat b off).quiet := by
  unfold LaneState.takeHeartbeat
  extract_lets _ p _ y0 _ y1 _ y2
  have h0 : y0.quiet := h
  have h1 : y1.quiet := .ite (fun _ => h0) fun _ => h0
  have h2 : y2.quiet := .ite (fun _ => .raise h1) fun _ => h1
  exact h2.judgeImage.sampleItem

theorem becomeActive (x : LaneState) (l : Lane) (revert : Bool) : (x.becomeActive l revert).quiet := by
  unfold LaneState.becomeActive
  dsimp only
  exact .codes (.alarm (.of_state nofun))

theorem standDown (x : LaneState) (isolated : Bool) : (x.standDown isolated).quiet := by
  have hs : (if isolated then LaneLife.isolated else .standby) ≠ .failed := by split <;> exact nofun
  exact .ite (fun _ => .raise (.of_state hs)) fun _ => .of_state hs

theorem takeAbdication (h : x.quiet) (b : Heartbeat) (u : Bool) : (x.takeAbdication b u).quiet := .ite (fun _ => h) fun _ => h

theorem takeStatus (h : x.quiet) (b : BaizeStatus) : (x.takeStatus b).quiet :=
  .ite (fun _ => h) fun _ => .ite (fun _ => .enterFailed) fun _ => h

theorem follow (h : x.quiet) (c : StateCopy) : (x.follow c).quiet := h
theorem hearTraffic (h : x.quiet) (l : Lane) (bus : Nat) (f : CanFrame) : (x.hearTraffic l bus f).quiet := .ite (fun _ => h) fun _ => h

theorem compareSafe (h : x.quiet) (l : Lane) : (x.compareSafe l).quiet := by
  unfold LaneState.compareSafe
  split
  · exact .codes h
  · exact h

/-! Messages, keys and supply (03 R99, R100; 04 R115 to R124). -/

theorem record {role flags object keyId : Nat} {old new : Bytes} (h : x.quiet) : (x.record role flags object keyId old new).1.quiet := by
  unfold LaneState.record
  split
  · exact h.raise
  · exact h

/-- Whether a WRITE is taken or not, no voter moves. -/
theorem take (h : x.quiet) (m : Msg) (a : Ask) : (x.take m a).1.quiet := by
  unfold LaneState.take
  split
  · exact h
  · next ses q d _ =>
    have h1 : LaneState.quiet { x with ses := ses } := h
    dsimp only
    split
    · exact h
    · split
      · exact h
      · split
        · split
          · exact h
          · split <;> exact h
        · split
          · exact h
          · exact h1.record

theorem abortWrite {reason : Nat} (h : x.quiet) : (x.abortWrite reason).quiet := h.of_changes (abortWrite_changes _ _)

theorem answerClose {w : KeyWrite} {status reason : Nat} (h : x.quiet) : (x.answerClose w status reason).quiet := by
  unfold LaneState.answerClose
  split <;> exact h

theorem verified (h : x.quiet) (key : Option Key) (v : Variant) : (x.verified key v).quiet := by
  unfold LaneState.verified
  split
  · next w _ =>
    have hq : ∀ owner old new, (x.record 2 2 0x1312 owner old new).1.quiet := fun _ _ _ => h.record
    dsimp only
    split
    · exact h
    · split
      · exact h.abortWrite.answerClose
      · exact .answerClose (hq _ _ _)
  · exact h

theorem loseFeed (h : x.quiet) (feed reading : Nat) : (x.loseFeed feed reading).quiet := .ite (fun _ => .codes h) fun _ => h
theorem noteBothLost (h : x.quiet) : x.noteBothLost.quiet := .ite (fun _ => .raise h) fun _ => h
theorem loseSerial (h : x.quiet) (second : Bool) : (x.loseSerial second).quiet :=
  .ite (fun _ => .ite (fun _ => .codes h) fun _ => .codes h) fun _ => h

/-! Registers, steps, transfers and channels (14, 15). -/

theorem withClock (h : x.quiet) (f : ClockState → ClockState) : (x.withClock f).quiet := h

theorem writeReg (h : x.quiet) (reg : Reg) (v : Nat) (q : Rat) : (x.writeReg reg v q).quiet := by cases reg <;> exact h

theorem takeUp (h : x.quiet) (off : Int) (adds : Nat) : (x.takeUp off adds).quiet := h.of_changes (takeUp_changes _ _ _)

theorem stepPulses (h : x.quiet) (old new : Nat) : (x.stepPulses old new).quiet := .codes h

theorem applyStep (h : x.quiet) : x.applyStep.quiet := by
  unfold LaneState.applyStep
  extract_lets d base c _ y0 y1 y2 y3 r
  have h0 : y0.quiet := h
  have h1 : y1.quiet := h0.stepPulses _ _
  have h2 : y2.quiet := h1.alarm
  have h3 : y3.quiet := .ite (fun _ => h2) fun _ => h2.raise
  exact .codes h3

theorem transfer (h : x.quiet) (item : MuslinItem) : (x.transfer item).quiet := by
  cases item with
  | fbArm n => exact .codes h
  | anChannel n start alt => exact .codes h
  | ephemeris e => exact .ite (fun _ => .ite (fun _ => h) fun _ => h) fun _ => h
  | timeTransfer ns => exact h
  | aiding leap => exact h
  | coeffCrcs crcs => exact .codes h

theorem withOut (h : x.quiet) (n : Nat) (f : Anou → AnOut → AnOut × List AlarmOp) : (x.withOut n f).quiet := h.of_changes (withOut_changes _ _ _)
theorem queueChannel (h : x.quiet) (n : Nat) (start alt : Bool) : (x.queueChannel n start alt).quiet := .codes h
theorem armChannel (h : x.quiet) (n : Nat) : (x.armChannel n).quiet := .codes h
theorem onPulse (h : x.quiet) (g : Nat) (f : PulseGen → PulseGen × List AlarmOp) : (x.onPulse g f).quiet := .codes h

/-! The tick: a lane that votes is not FAILED. -/

theorem vote (h : x.quiet) (l : Lane) (inp : FrameIn) : (x.vote l inp).quiet := by
  unfold LaneState.vote
  split
  · next k =>
    have hs : ∀ y : LaneState, y.life = x.life → y.quiet := fun y e => .of_state (e ▸ k.2)
    have hv : ∀ r : Voter × List AlarmOp, (x.withVoter r).life = x.life := fun r => LaneState.codes_life _ _
    dsimp only
    split
    · split
      · exact hs _ ((LaneState.raise_life _ _ _ _).trans (hv _))
      · exact hs _ ((LaneState.raise_life _ _ _ _).trans (hv _))
    · split <;> exact hs _ (hv _)
  · exact h

end LaneState.quiet

end Sys2Proof.Machine

namespace Sys2Proof.Machine

/-! ## What the Baize's decisions leave (02 R48 to R56)

`heard` is a Baize without its decisions, its codes and the frames it sends: what it has heard and counted, its voter and its SAFE record. No
row of 02 R49 changes it. -/

def LaneView.heard (v : LaneView) : LaneView := { v with failed := false, order := 0, out := [] }

def BaizeState.heard (b : BaizeState) : BaizeState :=
  { b with homeOnly := false, active := none, former := none, viewA := b.viewA.heard, viewB := b.viewB.heard, holdoff := none, switchTo := none,
           reverting := false, noLane := false, contacts := none, closing := none, ssiClock := none, alarms := [] }

namespace BaizeState

variable (b : BaizeState)

/-- What stands in `heard` rests on nothing else. -/
theorem voting_of_heard {b c : BaizeState} (e : c.heard = b.heard) : c.voting = b.voting := by
  change c.heard.voting = b.heard.voting
  rw [e]

theorem view_heard (l : Lane) : b.heard.view l = (b.view l).heard := by cases l <;> rfl

theorem view_of_heard {b c : BaizeState} (e : c.heard = b.heard) (l : Lane) : (c.view l).heard = (b.view l).heard := by
  rw [← view_heard, ← view_heard, e]

theorem heard_codes (ops : List AlarmOp) : (b.codes ops).heard = b.heard := rfl

theorem heard_setView {l : Lane} {v : LaneView} (h : v.heard = (b.view l).heard) : (b.setView l v).heard = b.heard := by
  cases l <;> simp only [setView, heard, h] <;> rfl

theorem heard_ite {c : Prop} [Decidable c] {b d e : BaizeState} (h : b.heard = e.heard) (k : d.heard = e.heard) :
    (if c then b else d).heard = e.heard := by
  split
  · exact h
  · exact k

theorem heard_declare (l : Lane) (demote : Bool) : (b.declare l demote).heard = b.heard := by
  unfold BaizeState.declare
  extract_lets v c o
  have hc : c.heard = b.heard := b.heard_setView rfl
  exact (c.heard_setView (l := l.other) (v := { o with order := if o.order = 3 then 0 else o.order }) rfl).trans hc

theorem heard_standbyFailed (l : Lane) : (b.standbyFailed l).heard = b.heard := by
  unfold BaizeState.standbyFailed
  extract_lets v c o
  have hc : c.heard = b.heard := heard_setView _ rfl
  exact heard_ite ((c.heard_setView (l := l.other) (v := { o with order := if o.order = 3 then 0 else o.order }) rfl).trans hc) hc

theorem heard_grant (home : Lane) : (b.grant home).heard = b.heard := by
  unfold BaizeState.grant
  refine heard_ite rfl ?_
  extract_lets ls
  cases ls with
  | nil => rfl
  | cons l _ => exact heard_setView _ rfl

theorem heard_watchActive : b.watchActive.heard = b.heard := by
  unfold BaizeState.watchActive
  split
  · exact heard_ite (heard_declare _ _ _) (heard_ite (heard_declare _ _ _) rfl)
  · rfl

theorem heard_watchStandby : b.watchStandby.heard = b.heard :=
  foldl_keeps BaizeState.heard _ (fun c l => heard_ite (c.heard_standbyFailed l) rfl) _ b

theorem heard_countHoldoff (home : Lane) (muslin : Bool) : (b.countHoldoff home muslin).heard = b.heard := heard_ite rfl rfl

theorem heard_orderSwitch (muslin : Bool) : (b.orderSwitch muslin).heard = b.heard := by
  unfold BaizeState.orderSwitch
  split
  · exact heard_ite rfl rfl
  · rfl

theorem heard_judge (home : Lane) : (b.judge home).heard = b.heard := by
  unfold BaizeState.judge
  extract_lets muslin c
  have hc : c.heard = b.heard := (heard_watchStandby _).trans ((heard_codes _ _).trans b.heard_watchActive)
  refine heard_ite rfl ?_
  rw [heard_grant, heard_orderSwitch, heard_countHoldoff, hc]

theorem heard_sendStatus : b.sendStatus.heard = b.heard := rfl

theorem voting_setView (l : Lane) (v : LaneView) : (b.setView l v).voting = b.voting := by cases l <;> rfl

theorem voting_takeAbdication (l home : Lane) (h : Heartbeat) : (b.takeAbdication l home h).voting = b.voting := by
  unfold BaizeState.takeAbdication
  extract_lets _ c
  have hc : c.voting = b.voting := b.voting_setView l _
  refine Eq.trans (voting_of_heard (heard_sendStatus _)) ?_
  split
  · exact (voting_of_heard ((heard_grant _ _).trans (heard_declare _ _ _))).trans hc
  · split
    · exact hc
    · exact (voting_of_heard (heard_standbyFailed _ _)).trans hc

theorem voting_takeHeartbeat (l home : Lane) (h : Heartbeat) : (b.takeHeartbeat l home h).voting = b.voting := by
  unfold BaizeState.takeHeartbeat
  extract_lets _ v _ c
  have hc : c.voting = b.voting := b.voting_setView l v
  split <;> exact hc

theorem voting_pickSafe (home : Lane) : (b.pickSafe home).voting = b.voting := by
  unfold BaizeState.pickSafe
  extract_lets shows
  split
  · split <;> rfl
  · split
    · rfl
    · split <;> rfl
  · rfl

end BaizeState

/-! ## The voters stay off: the Baize -/

theorem Voter.takeHash_cmd (from_ : Unit3) (e : Exchange) (v : Voter) : (v.takeHash from_ e).cmd = v.cmd := by
  unfold Voter.takeHash
  split
  · split <;> rfl
  · split
    · rfl
    · split <;> rfl

/-- An exchange frame leaves the command of the voter that takes it. -/
theorem Voter.receive_cmd (dest from_ : Unit3) (e : Exchange) (v : Voter) : (v.receive dest from_ e).cmd = v.cmd := by
  unfold Voter.receive
  extract_lets w
  have hw : w.cmd = v.cmd := by cases from_ with | lane k => cases k <;> rfl | baize => rfl
  split
  · exact (Voter.takeHash_cmd _ _ _).trans hw
  · exact hw

namespace BaizeState.quiet

variable {b c : BaizeState}

theorem of_voting (h : b.quiet) (e : c.voting = b.voting) : c.quiet := by
  obtain ⟨ea, e'⟩ := Prod.mk.inj e
  obtain ⟨es, ec⟩ := Prod.mk.inj e'
  unfold BaizeState.quiet
  rw [ea, es, ec]
  exact h

theorem of_cmd (h : b.voter.cmd = 0) : b.quiet := fun _ => h

/-- A Baize that counts a frame and votes: with its cores apart its command is off, without a record it was. -/
theorem vote (h : b.quiet) (g : PulseSource) (inp : BaizeIn) : ((b.count inp).vote g inp).quiet := by
  unfold BaizeState.vote
  split
  · next r hr =>
    dsimp only
    split
    · next ha =>
      rintro (hc | hc)
      · exact absurd (ha.symm.trans hc) nofun
      · exact absurd (hr.symm.trans hc) nofun
    · exact .of_cmd rfl
  · next hr => exact fun _ => h (.inr hr)

end BaizeState.quiet

end Sys2Proof.Machine

namespace Sys2Proof.Machine

/-! ## The voters stay off: the operations of the block -/

namespace State.votersOff

variable {s t : State} {l : Lane}

theorem of_parts (ha : t.laneA.quiet) (hb : t.laneB.quiet) (hz : t.baize.quiet) : t.votersOff :=
  ⟨fun l => by cases l; exacts [ha, hb], hz⟩

theorem lane (h : s.votersOff) (l : Lane) : (s.lane l).quiet := h.1 l
theorem laneA (h : s.votersOff) : s.laneA.quiet := h.lane .a
theorem laneB (h : s.votersOff) : s.laneB.quiet := h.lane .b
theorem baize (h : s.votersOff) : s.baize.quiet := h.2

theorem of_voting (h : s.votersOff) (e : t.voting = s.voting) : t.votersOff := by
  obtain ⟨ea, e'⟩ := Prod.mk.inj e
  obtain ⟨eb, ez⟩ := Prod.mk.inj e'
  exact of_parts (h.laneA.of_voting ea) (h.laneB.of_voting eb) (h.baize.of_voting ez)

theorem setLane (h : s.votersOff) {x : LaneState} (hx : x.quiet) : (s.setLane l x).votersOff := by
  cases l
  · exact of_parts hx h.laneB h.baize
  · exact of_parts h.laneA hx h.baize

theorem onLane (h : s.votersOff) {f : LaneState → LaneState} (hf : (f (s.lane l)).quiet) : (s.onLane l f).votersOff := h.setLane hf

theorem onBaize (h : s.votersOff) {f : BaizeState → BaizeState} (hf : (f s.baize).voting = s.baize.voting) : (s.onBaize f).votersOff :=
  of_parts h.laneA h.laneB (h.baize.of_voting hf)

theorem withBaize (h : s.votersOff) {f : BaizeState → BaizeState} (hf : (f s.baize).quiet) : (s.onBaize f).votersOff :=
  of_parts h.laneA h.laneB hf

theorem tick (h : s.votersOff) : s.tick.votersOff := h
theorem setKey (h : s.votersOff) (k : Option Key) : (s.setKey l k).votersOff := by cases l <;> exact h
theorem pulse (h : s.votersOff) (p : PulseSource) : ({ s with pulse := p } : State).votersOff := of_parts h.laneA h.laneB h.baize
theorem queue (h : s.votersOff) (q : List Instr) : ({ s with pending := q } : State).votersOff := of_parts h.laneA h.laneB h.baize
theorem canvas (h : s.votersOff) (c : CanvasState) : ({ s with canvas := c } : State).votersOff := of_parts h.laneA h.laneB h.baize

theorem ite {c : Prop} [Decidable c] (h : c → s.votersOff) (k : ¬c → t.votersOff) : (if c then s else t).votersOff := by
  split
  · exact h ‹_›
  · exact k ‹_›

theorem of_next {u : State} (h : (.next u : Result) = .next t) (hu : u.votersOff) : t.votersOff := next_inj h ▸ hu

/-- A change of one lane alone, beside its life and its voter. -/
theorem onLane_codes (hs : s.votersOff) {f : LaneState → LaneState → LaneState} (k : s.laneOnly t l f)
    (hf : ∀ x y, (f x y).voting = x.voting := by intros; rfl) : t.votersOff := by
  unfold State.laneOnly at k
  rw [k]
  exact hs.setLane ((hs.lane l).of_voting (hf _ _))

theorem runningCodes (h : s.votersOff) (ops : List AlarmOp) : (s.runningCodes ops).votersOff := h.of_voting (s.voting_runningCodes ops)
theorem reportLost (h : s.votersOff) : s.reportLost.votersOff := h.of_voting s.voting_reportLost
theorem onPartner (h : s.votersOff) (f : PartnerState → PartnerState) : (s.onPartner f).votersOff := h.of_voting (s.voting_onPartner f)

/-! Entry into FAILED and starts (02 R40, R41). -/

theorem fail (h : s.votersOff) (cause : Nat) : (s.fail l cause).votersOff := by
  unfold State.fail
  refine .ite (fun _ => h) fun _ => ?_
  extract_lets u
  have hu : u.votersOff := h.onLane .enterFailed
  exact .ite (fun _ => hu.onLane (hu.lane l)) fun _ => hu

theorem restart (h : s.votersOff) : (s.restart l).votersOff := by
  unfold State.restart
  extract_lets x up y _ _ z
  have hy : y.quiet := .startOver x up
  have hz : z.quiet := .ite (fun _ => hy) fun _ => hy
  exact (h.setLane hz).onBaize rfl

theorem supersede (h : s.votersOff) (active : Bool) (seq : Nat) : (s.supersede l active seq).votersOff :=
  .ite (fun _ => h.onLane .enterFailed) fun _ => h

/-! The SAFE record and the voters (13 R386, R387). -/

theorem followMask (h : s.votersOff) : s.followMask.votersOff := by
  unfold State.followMask
  split
  · exact .ite (fun _ => h) fun _ => h.pulse _
  · exact h

/-- A new record comes to a Baize that holds one, and no function that goes to LOCKOUT changes a command. -/
theorem adoptSafe (h : s.votersOff) : s.adoptSafe.votersOff := by
  unfold State.adoptSafe
  split
  · next k r e =>
    have hr : s.baize.safe ≠ none := fun hn => by simp [State.newSafe, hn] at e
    have hz : ({ s.baize with safe := some r, voter := s.baize.voter.lockAll } : BaizeState).quiet := by
      rintro (hc | hc)
      · exact h.baize (.inl hc)
      · cases hc
    have hu : ({ s with baize := { s.baize with safe := some r, voter := s.baize.voter.lockAll },
                        laneA := { s.laneA with voter := s.laneA.voter.lockAll },
                        laneB := { s.laneB with voter := s.laneB.voter.lockAll } } : State).votersOff := of_parts h.laneA h.laneB hz
    exact followMask (hu.onLane (hu.lane k).raise)
  · exact h

/-- A voter changed but for its command, or with its command switched off. -/
theorem onVoter (h : s.votersOff) (u : Unit3) {f : Voter → Voter} (hf : ∀ v, (f v).cmd = v.cmd ∨ (f v).cmd = 0) : (s.onVoter u f).votersOff := by
  cases u with
  | lane l =>
    obtain e | e := hf (s.lane l).voter
    · exact h.onLane ((h.lane l).of_voting (congrArg (Prod.mk _) e))
    · exact h.onLane (.of_cmd e)
  | baize =>
    obtain e | e := hf s.baize.voter
    · exact h.onBaize (congrArg (Prod.mk _ ∘ Prod.mk _) e)
    · exact h.withBaize (.of_cmd e)

theorem feedBaize (h : s.votersOff) : s.feedBaize.votersOff := .ite (fun _ => h) fun _ => h.withBaize (.of_cmd rfl)

theorem enterUnrefereed (h : s.votersOff) : s.enterUnrefereed.votersOff :=
  .ite (fun _ => of_parts h.laneA.codes h.laneB.codes h.baize) fun _ => h

/-! Keys, the panel and the messages of the operator protocol (03, 15, 17). -/

theorem starveCanvas (h : s.votersOff) : s.starveCanvas.votersOff := .ite (fun _ => h) fun _ => h.canvas _

theorem flip (h : s.votersOff) (bank keyId : Nat) : (s.flip l bank keyId).votersOff := by
  unfold State.flip
  extract_lets x
  split
  · refine .ite (fun _ => h) fun _ => ?_
    extract_lets g
    refine setKey (h.setLane ?_) _
    exact h.lane l
  · exact h

theorem closeWrite (h : s.votersOff) (seq : Nat) : (s.closeWrite l seq).votersOff := by
  unfold State.closeWrite
  extract_lets x
  split
  · extract_lets q
    refine setKey (h.setLane ?_) _
    exact h.lane l
  · exact h

theorem writeChunk (h : s.votersOff) (data : Bytes) : (s.writeChunk l data).votersOff := by
  unfold State.writeChunk
  extract_lets x
  split
  · extract_lets q
    refine setKey (h.setLane ?_) _
    exact h.lane l
  · exact h

theorem makerWrite (h : s.votersOff) (op : MakerOp) : (s.makerWrite l op).votersOff := by
  unfold State.makerWrite
  split
  case h_4 =>
    split
    · exact h.setKey _
    · exact h
  all_goals exact h.onLane (h.lane l)

/-- A command takes its message, and where the gate lets it through, has its effect. -/
theorem command (h : s.votersOff) (m : Msg) (a : Ask) {effect : State → State} (he : ∀ u, u.votersOff → (effect u).votersOff) :
    (s.command l m a effect).votersOff := by
  unfold State.command
  extract_lets r s'
  have hs' : s'.votersOff := h.setLane ((h.lane l).take m a)
  exact .ite (fun _ => he s' hs') fun _ => hs'

/-- A command whose effect is a change of a lane that keeps it quiet. -/
theorem commandOn (h : s.votersOff) (m : Msg) (a : Ask) (k : Lane) {f : LaneState → LaneState} (hf : ∀ x : LaneState, x.quiet → (f x).quiet) :
    (s.command l m a fun t => t.onLane k f).votersOff := h.command m a fun _ hu => hu.onLane (hf _ (hu.lane k))

theorem post (h : s.votersOff) (c : CtrlCmd) : (s.post l c).votersOff := h.onLane (h.lane l)

/-! The ticks (01 R12, R18): a lane fails or votes, and only a lane that is not FAILED votes. -/

theorem endFrame (h : s.votersOff) (inp : FrameIn) : (s.endFrame l inp).votersOff := by
  unfold State.endFrame
  refine .ite (fun _ => ?_) fun _ => h
  extract_lets t
  have ht : t.votersOff := h.onLane (h.lane l)
  have ho : ∀ u : State, u.votersOff → (u.judgeOverruns l).votersOff := fun u hu => by
    unfold State.judgeOverruns
    exact .ite (fun _ => fail (hu.onLane (hu.lane l).raise) _) fun _ => hu
  have hc : ∀ u : State, u.votersOff → (u.judgeScrub l inp.test).votersOff := fun u hu => .ite (fun _ => hu.fail _) fun _ => hu
  have hu := hc _ (ho _ (ht.of_voting (t.voting_runSlices l { inp with unfinished := inp.unfinished.filter fun id => id != 0x0131 })))
  refine hu.onLane ((hu.lane l).of_voting ?_)
  unfold LaneState.sampleAxes
  exact LaneState.voting_samples _ _

theorem frameTick (h : s.votersOff) (inp : FrameIn) : (s.frameTick l inp).votersOff := by
  unfold State.frameTick
  extract_lets _ t _ u v
  have ht : t.votersOff := h.endFrame inp
  have hu : u.votersOff := ht.of_voting ((State.voting_beginSlot _ l).trans (t.voting_advanceFrame l inp))
  have hv : v.votersOff := hu.onLane (((((hu.lane l).vote l inp).leaveStart).of_voting (LaneState.voting_judgeLinks _ l)).of_voting
    (LaneState.voting_judgeReady _ l))
  exact (hv.reportLost.of_voting (State.voting_sendCopy _ l)).of_voting (State.voting_sendHeartbeat _ l _)

end State.votersOff

end Sys2Proof.Machine

namespace Sys2Proof.Machine

/-! ## The voters stay off: every command -/

section
variable {s t : State} {l : Lane} (hs : s.votersOff)
include hs
open State.votersOff

/-! ### Lanes and the Baize (02 R36 to R73) -/

theorem execLanePowerUp_votersOff {feed : Nat} (h : execLanePowerUp l feed s = .next t) : t.votersOff := by
  refine of_next h (.ite (fun _ => ?_) fun _ => hs)
  extract_lets y _ _ z u
  have hz : z.quiet := LaneState.quiet.startOver _ true
  have hu : u.votersOff := (hs.setLane hz).onBaize rfl
  exact .ite (fun _ => hu) fun _ => of_parts hu.laneA hu.laneB hu.baize

theorem execBootComplete_votersOff {err : Int} (h : execBootComplete l err s = .next t) : t.votersOff := by
  refine of_next h (.ite (fun _ => ?_) fun _ => hs)
  extract_lets w y
  have hw : w.quiet := hs.lane l
  have hy : y.quiet := hw.seeded _ _
  refine hs.tick.setLane ?_
  exact hy

theorem execBootWatchdogReset_votersOff (h : execBootWatchdogReset l s = .next t) : t.votersOff := by
  refine of_next h (.ite (fun _ => ?_) fun _ => hs)
  extract_lets _ y z
  have hz : z.quiet := LaneState.quiet.startOver y false
  exact hs.setLane (.ite (fun _ => .enterFailed) fun _ => hz)

theorem execKeyCheckComplete_votersOff (h : execKeyCheckComplete l s = .next t) : t.votersOff := by
  refine of_next h (.ite (fun _ => ?_) fun _ => hs)
  extract_lets r y
  have hy : y.quiet := .codes (hs.lane l)
  split
  · extract_lets z0 _ z
    have h0 : z0.quiet := .install _ _ _ _ _
    have hz : z.quiet := .of_cmd rfl
    exact hs.setLane hz.codes
  · exact (hs.setLane hy).fail _

theorem execStartSelfTestComplete_votersOff {test : StartTest} (h : execStartSelfTestComplete l test s = .next t) : t.votersOff := by
  refine of_next h (.ite (fun _ => ?_) fun _ => hs)
  extract_lets y
  have hy : y.quiet := (hs.lane l).selfTestCodes _ _ _
  clear_value y
  have hz : ∀ f : LifeState, f.state = y.life.state → ({ y with life := f } : LaneState).quiet := fun f e k => hy (e.symm.trans k)
  split
  · refine hs.setLane (hz _ ?_).leaveStart
    rfl
  · refine fail (hs.setLane (hz _ ?_)) _
    rfl

theorem execHeartbeatReceived_votersOff {dest : Unit3} {bytes : Bytes} {off : Int} (h : execHeartbeatReceived dest bytes off s = .next t) :
    t.votersOff := by
  refine of_next h ?_
  split
  · exact hs
  · cases dest with
    | lane d => exact .ite (fun _ => (hs.onLane ((hs.lane d).takeHeartbeat _ off)).supersede _ _) fun _ => hs
    | baize => exact .ite (fun _ => (hs.onBaize (BaizeState.voting_takeHeartbeat _ _ _ _)).adoptSafe) fun _ => hs

theorem execStateCopyReceived_votersOff {damage : Nat} (h : execStateCopyReceived l damage s = .next t) : t.votersOff := by
  refine of_next h ?_
  split
  · refine .ite (fun _ => ?_) fun _ => hs
    extract_lets y
    have hy : y.quiet := hs.lane l
    exact hs.setLane (.ite (fun _ => hy.follow _) fun _ => hy)
  · exact hs

theorem execAbdicationFrameReceived_votersOff {dest : Unit3} {bytes : Bytes} (h : execAbdicationFrameReceived dest bytes s = .next t) :
    t.votersOff := by
  refine of_next h ?_
  split
  · exact hs
  · cases dest with
    | lane d => exact .ite (fun _ => hs.onLane ((hs.lane d).takeAbdication _ _)) fun _ => hs
    | baize => exact .ite (fun _ => hs.onBaize (BaizeState.voting_takeAbdication _ _ _ _)) fun _ => hs

theorem execBaizeTick_votersOff {inp : BaizeIn} (h : execBaizeTick inp s = .next t) : t.votersOff := by
  refine of_next h (reportLost (.ite (fun _ => ?_) fun _ => hs))
  extract_lets u
  have hb : (((s.baize.count inp).vote s.pulse inp).pickSafe s.home).quiet := (hs.baize.vote _ _).of_voting (BaizeState.voting_pickSafe _ _)
  have hu : u.votersOff := (hs.withBaize (f := fun b => ((b.count inp).vote s.pulse inp).pickSafe s.home) hb).followMask
  have hj := hu.onBaize (f := fun b => b.judge u.home) (BaizeState.voting_of_heard (BaizeState.heard_judge _ _))
  exact (State.votersOff.ite (fun _ => hj) fun _ => hu).onBaize (BaizeState.voting_of_heard (BaizeState.heard_sendStatus _))

theorem execBaizeStatusReceived_votersOff {bytes : Bytes} (h : execBaizeStatusReceived l bytes s = .next t) : t.votersOff := by
  refine of_next h ?_
  split
  · exact hs.onLane (.ite (fun _ => (hs.lane l).takeStatus _) fun _ => hs.lane l)
  · exact hs

theorem execTakeover_votersOff (h : execTakeover l s = .next t) : t.votersOff := by
  refine of_next h (.ite (fun _ => (hs.setLane (.becomeActive _ l false)).onBaize ?_) fun _ => hs)
  split <;> rfl

theorem execCommandedSwitchover_votersOff (h : execCommandedSwitchover l s = .next t) : t.votersOff :=
  of_next h (.ite (fun _ => ((hs.setLane (.becomeActive _ l _)).setLane (.standDown _ _)).onBaize rfl) fun _ => hs)

theorem execHomeOnlyPeriodEnd_votersOff (h : execHomeOnlyPeriodEnd s = .next t) : t.votersOff := by
  refine of_next h (.ite (fun _ => hs.onBaize (BaizeState.voting_of_heard ?_)) fun _ => hs)
  exact (BaizeState.heard_sendStatus _).trans (BaizeState.heard_ite (BaizeState.heard_grant _ _) rfl)

theorem execRevertHoldoffEnd_votersOff (h : execRevertHoldoffEnd s = .next t) : t.votersOff := by
  refine of_next h ?_
  split
  · refine .ite (fun _ => hs.onBaize (BaizeState.voting_of_heard ?_)) fun _ => hs
    exact (BaizeState.heard_sendStatus _).trans (BaizeState.heard_orderSwitch _ _)
  · exact hs

theorem execBaizeAbsent_votersOff (h : execBaizeAbsent l s = .next t) : t.votersOff :=
  of_next h (.ite (fun _ => enterUnrefereed (hs.onLane (LaneState.quiet.codes (x := { s.lane l with link := _, life := _ }) (hs.lane l))))
    fun _ => hs)

theorem execBaizePresentAgain_votersOff (h : execBaizePresentAgain s = .next t) : t.votersOff :=
  of_next h (.ite (fun _ => of_parts (.codes hs.laneA) (.codes hs.laneB) (by split <;> exact hs.baize)) fun _ => hs)

theorem execLaneSwitch_votersOff {m : Msg} (h : execLaneSwitch l m s = .next t) : t.votersOff := by
  refine of_next h ?_
  split
  · exact hs.command _ _ fun _ hu => hu.onBaize rfl
  · exact hs.command _ _ fun _ hu => hu

theorem execLaneIsolate_votersOff {m : Msg} {v : Nat} (h : execLaneIsolate l m v s = .next t) : t.votersOff := by
  refine of_next h ?_
  split
  · exact hs.commandOn _ _ _ fun _ _ => .ite (fun _ => .raise (.of_state nofun)) fun _ => .codes (.of_state nofun)
  · exact hs.command _ _ fun _ hu => hu

theorem execLaneAdoptImage_votersOff {m : Msg} (h : execLaneAdoptImage l m s = .next t) : t.votersOff := by
  refine of_next h ?_
  split
  · exact hs.command _ _ fun _ hu => hu.onBaize rfl
  · exact hs.command _ _ fun _ hu => hu

theorem execLaneRestart_votersOff {m : Msg} {target : Lane} (h : execLaneRestart l m target s = .next t) : t.votersOff := by
  refine of_next h (hs.command _ _ fun u hu => ?_)
  have hw := (hu.fail (l := target) 6).restart (l := target)
  exact hw.onLane (hw.lane target)

theorem execPartnerMessageReceived_votersOff {bytes : Bytes} (h : execPartnerMessageReceived l bytes s = .next t) : t.votersOff := by
  refine of_next h ?_
  split
  · exact .ite (fun _ => ((hs.onLane (hs.lane l)).onPartner _).runningCodes _) fun _ => hs
  · exact hs

/-! ### Keys, feeds and supply (03, 04) -/

theorem execCellarWriteTimeout_votersOff (h : execCellarWriteTimeout l s = .next t) : t.votersOff := by
  refine of_next h (hs.onLane ?_)
  split
  · exact .ite (fun _ => (hs.lane l).abortWrite) fun _ => hs.lane l
  · exact hs.lane l

theorem execCellarKeyRemoved_votersOff (h : execCellarKeyRemoved l s = .next t) : t.votersOff := by
  have hk : (s.setKey l none).votersOff := hs.setKey none
  exact of_next h (hk.onLane (.ite (fun _ => .raise (hk.lane l)) fun _ => hk.lane l))

theorem execKeyStoreAdd_votersOff {m : Msg} {signer : Bool} {keyId kind : Nat} {key : Bytes}
    (h : execKeyStoreAdd l m signer keyId kind key s = .next t) : t.votersOff := by
  refine of_next h (hs.commandOn _ _ _ fun x hx => ?_)
  split
  · exact .codes hx
  · exact hx

theorem execFeedGood_votersOff {feed reading : Nat} (h : execFeedGood l feed reading s = .next t) : t.votersOff := by
  have hy : ∀ p : PowerState, ({ s.lane l with power := p } : LaneState).quiet := fun _ => hs.lane l
  refine of_next h (.ite (fun _ => hs) fun _ => feedBaize (hs.onLane ?_))
  exact .ite (fun _ => (hy _).clear) fun _ => hy _

theorem execFeedLost_votersOff {feed reading : Nat} (h : execFeedLost l feed reading s = .next t) : t.votersOff := by
  have hu : (s.onLane l fun x => x.loseFeed feed reading).votersOff := hs.onLane ((hs.lane l).loseFeed feed reading)
  have hv := (hu.onLane (hu.lane l).noteBothLost).fail (l := l) 5
  have hf : ∀ x : LaneState, x.quiet → x.flush.quiet := fun _ hx => hx
  exact of_next h (.ite (fun _ => .ite (fun _ => hv.onLane (hf _ (hv.lane l))) fun _ => hu) fun _ => hs)

theorem execMakerCommand_votersOff {op : MakerOp} (h : execMakerCommand l op s = .next t) : t.votersOff := by
  have hr : ∀ old new, (s.setLane l ((s.lane l).record 3 2 0xFFFF 0xFFFFFFFF old new).1).votersOff := fun _ _ => hs.setLane (hs.lane l).record
  exact of_next h (.ite (fun _ => .ite (fun _ => (hr _ _).makerWrite _) fun _ => hr _ _) fun _ => hs)

theorem execRailsRampDown_votersOff {part : Unit3} (h : execRailsRampDown part s = .next t) : t.votersOff := by
  refine of_next h ?_
  cases part with
  | lane k => exact .ite (fun _ => (hs.onLane (.unpower _)).starveCanvas.reportLost) fun _ => hs
  | baize => exact .ite (fun _ => (hs.withBaize (.of_cmd rfl)).reportLost) fun _ => hs

theorem execCalendarOscillatorStop_votersOff {clock : Unit3} (h : execCalendarOscillatorStop clock s = .next t) : t.votersOff := by
  refine of_next h ?_
  cases clock with
  | lane k => exact hs.onLane (hs.lane k)
  | baize => exact hs.onBaize rfl

/-! ### Loops, buses, voters and time (10 to 15) -/

theorem execLoopReset_votersOff {m : Msg} {axis : Nat} (h : execLoopReset l m axis s = .next t) : t.votersOff := by
  refine of_next h (hs.command _ _ fun u hu => ?_)
  have hv := hu.onLane_codes (u.laneOnly_onAxis (l := l) axis fun p r => p.reset r)
  split
  · exact hv.onLane (hv.lane l)
  · exact hv

theorem execCanFrameReceived_votersOff {bus : Nat} {frame : RxFrame} (h : execCanFrameReceived l bus frame s = .next t) : t.votersOff := by
  refine of_next h ?_
  have hc : ∀ r : CanState × List AlarmOp, ((s.lane l).withCan r).quiet := fun r => .codes (hs.lane l)
  have hu := hs.onLane (l := l) (f := fun y => (y.withCan (y.can.receive y.img.canp y.img.canb y.img.thru bus frame)).hearTraffic l bus frame.frame)
    ((hc _).hearTraffic _ _ _)
  split
  · exact hu.supersede _ _
  · exact hu

/-- A record comes with a voter at its start (13 R387). -/
theorem execSafeRecordTransfer_votersOff (h : execSafeRecordTransfer l s = .next t) : t.votersOff := by
  refine of_next h ?_
  split
  · exact followMask (of_parts hs.laneA hs.laneB (.of_cmd rfl))
  · exact hs.adoptSafe

theorem execVoterWatchdogExpiry_votersOff {u : Unit3} (h : execVoterWatchdogExpiry u s = .next t) : t.votersOff :=
  of_next h (hs.onVoter u fun _ => .inr rfl).reportLost

theorem execSafetyExchangeReceived_votersOff {dest source : Unit3} (h : execSafetyExchangeReceived dest source s = .next t) : t.votersOff := by
  refine of_next h (.ite (fun _ => hs) fun _ => ?_)
  have hv := fun e => hs.onVoter dest (f := fun v => v.receive dest source e) fun v => .inl (Voter.receive_cmd _ _ _ _)
  cases dest with
  | lane k => exact (hv _).onLane (((hv _).lane k).compareSafe k)
  | baize => exact (hv _).adoptSafe

theorem execSourceQualified_votersOff {source : TimeSource} {off : Int} (h : execSourceQualified l source off s = .next t) : t.votersOff := by
  refine of_next h (.ite (fun _ => ?_) fun _ => hs)
  extract_lets r y
  have hy : y.quiet := .codes (hs.lane l)
  exact hs.setLane (.ite (fun _ => hy) fun _ => hy.takeUp _ _)

end

open State.votersOff in
/-- The families of O60 take neither the life nor the voter of a lane; the other commands go through the operations above. -/
theorem exec_keeps_votersOff {c : Instr} {s t : State} (hs : s.votersOff) (h : exec c s = .next t) : t.votersOff := by
  have k := eventsTouchTheirPart c s t h
  cases c
  case gnssDump | searchHit | slotRelease | antennaBiasFault | antennaBiasRetry | rtcmFrameReceived | gnssPeerSolutionReceived
      | gnssSolutionTimeout | headingFixTimeout | untrackedTimeout | gnssFrontEndFault | navMessage | referenceLost | predictionOnlyTimeout
      | deadReckoningLimit | joystickTimeout | crossTrackTimeout | targetLost | engStart | actuatorReentry | transitTimeout
      | followingErrorFault | feedbackFreeze | feLatchExpiry | outLimitTimeout | filteredLineChange | sineCosineConversion | indexEvent
      | illegalTransitionFault | wireDisagree | amplitudeLoss | ssiFrameComplete | ssiLoss | sensorSupplyShort | sensorSupplyOpen
      | sensorSupplyRetry | lossClear | countLatchRead | txbRequest | txbCancel | canFrameComplete | canTxError | busOffRecovery | fifoPop
      | transmitInhibit | transmitInhibitRelease | driveStatusTimeout | commandLate | firSample | analogInputInvalid | analogInputValid
      | analogFillComplete | anOutTimeout | analogReadbackFault | prpSupervision | linkChange | nodeForget | networkFrameReceived | close
      | sessionTimeout | ptpMessageReceived | ptpSyncSend | ptpDelayRequest | foreignMasterAgeOut | holdoverEntry | freerunEntry | pulseArm
      | pulseEdge | pulseWidthEnd | canvasStatusTimeout | shadowComparisonFault => exact hs.onLane_codes k
  case sentenceReceived | referenceBinaryFrame | keepalive | subscribe | timestampCapture | captureNow | captureRelease
      | captureValidRead => exact hs.onLane_codes k.2
  case engineRunComplete | read => exact hs.tick.onLane_codes k.2
  case openSession => exact hs.tick.onLane_codes k
  case canvasPhaseBoundary | canvasRailsIdle | canvasRailRetry | canvasPowerFail | crackLoopCheck | canvasTemperatureClear | canvasStart
      | canvasTick | testPulse | discreteOutputOverload | discreteOutputRetry => exact k ▸ of_parts hs.laneA hs.laneB hs.baize
  case canvasRequest => exact k ▸ (hs.onLane (hs.lane _)).canvas _
  -- Start, ticks and heartbeats (01, 02 R42 to R53)
  case lanePowerUp => exact execLanePowerUp_votersOff hs h
  case bootComplete => exact execBootComplete_votersOff hs h
  case bootWatchdogReset => exact execBootWatchdogReset_votersOff hs h
  case keyCheckComplete => exact execKeyCheckComplete_votersOff hs h
  case startSelfTestComplete => exact execStartSelfTestComplete_votersOff hs h
  case frameTick => exact of_next h (.ite (fun _ => hs.frameTick _) fun _ => hs)
  case microframeTick => exact of_next h (.ite (fun _ => hs.of_voting (s.voting_microTick _ _)) fun _ => hs)
  case heartbeatReceived => exact execHeartbeatReceived_votersOff hs h
  case stateCopyReceived => exact execStateCopyReceived_votersOff hs h
  case abdication => exact of_next h (.ite (fun _ => hs.fail _) fun _ => hs)
  case abdicationFrameReceived => exact execAbdicationFrameReceived_votersOff hs h
  -- The Baize and the lanes' roles (02 R48 to R73)
  case baizeReady => exact of_next h (.ite (fun _ => hs.tick.withBaize fun hc => hs.baize (.inr (hc.resolve_left nofun))) fun _ => hs)
  case baizeTick => exact execBaizeTick_votersOff hs h
  case baizeStatusReceived => exact execBaizeStatusReceived_votersOff hs h
  case baizeBusFrameSeen => exact of_next h (.ite (fun _ => hs.onBaize (BaizeState.voting_setView _ _ _)) fun _ => hs)
  case takeover => exact execTakeover_votersOff hs h
  case commandedSwitchover => exact execCommandedSwitchover_votersOff hs h
  case transmitInhibitAssert => exact of_next h (.ite (fun _ => hs.onBaize (BaizeState.voting_setView _ _ _)) fun _ => hs)
  case homeOnlyPeriodEnd => exact execHomeOnlyPeriodEnd_votersOff hs h
  case revertHoldoffEnd => exact execRevertHoldoffEnd_votersOff hs h
  case baizeAbsent => exact execBaizeAbsent_votersOff hs h
  case baizePresentAgain => exact execBaizePresentAgain_votersOff hs h
  case unrefereedTakeover => exact of_next h (hs.onLane (.ite (fun _ => hs.lane _) fun _ => hs.lane _))
  case autoRestart => exact of_next h (.ite (fun _ => hs.restart) fun _ => hs)
  case laneSwitch => exact execLaneSwitch_votersOff hs h
  case laneIsolate => exact execLaneIsolate_votersOff hs h
  case laneAdoptImage => exact execLaneAdoptImage_votersOff hs h
  case laneRestart => exact execLaneRestart_votersOff hs h
  -- The partner pair (02 R74 to R78)
  case partnerTakeCommand => exact of_next h (hs.command _ _ fun _ hu => hu.onPartner _)
  case partnerMessageReceived => exact execPartnerMessageReceived_votersOff hs h
  case partnerRequestLapse => exact of_next h (.ite (fun _ => hs.onPartner _) fun _ => hs)
  case partnerMessagesLost => exact of_next h (.ite (fun _ => hs.runningCodes _) fun _ => hs)
  case partnerAutoTakeover => exact of_next h (.ite (fun _ => (hs.onPartner _).runningCodes _) fun _ => hs)
  -- Keys and feeds (03, 04)
  case cellarWriteOpen => exact of_next h (hs.commandOn _ _ _ fun _ hx => hx)
  case cellarWriteChunk => exact of_next h (hs.command _ _ fun _ hu => hu.writeChunk _)
  case cellarWriteClose => exact of_next h (hs.command _ _ fun _ hu => hu.closeWrite _)
  case cellarVerifyComplete => exact of_next h (hs.onLane ((hs.lane _).verified _ _))
  case cellarWriteAbort => exact of_next h (hs.commandOn _ _ _ fun _ hx => hx.abortWrite)
  case cellarWriteTimeout => exact execCellarWriteTimeout_votersOff hs h
  case cellarSelect => exact of_next h (hs.command _ _ fun _ hu => hu.flip _ _)
  case cellarKeyRemoved => exact execCellarKeyRemoved_votersOff hs h
  case cellarKeyInserted => exact of_next h (hs.setKey _)
  case keyStoreAdd => exact execKeyStoreAdd_votersOff hs h
  case keyStoreRemove => exact of_next h (hs.commandOn _ _ _ fun _ hx => hx)
  case makerTokenEntry => exact of_next h (hs.onLane (.ite (fun _ => hs.lane _) fun _ => hs.lane _))
  case makerTokenLapse => exact of_next h (hs.onLane (.ite (fun _ => hs.lane _) fun _ => .ite (fun _ => hs.lane _) fun _ => hs.lane _))
  case makerCommand => exact execMakerCommand_votersOff hs h
  case feedGood => exact execFeedGood_votersOff hs h
  case feedLost => exact execFeedLost_votersOff hs h
  case feedLowVoltage | feedHighVoltage => exact of_next h (hs.onLane (.ite (fun _ => .codes (hs.lane _)) fun _ => hs.lane _))
  case powerClaim => exact of_next h (hs.commandOn _ _ _ fun _ hx => .claimCodes hx)
  -- References, control, allocation and the loops (06 to 12)
  case refsSelect | refsAccept | refsAnchor => exact of_next h (hs.commandOn _ _ _ fun _ hx => hx)
  case ctrlMode | ctrlSetpoint | ctrlGainBank | ctrlFootprint | ctrlBiasRelease | ctrlTrackCommit | ctrlTargetOffset =>
    exact of_next h (hs.command _ _ fun _ hu => hu.post _)
  case ctrlJoystick => exact of_next h (hs.commandOn _ _ _ fun _ hx => .clear hx)
  case ctrlTrackPoint => exact of_next h (hs.commandOn _ _ _ fun _ hx => hx)
  case allocExclude => exact of_next h (hs.commandOn _ _ _ fun _ hx => .codes hx)
  case loopReset => exact execLoopReset_votersOff hs h
  case fbArm => exact of_next h (hs.commandOn _ _ _ fun _ hx => hx.armChannel _)
  case fbClear => exact of_next h (hs.command _ _ fun _ hu => hu.onLane_codes (State.laneOnly_onChan _ _ _ _))
  case canFrameReceived => exact execCanFrameReceived_votersOff hs h
  -- Safety and analog channels (13, 14)
  case voterWatchdogExpiry => exact execVoterWatchdogExpiry_votersOff hs h
  case safeRecordTransfer => exact execSafeRecordTransfer_votersOff hs h
  case safetyExchangeReceived => exact execSafetyExchangeReceived_votersOff hs h
  case anChannel => exact of_next h (hs.commandOn _ _ _ fun _ hx => hx.queueChannel _ _ _)
  case anCoeffLoad => exact of_next h (hs.commandOn _ _ _ fun _ hx => hx)
  case anOutSet => exact of_next h (hs.commandOn _ _ _ fun _ hx => hx.withOut _ _)
  -- Time (15)
  case incrWrite | stepArm | timeSnapshotRead => exact of_next h (hs.onLane ((hs.lane _).withClock _))
  case stepApply => exact of_next h (hs.onLane (.ite (fun _ => (hs.lane _).applyStep) fun _ => hs.lane _))
  case slewComplete => exact of_next h (hs.onLane (.ite (fun _ => .clear ((hs.lane _).withClock _)) fun _ => hs.lane _))
  case sourceQualified => exact execSourceQualified_votersOff hs h
  case timePulse => exact of_next h (hs.commandOn _ _ _ fun _ hx => hx.onPulse _ _)
  case registerWrite => exact of_next h (.ite (fun _ => hs.tick.onLane ((hs.lane _).writeReg _ _ _)) fun _ => hs)
  -- The panel, the alarms, power down and Muslin (02, 04, 16, 17)
  case canvasRestart => exact of_next h (hs.command _ _ fun _ hu => hu.canvas _)
  case alarmAcknowledgement => exact of_next h (hs.commandOn _ _ _ fun _ hx => hx)
  case railsRampDown => exact execRailsRampDown_votersOff hs h
  case calendarOscillatorStop => exact execCalendarOscillatorStop_votersOff hs h
  case muslinSerialLaneFailed => exact of_next h (of_parts (hs.laneA.loseSerial _) (hs.laneB.loseSerial _) hs.baize)
  case muslinTransferReceived => exact of_next h (hs.onLane (.ite (fun _ => (hs.lane _).transfer _) fun _ => hs.lane _))

/-- Settles O6: the command at the front keeps every lost voter's command off, whatever it is. -/
theorem lostVotersCommandNothing : Obligations.LostVotersCommandNothing := by
  unfold Obligations.LostVotersCommandNothing
  intro s t hs h
  unfold step at h
  split at h
  · exact next_inj h ▸ hs
  · exact exec_keeps_votersOff (hs.queue _) h

end Sys2Proof.Machine

namespace Sys2Proof.Machine

/-!
SUPPORT and settled obligations of the Baize (02 R48 to R70): its rows (O18), its counts (O17), the switch (O19), absence and return
(O20, O21).
-/

/-! ## The parts of the Baize -/

namespace BaizeState

variable (b : BaizeState) (l : Lane)

@[simp] theorem view_setView (v : LaneView) : (b.setView l v).view l = v := by cases l <;> rfl
@[simp] theorem view_setView_other (v : LaneView) : (b.setView l v).view l.other = b.view l.other := by cases l <;> rfl
@[simp] theorem view_setView_other' (v : LaneView) : (b.setView l.other v).view l = b.view l := by cases l <;> rfl
@[simp] theorem view_codes (ops : List AlarmOp) : (b.codes ops).view l = b.view l := by cases l <;> rfl

/-- The Baize's codes after a list of operations. -/
theorem hasAlarm_codes (ops : List AlarmOp) (c : Code) (i : Nat) :
    hasAlarm (b.codes ops).alarms c i = ops.foldl (fun a op => op.leaves a c i) (hasAlarm b.alarms c i) := by
  simp only [codes]
  induction ops generalizing b with
  | nil => rfl
  | cons op ops ih =>
    simp only [List.foldl_cons]
    refine (ih { b with alarms := op.apply b.alarms }).trans ?_
    congr 1
    cases op <;> simp [AlarmOp.leaves, hasAlarm_raised, hasAlarm_held, hasAlarm_cleared]

/-! ### A status frame sent (02 R48) -/

@[simp] theorem view_sendStatus : b.sendStatus.view l = { b.view l with out := (b.status l).bytes } := by cases l <;> rfl

/-- The status frame does not tell of the frames sent. -/
theorem status_sendStatus : b.sendStatus.status l = b.status l := by cases l <;> rfl

/-! ### A Baize frame begins -/

@[simp] theorem view_count (inp : BaizeIn) : (b.count inp).view l = (b.view l).tick := by cases l <;> rfl

/-- The Baize after its vote and the choice of a lane for its record: its counts, but for its voter, its codes and that lane. -/
def begun (inp : BaizeIn) (v : Voter) (as : List Alarm) (sf : Option Lane) : BaizeState :=
  { b.count inp with voter := v, alarms := as, safeFrom := sf }

theorem vote_eq (g : PulseSource) (inp : BaizeIn) :
    b.vote g inp = { b with voter := (b.vote g inp).voter, alarms := (b.vote g inp).alarms } := by
  unfold BaizeState.vote
  split <;> rfl

theorem pickSafe_eq (home : Lane) : b.pickSafe home = { b with safeFrom := (b.pickSafe home).safeFrom } := by
  unfold BaizeState.pickSafe
  extract_lets shows
  split
  · split <;> rfl
  · split
    · rfl
    · split <;> rfl
  · rfl

theorem frame_eq_begun (g : PulseSource) (inp : BaizeIn) (home : Lane) :
    ∃ v as sf, ((b.count inp).vote g inp).pickSafe home = b.begun inp v as sf := by
  let c := (b.count inp).vote g inp
  refine ⟨c.voter, c.alarms, (c.pickSafe home).safeFrom, ?_⟩
  rw [pickSafe_eq, vote_eq]
  rfl

@[simp] theorem view_begun (inp : BaizeIn) (v : Voter) (as : List Alarm) (sf : Option Lane) : (b.begun inp v as sf).view l = (b.view l).tick := by
  cases l <;> rfl

end BaizeState

/-! ## The Baize's tick -/

theorem State.followMask_eq (s : State) : s.followMask = { s with pulse := s.followMask.pulse } := by
  unfold State.followMask
  split
  · split <;> rfl
  · rfl

/-- The state in which the Baize judges a frame. -/
def State.counted (s : State) (inp : BaizeIn) : State := (s.onBaize fun b => ((b.count inp).vote s.pulse inp).pickSafe s.home).followMask

theorem State.counted_baize (s : State) (inp : BaizeIn) : ∃ v as sf, (s.counted inp).baize = s.baize.begun inp v as sf := by
  obtain ⟨v, as, sf, e⟩ := s.baize.frame_eq_begun s.pulse inp s.home
  exact ⟨v, as, sf, (congrArg State.baize (State.followMask_eq _)).trans e⟩

theorem State.counted_unrefereed (s : State) (inp : BaizeIn) : (s.counted inp).unrefereed = s.unrefereed := by
  unfold State.counted
  rw [State.followMask_eq]
  rfl

/-- The tick of a Baize that serves: its counts and its vote, its judgement where the module is refereed, its status frames. -/
theorem exec_baizeTick {s : State} (inp : BaizeIn) (hp : s.baize.powered = true) (hr : s.baize.ready = true) :
    ∃ t v as sf home, exec (.baizeTick inp) s = .next t ∧
      t.baize = (if inp.coresAgree && !s.unrefereed then (s.baize.begun inp v as sf).judge home else s.baize.begun inp v as sf).sendStatus := by
  obtain ⟨v, as, sf, hb⟩ := s.counted_baize inp
  have hf : (s.counted inp).refereed = (inp.coresAgree && !s.unrefereed) := by
    have hpr : (s.baize.begun inp v as sf).powered = true ∧ (s.baize.begun inp v as sf).ready = true := ⟨hp, hr⟩
    have hc : (s.baize.begun inp v as sf).coresAgree = inp.coresAgree := rfl
    simp only [State.refereed, hb, hpr, hc, State.counted_unrefereed, Bool.true_and]
  have he : exec (.baizeTick inp) s = .next ((if (s.counted inp).refereed then (s.counted inp).onBaize fun b => b.judge (s.counted inp).home
      else s.counted inp).onBaize BaizeState.sendStatus).reportLost := by
    change Host.Outcome.next (State.reportLost (if _ then _ else _)) = _
    simp only [hp, hr, Bool.and_self, if_true]
    rfl
  refine ⟨_, v, as, sf, (s.counted inp).home, he, ?_⟩
  change BaizeState.sendStatus _ = _
  rw [hf]
  split
  · exact congrArg (fun b => (BaizeState.judge b _).sendStatus) hb
  · exact congrArg BaizeState.sendStatus hb

end Sys2Proof.Machine

namespace Sys2Proof.Machine

/-! ## The rows of 02 R49 -/

namespace BaizeState

variable (b : BaizeState) (l home : Lane)

/-- Row 4: with neither lane heard nothing changes. -/
theorem judge_of_silence (h : ∀ l, 3 ≤ (b.view l).missing) : b.judge home = b := if_pos ⟨h .a, h .b⟩

/-- With a lane heard the rows are judged in order. -/
theorem judge_of_heard (h : (b.view l).missing < 3) :
    b.judge home = (((((b.watchActive.codes [AlarmOp.whileOn b.linkDown ⟨.ln, 21⟩ 0 0]).watchStandby).countHoldoff home (!b.linkDown)).orderSwitch
      (!b.linkDown)).grant home) := by
  refine if_neg fun ⟨ha, hb⟩ => ?_
  cases l
  · exact absurd ha (Nat.not_le.mpr h)
  · exact absurd hb (Nat.not_le.mpr h)

/-- Row 2: the active lane is silent. -/
theorem watchActive_of_silent (ha : b.active = some l) (hm : 3 ≤ (b.view l).missing) : b.watchActive = b.declare l true := by
  simp only [watchActive, ha, hm, if_true]

@[simp] theorem view_declare (demote : Bool) :
    (b.declare l demote).view l = { b.view l with failed := true, order := if demote then 2 else 0 } := by cases l <;> rfl
@[simp] theorem view_declare_other (demote : Bool) :
    (b.declare l demote).view l.other = { b.view l.other with order := if (b.view l.other).order = 3 then 0 else (b.view l.other).order } := by
  cases l <;> rfl
@[simp] theorem declare_active (demote : Bool) : (b.declare l demote).active = none := by cases l <;> rfl
@[simp] theorem declare_former (demote : Bool) : (b.declare l demote).former = some l := by cases l <;> rfl
@[simp] theorem declare_switchTo (demote : Bool) : (b.declare l demote).switchTo = none := by cases l <;> rfl
@[simp] theorem declare_holdoff (demote : Bool) : (b.declare l demote).holdoff = none := by cases l <;> rfl
@[simp] theorem declare_homeOnly (demote : Bool) : (b.declare l demote).homeOnly = b.homeOnly := by cases l <;> rfl

/-- The contacts of a lane declared failed are open. -/
theorem declare_contacts (demote : Bool) : (b.declare l demote).contacts ≠ some l := by
  have h : (b.declare l demote).contacts = if b.contacts = some l then none else b.contacts := by cases l <;> rfl
  rw [h]
  split
  · exact nofun
  · assumption

theorem hasAlarm_declare (demote : Bool) : hasAlarm (b.declare l demote).alarms ⟨.ln, 4⟩ l.code = true := by
  simp only [declare, hasAlarm_codes, List.foldl, AlarmOp.leaves]
  simp

/-- Row 5 finds no lane to fail. -/
theorem watchStandby_of_kept (h : ∀ l, b.active = some l ∨ (b.view l).failed = true ∨ (b.view l).missing < 3) : b.watchStandby = b := by
  have hs : ∀ l, (if b.active ≠ some l ∧ (b.view l).failed = false ∧ (b.view l).last.isSome = true ∧ 3 ≤ (b.view l).missing then b.standbyFailed l
      else b) = b := fun l => if_neg fun ⟨ha, hf, _, hm⟩ => by
    obtain h | h | h := h l
    · exact ha h
    · exact absurd (hf.symm.trans h) nofun
    · omega
  simp only [watchStandby, List.foldl, hs]

/-- Without an active lane no hold-off runs. -/
theorem countHoldoff_of_none (muslin : Bool) (ha : b.active = none) (hh : b.holdoff = none) : b.countHoldoff home muslin = b := by
  unfold countHoldoff
  extract_lets other
  rw [if_neg fun ⟨h, _⟩ => absurd (ha.symm.trans h) nofun]
  rw [← hh]

theorem orderSwitch_of_none (muslin : Bool) (h : b.switchTo = none) : b.orderSwitch muslin = b := by simp only [orderSwitch, h]

/-- The Baize with a takeover order to a lane (row 9). -/
def granted : BaizeState :=
  ({ b.setView l { b.view l with order := 1 } with active := some l, homeOnly := false, noLane := false, holdoff := none } : BaizeState).codes
    [.clear ⟨.ln, 6⟩ 0, .clear ⟨.ln, 3⟩ l.code]

@[simp] theorem view_granted : (b.granted l).view l = { b.view l with order := 1 } := by cases l <;> rfl
@[simp] theorem view_granted_other : (b.granted l).view l.other = b.view l.other := by cases l <;> rfl
@[simp] theorem view_granted_other' : (b.granted l.other).view l = b.view l := by cases l <;> rfl
@[simp] theorem granted_active : (b.granted l).active = some l := rfl
@[simp] theorem granted_contacts : (b.granted l).contacts = b.contacts := by cases l <;> rfl
@[simp] theorem granted_former : (b.granted l).former = b.former := by cases l <;> rfl
@[simp] theorem granted_switchTo : (b.granted l).switchTo = b.switchTo := by cases l <;> rfl

/-- A grant clears LN-003 and LN-006 alone. -/
theorem hasAlarm_granted {n i : Nat} (h3 : n ≠ 3) (h6 : n ≠ 6) : hasAlarm (b.granted l).alarms ⟨.ln, n⟩ i = hasAlarm b.alarms ⟨.ln, n⟩ i := by
  have ha : (b.setView l { b.view l with order := 1 }).alarms = b.alarms := by cases l <;> rfl
  rw [granted, hasAlarm_codes]
  simp [AlarmOp.leaves, h3.symm, h6.symm, ha]

/-- Row 9 with one candidate. -/
theorem grant_of_one (ha : b.active = none) (hc : (b.view l).candidate = true) (ho : (b.view l.other).candidate = false)
    (hh : b.homeOnly = false) :
    b.grant home = b.granted l := by
  have hl : ([home, home.other].filter fun k => (b.view k).candidate && (!b.homeOnly || k == home)) = [l] := by
    obtain rfl | rfl := Lane.eq_or_other l home
    · simp [hc, ho, hh]
    · simp [hc, ho, hh]
  simp only [grant, ha, hl]
  rfl

/-- Rows 2 and 9: the active lane is silent, and the other is heard ready in STANDBY. -/
theorem judge_of_silent_active {h : Heartbeat} (ha : b.active = some l) (hm : 3 ≤ (b.view l).missing) (ho : (b.view l.other).missing < 3)
    (hl : (b.view l.other).last = some h) (hf : (b.view l.other).failed = false) (hs : h.state = 1) (hr : h.readiness ≠ 1)
    (hh : b.homeOnly = false) :
    b.judge home = ((b.declare l true).codes [AlarmOp.whileOn b.linkDown ⟨.ln, 21⟩ 0 0]).granted l.other := by
  rw [b.judge_of_heard l.other home ho, b.watchActive_of_silent l ha hm]
  generalize hd : (b.declare l true).codes [AlarmOp.whileOn b.linkDown ⟨.ln, 21⟩ 0 0] = d
  have hv : d.view l = { b.view l with failed := true, order := 2 } := by rw [← hd]; simp
  have hv' : d.view l.other = { b.view l.other with order := if (b.view l.other).order = 3 then 0 else (b.view l.other).order } := by
    rw [← hd]; simp
  have hda : d.active = none := by rw [← hd]; exact b.declare_active l true
  have hdh : d.holdoff = none := by rw [← hd]; exact b.declare_holdoff l true
  have hds : d.switchTo = none := by rw [← hd]; exact b.declare_switchTo l true
  have hdo : d.homeOnly = false := by rw [← hd]; exact (b.declare_homeOnly l true).trans hh
  have hk : ∀ k, d.active = some k ∨ (d.view k).failed = true ∨ (d.view k).missing < 3 := fun k => by
    obtain rfl | rfl := Lane.eq_or_other l k
    · exact .inr (.inl (by rw [hv]))
    · exact .inr (.inr (by rw [hv']; exact ho))
  have hc : (d.view l.other).candidate = true := by simp [LaneView.candidate, hv', hf, ho, hl, hs, hr]
  have hn : (d.view l.other.other).candidate = false := by simp [LaneView.candidate, hv]
  rw [d.watchStandby_of_kept hk, d.countHoldoff_of_none home _ hda hdh, d.orderSwitch_of_none _ hds, d.grant_of_one l.other home hda hc hn hdo]

end BaizeState

/-- Settles O18: rows 2 and 9 in one tick, and row 4. -/
theorem baizeReplacesSilentLane : Obligations.BaizeReplacesSilentLane := by
  unfold Obligations.BaizeReplacesSilentLane
  refine ⟨?_, ?_⟩
  · intro s inp l h hp hr hc hu ha hs hm hs' hl hf hst hrd hho
    obtain ⟨t, v, as, sf, home, he, hb⟩ := exec_baizeTick inp hp hr
    rw [hc, hu] at hb
    generalize hd : s.baize.begun inp v as sf = d at hb
    have hv : ∀ k, d.view k = (s.baize.view k).tick := fun k => hd ▸ s.baize.view_begun k inp v as sf
    have hj := d.judge_of_silent_active l home (h := h) (by rw [← hd]; exact ha) (by simp [hv, LaneView.tick, hs]; omega)
      (by simp [hv, LaneView.tick, hs']) (by simp [hv, LaneView.tick, hl]) (by simp [hv, LaneView.tick, hf]) hst hrd (by rw [← hd]; exact hho)
    have hj' := hb.trans (congrArg BaizeState.sendStatus ((if_pos rfl).trans hj))
    clear hj hb
    refine ⟨t, he, ?_, ?_, ?_, ?_, ?_, ?_, ?_, ?_, ?_⟩ <;> rw [hj']
    · rfl
    · simp
    · simp
    · simp
    · refine fun hc => d.declare_contacts l true ?_
      exact (BaizeState.granted_contacts ((d.declare l true).codes [AlarmOp.whileOn d.linkDown ⟨.ln, 21⟩ 0 0]) l.other).symm.trans hc
    · exact (BaizeState.granted_former _ _).trans (d.declare_former l true)
    · rfl
    · exact (BaizeState.granted_switchTo _ _).trans (d.declare_switchTo l true)
    · refine (BaizeState.hasAlarm_granted _ _ (by decide) (by decide)).trans ?_
      have hk := d.hasAlarm_declare l true
      rw [BaizeState.hasAlarm_codes]
      cases d.linkDown <;> simp [AlarmOp.whileOn, AlarmOp.leaves, hk]
  · intro s inp hp hr hm
    obtain ⟨t, v, as, sf, home, he, hb⟩ := exec_baizeTick inp hp hr
    have hj : (s.baize.begun inp v as sf).judge home = s.baize.begun inp v as sf :=
      BaizeState.judge_of_silence _ _ fun l => by
        obtain ⟨hn, hk⟩ := hm l
        simp [LaneView.tick, hn]
        omega
    rw [hj, ite_self] at hb
    refine ⟨t, he, ?_⟩
    rw [hb]
    refine ⟨rfl, rfl, rfl, rfl, rfl, fun l => ?_⟩
    simp [LaneView.tick]

end Sys2Proof.Machine

namespace Sys2Proof.Machine

/-! ## The Baize's counts and inhibits (02 R48, R51, R55) -/

namespace BaizeState

variable (b : BaizeState) (l : Lane)

/-- A grant ends the home-only period, or finds no candidate in it. -/
theorem grant_homeOnly (home : Lane) (h : b.homeOnly = false) : (b.grant home).homeOnly = false := by
  unfold grant
  split
  · exact h
  · extract_lets ls
    cases ls with
    | cons l _ => rfl
    | nil => exact h

end BaizeState

/-- A tick leaves what the frame has counted, and sends the status frames of the decisions. -/
theorem exec_baizeTick_heard {s : State} (inp : BaizeIn) (hp : s.baize.powered = true) (hr : s.baize.ready = true) :
    ∃ t v as sf c, exec (.baizeTick inp) s = .next t ∧ t.baize.heard = (s.baize.begun inp v as sf).heard ∧ t.baize = BaizeState.sendStatus c := by
  obtain ⟨t, v, as, sf, home, he, hb⟩ := exec_baizeTick inp hp hr
  refine ⟨t, v, as, sf, _, he, ?_, hb⟩
  rw [hb, BaizeState.heard_sendStatus]
  exact BaizeState.heard_ite (BaizeState.heard_judge _ _) rfl

/-- The slot of a Baize frame begun. -/
theorem BaizeState.begun_slot (b : BaizeState) (inp : BaizeIn) (v : Voter) (as : List Alarm) (sf : Option Lane) :
    (b.slot < 19 → (b.begun inp v as sf).slot = b.slot + 1) ∧ (b.slot = 19 → (b.begun inp v as sf).slot = 0) := by
  have e : (b.begun inp v as sf).slot = (nextIndex b.slot b.motion).1 % 20 := rfl
  rw [e, nextIndex]
  refine ⟨fun h => ?_, fun h => ?_⟩
  · rw [if_neg (by omega)]
    exact Nat.mod_eq_of_lt (by omega)
  · rw [if_pos h]
    rfl

theorem exec_baizeTick_counts {s : State} (inp : BaizeIn) (hp : s.baize.powered = true) (hr : s.baize.ready = true) :
    ∃ t, exec (.baizeTick inp) s = .next t ∧ t.baize.frame = (s.baize.frame + 1) % 2 ^ 32 ∧
      t.baize.sinceReady = min 10000 (s.baize.sinceReady + 1) ∧ t.baize.coresAgree = inp.coresAgree ∧
      (∀ l, (t.baize.view l).missing = (if (s.baize.view l).seenNow then 0 else (s.baize.view l).missing + 1) ∧
        (t.baize.view l).seenNow = false ∧ (t.baize.view l).last = (s.baize.view l).last ∧
        (t.baize.view l).out = (t.baize.status l).bytes) ∧
      ((s.baize.slot < 19 → t.baize.slot = s.baize.slot + 1) ∧ (s.baize.slot = 19 → t.baize.slot = 0)) := by
  obtain ⟨t, v, as, sf, c, he, hh, hc⟩ := exec_baizeTick_heard inp hp hr
  have hs : t.baize.slot = (s.baize.begun inp v as sf).slot := by
    change t.baize.heard.slot = (s.baize.begun inp v as sf).heard.slot
    rw [hh]
  have hv : ∀ l, (t.baize.view l).heard = (s.baize.view l).tick.heard := fun l => by
    rw [BaizeState.view_of_heard hh, BaizeState.view_begun]
  refine ⟨t, he, ?_, ?_, ?_, fun l => ⟨?_, ?_, ?_, ?_⟩, hs ▸ s.baize.begun_slot inp v as sf⟩
  · change t.baize.heard.frame = _
    rw [hh]
    rfl
  · change t.baize.heard.sinceReady = _
    rw [hh]
    rfl
  · change t.baize.heard.coresAgree = _
    rw [hh]
    rfl
  · change (t.baize.view l).heard.missing = _
    rw [hv]
    rfl
  · change (t.baize.view l).heard.seenNow = _
    rw [hv]
    rfl
  · change (t.baize.view l).heard.last = _
    rw [hv]
    rfl
  · rw [hc, BaizeState.view_sendStatus, BaizeState.status_sendStatus]

/-- Settles O17: the counts of a tick survive the decisions that follow them. -/
theorem baizeCountsAndInhibits : Obligations.BaizeCountsAndInhibits := by
  unfold Obligations.BaizeCountsAndInhibits
  refine ⟨?_, fun s inp hp hr => exec_baizeTick_counts inp hp hr, ?_, ?_, ?_⟩
  · intro s hp hr
    refine congrArg Host.Outcome.next (if_pos ?_)
    rw [hp, hr]
    rfl
  · intro s hr hn
    refine ⟨_, rfl, ?_, ?_, ?_⟩ <;> simp only [hr, hn, decide_true, Bool.and_self, if_true]
    · change BaizeState.homeOnly (if _ then _ else _) = false
      split
      · exact BaizeState.grant_homeOnly _ _ rfl
      · rfl
    · rfl
    · rfl
  · intro s l bus hr ha hi
    have he : exec (.baizeBusFrameSeen l bus) s = .next (s.onBaize fun b =>
        (b.setView l { b.view l with inhibit := true }).codes [.raise ⟨.ln, 5⟩ l.code bus]) := by
      simp only [exec, execBaizeBusFrameSeen, hr, ha, hi, ne_eq, not_false_eq_true, decide_true, Bool.not_false, Bool.and_self, if_true]
    refine ⟨_, he, ?_, ?_, ?_, rfl, rfl, ?_⟩
    · simp [State.onBaize]
    · simp [State.onBaize, BaizeState.hasAlarm_codes, AlarmOp.leaves]
    · simp [State.onBaize]
    · cases l <;> rfl
  · intro s l hr hf ha hx hn
    have he : exec (.transmitInhibitAssert l) s = .next (s.onBaize fun b =>
        { b.setView l { b.view l with inhibit := true } with former := none }) := by
      simp only [exec, execTransmitInhibitAssert, hr, hf, ha, hx, hn, decide_true, Bool.and_self, if_true]
    refine ⟨_, he, ?_, rfl, ?_, rfl, rfl⟩ <;> cases l <;> rfl

end Sys2Proof.Machine

namespace Sys2Proof.Machine

/-! ## A lane becomes ACTIVE, or stands down (02 R42, R54, R56) -/

namespace LaneState

variable (x : LaneState) (l : Lane)

theorem becomeActive_life (revert : Bool) :
    (x.becomeActive l revert).life = { x.life with state := .active, sinceActive := 0, noCopy := !x.hasCopy, orderTakeover := false,
                                                   orderSwitch := false, byInstaller := false } := by
  have hg : (if x.hasCopy then x.usableCopy else none).isNone = !x.hasCopy := by
    unfold hasCopy
    cases x.usableCopy with
    | none => simp
    | some c => by_cases h : x.muslin.copyAge < 20 <;> simp [h]
  unfold becomeActive
  dsimp only
  rw [codes_life, alarm_life, ← hg]
  generalize (if x.hasCopy then x.usableCopy else none) = got
  cases got <;> rfl

theorem becomeActive_takeoverSeq (revert : Bool) : (x.becomeActive l revert).attic.takeoverSeq = (x.newestSeq + 1) % 256 := by
  unfold becomeActive
  dsimp only
  rw [codes_attic, alarm_attic]

theorem becomeActive_codes : hasAlarm (x.becomeActive l false).alarms ⟨.ln, 1⟩ l.code = true := by
  unfold becomeActive
  dsimp only
  rw [hasAlarm_codes _ _ _ _ (by simp [tableFull])]
  simp [AlarmOp.leaves]

theorem standDown_state : (x.standDown false).life.state = .standby := rfl

theorem stopOutputs_lists : ∀ b ∈ x.stopOutputs.can.buses, b.list = [] := by
  intro b hb
  obtain ⟨a, -, rfl⟩ := List.mem_map.mp hb
  rfl

theorem standDown_lists : ∀ b ∈ (x.standDown false).can.buses, b.list = [] := x.stopOutputs_lists

end LaneState

/-! ## The switch (02 R56, R61, R62) -/

/-- An order to switch to a lane that can take over stands in both status frames. -/
theorem BaizeState.orderSwitch_of_ok (b : BaizeState) (t : Lane) {h : Heartbeat} (hs : b.switchTo = some t) (hf : (b.view t).failed = false)
    (hm : (b.view t).missing < 3) (hl : (b.view t).last = some h) (hh : h.state = 1) (ha : b.active = some t.other) :
    b.orderSwitch true = { b with viewA := { b.viewA with order := 3 }, viewB := { b.viewB with order := 3 } } := by
  simp only [orderSwitch, hs, hf, hm, hl, hh, ha]
  rfl

/-- Settles O19: the orders and the exchange, in the equations of `becomeActive` and of the Baize's switch. -/
theorem switchExchangesLanes : Obligations.SwitchExchangesLanes := by
  unfold Obligations.SwitchExchangesLanes
  refine ⟨?_, ?_⟩
  · rintro s n hn hr hh hf hm ha ⟨h, hl, hs⟩ hd
    have ho : BaizeState.orderSwitch { s.baize with switchTo := some s.home, reverting := true, holdoff := none } (!s.baize.linkDown) =
        { s.baize with switchTo := some s.home, reverting := true, holdoff := none, viewA := { s.baize.viewA with order := 3 },
                       viewB := { s.baize.viewB with order := 3 } } := by
      rw [hd]
      refine (BaizeState.orderSwitch_of_ok { s.baize with switchTo := some s.home, reverting := true, holdoff := none } s.home (h := h) rfl ?_ ?_ ?_ hs ha).trans rfl
      all_goals cases e : s.home <;> rw [e] at hf hm hl <;> assumption
    have he : exec .revertHoldoffEnd s = .next (s.onBaize fun b =>
        (BaizeState.orderSwitch { b with switchTo := some s.home, reverting := true, holdoff := none } (!b.linkDown)).sendStatus) := by
      simp only [exec, execRevertHoldoffEnd, hn, hr, hh, decide_true, Bool.and_self, if_true]
    refine ⟨_, he, ?_, ?_, ?_, fun l => ?_, rfl, rfl, ?_⟩ <;> simp only [State.onBaize, ho]
    · rfl
    · rfl
    · rfl
    · cases l <;> rfl
    · rfl
  · intro s l hr ht ho ho' ha hs hi hf
    refine ⟨_, congrArg Host.Outcome.next (if_pos ⟨hr, ht, ho, ho', ha, .inl hs, hf⟩), ?_, ?_, ?_, ?_, rfl, rfl, rfl, rfl, rfl, ?_, ?_⟩
    · simp [LaneState.becomeActive_life]
    · simp [hi, LaneState.standDown_state]
    · simp [LaneState.becomeActive_takeoverSeq]
    · simpa [hi] using LaneState.standDown_lists _
    · cases l <;> rfl
    · cases l <;> rfl

/-! ## Absence and return (02 R66, R68, R69) -/

/-- Both lanes see the Baize absent, one of them from now on. -/
theorem State.unrefereed_of_lanes {s : State} {l : Lane} (h : (s.lane l).link.absent = true) (k : (s.lane l.other).link.absent = true) :
    s.unrefereed = true := by
  cases l
  · exact Bool.and_eq_true_iff.mpr ⟨h, k⟩
  · exact Bool.and_eq_true_iff.mpr ⟨k, h⟩

theorem State.lane_absent {s : State} (h : s.unrefereed = true) (l : Lane) : (s.lane l).link.absent = true := by
  obtain ⟨ha, hb⟩ := Bool.and_eq_true_iff.mp h
  cases l
  · exact ha
  · exact hb

/-- An unrefereed module after it has become so: BZ-001 in both lanes, the Baize's orders and inhibits gone. -/
theorem State.enterUnrefereed_spec {s : State} (h : s.unrefereed = true) :
    s.enterUnrefereed.unrefereed = true ∧ (∀ k, hasAlarm (s.enterUnrefereed.lane k).alarms ⟨.bz, 1⟩ 0 = true) ∧
    (∀ k, (s.enterUnrefereed.baize.view k).inhibit = false ∧ (s.enterUnrefereed.baize.view k).order = 0) ∧
    s.enterUnrefereed.baize.holdoff = none ∧ s.enterUnrefereed.baize.switchTo = none ∧
    ∀ k, (s.enterUnrefereed.lane k).life = (s.lane k).life := by
  have hl : ∀ k, s.enterUnrefereed.lane k = (s.lane k).codes [.hold ⟨.bz, 1⟩ 0 0, .clear ⟨.bz, 2⟩ 0] := fun k => by
    unfold State.enterUnrefereed
    rw [if_pos h]
    cases k <;> rfl
  have ha : ∀ k, (s.enterUnrefereed.lane k).link.absent = true := fun k => by
    rw [hl, LaneState.codes_link]
    exact State.lane_absent h k
  refine ⟨State.unrefereed_of_lanes (ha .a) (ha .b), fun k => ?_, fun k => ?_, ?_, ?_, fun k => ?_⟩
  · rw [hl, LaneState.hasAlarm_codes _ _ _ _ (by simp [tableFull])]
    simp [AlarmOp.leaves]
  · unfold State.enterUnrefereed
    rw [if_pos h]
    cases k <;> exact ⟨rfl, rfl⟩
  · unfold State.enterUnrefereed
    rw [if_pos h]
  · unfold State.enterUnrefereed
    rw [if_pos h]
  · rw [hl, LaneState.codes_life]

/-- The lane that has just seen the Baize absent. -/
def LaneState.sawAbsent (x : LaneState) : LaneState :=
  let y : LaneState := { x with link := { x.link with absent := true }, life := { x.life with orderTakeover := false, orderSwitch := false } }
  y.codes [AlarmOp.whileOn y.linkFailed ⟨.bz, 2⟩ 0 0]

/-- Settles O20: the absence as both lanes see it, and the adoption of the one ACTIVE lane. -/
theorem baizeAbsenceAndReturn : Obligations.BaizeAbsenceAndReturn := by
  unfold Obligations.BaizeAbsenceAndReturn
  refine ⟨?_, ?_⟩
  · intro s l ht hn ha ho
    have he : exec (.baizeAbsent l) s = .next (s.onLane l LaneState.sawAbsent).enterUnrefereed := by
      refine congrArg Host.Outcome.next (if_pos ?_)
      rw [ht, hn, ha]
      rfl
    have hlife : (s.lane l).sawAbsent.life = { (s.lane l).life with orderTakeover := false, orderSwitch := false } := LaneState.codes_life _ _
    have hu : (s.onLane l LaneState.sawAbsent).unrefereed = true := by
      refine State.unrefereed_of_lanes (l := l) ?_ ?_
      · rw [State.lane_onLane, LaneState.sawAbsent, LaneState.codes_link]
      · rwa [State.lane_onLane_other]
    obtain ⟨hur, hbz, hv, hh, hs, hl⟩ := State.enterUnrefereed_spec hu
    refine ⟨_, he, hur, hbz, hv, hh, hs, fun k => ?_, ?_⟩
    · rw [hl]
      obtain rfl | rfl := Lane.eq_or_other l k
      · rw [State.lane_onLane, hlife]
      · rw [State.lane_onLane_other]
    · rw [hl, State.lane_onLane, hlife]
  · intro s hp hr hu ga gb
    have he : exec .baizePresentAgain s = .next _ := congrArg Host.Outcome.next (if_pos (by
      simp only [hp, hr, ga, gb]
      simp [show s.laneA.link.absent = true from State.lane_absent hu .a]))
    refine ⟨_, he, ?_, ?_, ?_, fun k => ⟨?_, ?_⟩⟩
    · simp [State.unrefereed]
    · simp only [hu, if_true]
    · simp only [hu, if_true]
    · cases k <;> exact LaneState.codes_life _ _
    · cases k <;> exact (LaneState.hasAlarm_codes _ _ _ _ (by simp [tableFull])).trans (by simp [AlarmOp.leaves])

/-- Settles O21, by which lanes are ACTIVE. -/
theorem unrefereedLatch : Obligations.UnrefereedLatch := by
  unfold Obligations.UnrefereedLatch
  intro s hu
  refine ⟨fun l ha ho => ?_, fun h => ?_⟩
  · simp only [State.connected, hu, if_true]
    cases l
    · simp only [show s.laneA.active = true from ha, show s.laneB.active = false from ho]
    · simp only [show s.laneB.active = true from ha, show s.laneA.active = false from ho]
  · simp only [State.connected, hu, if_true, h]
    cases s.laneB.active <;> rfl

end Sys2Proof.Machine

namespace Sys2Proof.Machine

/-! ## A lane that fails keeps the rest (02 R40) -/

/-- What neither the changed part nor the codes touch. -/
theorem LaneState.changesOnly.keeps {α : Type} {f : LaneState → LaneState → LaneState} {x y : LaneState} (h : x.changesOnly f y) (g : LaneState → α)
    (hg : ∀ x y z, g ((f x y).codesOf z) = g x := by intros; rfl) : g y = g x := (congrArg g h).trans (hg _ _ _)

/-- What entry into FAILED takes of a lane. -/
abbrev failPart (x y : LaneState) : LaneState := { x with life := y.life, voter := y.voter, can := y.can }

theorem takes_failPart : TakesPart failPart := {}

namespace LaneState

variable (x : LaneState)

theorem judgeLatch_changes : x.changesOnly failPart x.judgeLatch :=
  .ite (fun _ => changesOnly.raise takes_failPart _ _ _) fun _ => .refl takes_failPart x

theorem enterFailed_changes (cause : Nat) : x.changesOnly failPart (x.enterFailed cause) := by
  unfold enterFailed
  refine changesOnly.trans takes_failPart ?_ (judgeLatch_changes _)
  exact changesOnly.raise takes_failPart _ _ _

/-- The latch judges the starts that the lane had as it failed. -/
theorem enterFailed_latched (cause : Nat) (h : 3 ≤ x.recentStarts.length) (hp : x.power.powerUpNext = false) :
    (x.enterFailed cause).life.latched = true := by
  unfold enterFailed
  dsimp only
  generalize hy : LaneState.raise _ _ _ _ = y
  have hr : y.recentStarts = x.recentStarts := by
    rw [← hy, recentStarts, raise_attic, raise_cal]
    rfl
  have hq : y.power = x.power := by
    rw [← hy, raise_power]
    rfl
  rw [← hr] at h
  rw [← hq] at hp
  rw [judgeLatch, if_pos ⟨h, hp⟩, raise_life]

/-! ## Frames of the other lane (02 R43, R50) -/

theorem judgeImage_of_active (h : x.life.state = .active) : x.judgeImage = x := if_neg fun k => by simp [h] at k

theorem takeHeartbeat_peer (b : Heartbeat) (off : Int) :
    (x.takeHeartbeat b off).peer = { x.peer with last := some b, missing := 0, seenNow := true } := by
  simp only [takeHeartbeat, sampleItem, judgeImage, apply_ite peer, raise_peer, ite_self]

theorem takeHeartbeat_tickOffset (b : Heartbeat) (off : Int) : (x.takeHeartbeat b off).muslin.tickOffset = off := by
  simp only [takeHeartbeat, sampleItem, judgeImage, apply_ite muslin, raise_muslin, ite_self]

/-- An ACTIVE lane takes a heartbeat without a change of its life or its Attic. -/
theorem takeHeartbeat_of_active (b : Heartbeat) (off : Int) (h : x.life.state = .active) :
    (x.takeHeartbeat b off).life = x.life ∧ (x.takeHeartbeat b off).attic = x.attic := by
  have hs : ∀ (y : LaneState), (y.sampleItem 0x13 0 off).life = y.life ∧ (y.sampleItem 0x13 0 off).attic = y.attic := fun y => by
    unfold sampleItem
    split <;> exact ⟨rfl, rfl⟩
  unfold takeHeartbeat
  extract_lets _ p _ y0 _ y1 _ y2
  have h1 : y1 = y0 := if_neg fun k => by simp [y0, h] at k
  have h2 : y2 = y0 := (if_neg fun k => by simp [h1, y0, active, h] at k).trans h1
  rw [h2, judgeImage_of_active y0 h]
  exact hs y0

/-- An abdication frame: a standby of an unrefereed module is under order to take over. -/
theorem takeAbdication_eq (b : Heartbeat) (u : Bool) :
    x.takeAbdication b u =
      { x with peer := { x.peer with last := some b, missing := 0, seenNow := true },
               life := { x.life with orderTakeover := x.life.orderTakeover || (u && x.life.state == .standby) } } := by
  unfold takeAbdication
  dsimp only
  cases u
  · simp
  · by_cases hs : x.life.state = .standby
    · simp [hs]
    · simp [hs, beq_eq_false_iff_ne.mpr hs]

end LaneState

/-- A lane that obeys an order or supersession at once. -/
theorem State.supersede_of_newer {s : State} {l : Lane} {seq : Nat} (ha : (s.lane l).life.state = .active)
    (hn : newer 8 seq (s.lane l).attic.takeoverSeq = true) : s.supersede l true seq = s.onLane l fun x => x.enterFailed 0 := by
  simp [State.supersede, LaneState.active, ha, hn]

theorem State.supersede_of_inactive {s : State} {l : Lane} {seq : Nat} : s.supersede l false seq = s := by simp [State.supersede]

/-- Whether a lane is superseded or not, its view of the other lane and of the Muslin link stays. -/
theorem State.supersede_keeps (s : State) (l : Lane) (active : Bool) (seq : Nat) :
    ((s.supersede l active seq).lane l).peer = (s.lane l).peer ∧ ((s.supersede l active seq).lane l).muslin = (s.lane l).muslin ∧
    (s.supersede l active seq).lane l.other = s.lane l.other ∧ (s.supersede l active seq).baize = s.baize := by
  unfold State.supersede
  split
  · refine ⟨?_, ?_, State.lane_onLane_other _ _ _, by cases l <;> rfl⟩ <;> rw [State.lane_onLane]
    · exact ((s.lane l).enterFailed_changes 0).keeps LaneState.peer
    · exact ((s.lane l).enterFailed_changes 0).keeps LaneState.muslin
  · exact ⟨rfl, rfl, rfl, rfl⟩

/-- The lane a frame says it is of. -/
theorem Lane.of_code (l : Lane) : (if l.code = 0 then Lane.a else .b) = l := by cases l <;> rfl

/-- What a new SAFE record changes of the Baize. -/
theorem State.adoptSafe_baize (s : State) : ∃ r v, s.adoptSafe.baize = { s.baize with safe := r, voter := v } := by
  unfold State.adoptSafe
  split
  · next k r _ =>
    refine ⟨some r, s.baize.voter.lockAll, ?_⟩
    rw [State.followMask_eq]
    cases k <;> rfl
  · exact ⟨_, _, rfl⟩

/-- The Baize takes a heartbeat: the lane's view alone, and what the lane says of its state. -/
theorem BaizeState.takeHeartbeat_spec (b : BaizeState) (l home : Lane) (h : Heartbeat) :
    ((b.takeHeartbeat l home h).view l).last = some h ∧ ((b.takeHeartbeat l home h).view l).missing = 0 ∧
    ((b.takeHeartbeat l home h).view l).seenNow = true ∧ ((b.takeHeartbeat l home h).view l).failed = decide (h.state = 3) ∧
    (b.takeHeartbeat l home h).active = b.active ∧ (b.takeHeartbeat l home h).contacts = b.contacts ∧
    (b.takeHeartbeat l home h).view l.other = b.view l.other := by
  unfold BaizeState.takeHeartbeat
  dsimp only
  split <;> cases l <;> exact ⟨rfl, rfl, rfl, rfl, rfl, rfl, rfl⟩

/-- Settles O22: what is heard first, then whether the other lane supersedes. -/
theorem heartbeatsAreTaken : Obligations.HeartbeatsAreTaken := by
  unfold Obligations.HeartbeatsAreTaken
  refine ⟨?_, ?_, ?_⟩
  · intro s l bytes off h hp hl hk hpw hm hv
    have he : exec (.heartbeatReceived (.lane l) bytes off) s =
        .next ((s.onLane l fun y => y.takeHeartbeat h off).supersede l (h.state == 2) h.takeoverSeq) := by
      simp only [exec, execHeartbeatReceived, hp, hl, Lane.of_code, hk, hpw, hm, hv, Bool.true_or, and_self, if_true]
    obtain ⟨hpeer, hmus, hoth, hbz⟩ := (s.onLane l fun y => y.takeHeartbeat h off).supersede_keeps l (h.state == 2) h.takeoverSeq
    rw [State.lane_onLane] at hpeer hmus
    refine ⟨_, he, ?_, ?_, ?_, ?_, ?_, ?_, fun ha hs hn => ?_, fun ha hs => ?_⟩
    · rw [hpeer, LaneState.takeHeartbeat_peer]
    · rw [hpeer, LaneState.takeHeartbeat_peer]
    · rw [hpeer, LaneState.takeHeartbeat_peer]
    · rw [hmus, LaneState.takeHeartbeat_tickOffset]
    · rw [hoth, State.lane_onLane_other]
    · rw [hbz]
      cases l <;> rfl
    · obtain ⟨hlife, hattic⟩ := (s.lane l).takeHeartbeat_of_active h off ha
      rw [hs, show ((2 : Nat) == 2) = true from rfl, State.supersede_of_newer (by simpa [hlife]) (by simpa [hattic]), State.lane_onLane,
        State.lane_onLane]
      obtain ⟨hst, -, hc, -, -⟩ := LaneState.enterFailed_spec ((s.lane l).takeHeartbeat h off) 0
      exact ⟨hst, hc⟩
    · rw [beq_false_of_ne hs, State.supersede_of_inactive, State.lane_onLane]
      exact ((s.lane l).takeHeartbeat_of_active h off ha).1
  · intro s l bytes off h hp hl hk hpw hr hv
    have he : exec (.heartbeatReceived .baize bytes off) s = .next (s.onBaize fun b => b.takeHeartbeat l s.home h).adoptSafe := by
      simp only [exec, execHeartbeatReceived, hp, hl, Lane.of_code, hk, hpw, hr, hv, and_self, if_true]
    obtain ⟨r, v, hb⟩ := (s.onBaize fun b => b.takeHeartbeat l s.home h).adoptSafe_baize
    obtain ⟨h1, h2, h3, h4, h5, h6, h7⟩ := s.baize.takeHeartbeat_spec l s.home h
    have hw : ∀ k, (s.onBaize fun b => b.takeHeartbeat l s.home h).adoptSafe.baize.view k = (s.baize.takeHeartbeat l s.home h).view k := fun k => by
      rw [hb]
      cases k <;> rfl
    refine ⟨_, he, ?_, ?_, ?_, ?_, ?_, ?_, ?_⟩
    · rw [hw, h1]
    · rw [hw, h2]
    · rw [hw, h3]
    · rw [hw, h4]
    · rw [hb]
      exact h5
    · rw [hb]
      exact h6
    · rw [hw, h7]
  · intro s dest bytes off hp
    simp only [exec, execHeartbeatReceived, hp]

/-- Settles O23, by which buffer is the older. -/
theorem stateCopyReplacesOlderBuffer : Obligations.StateCopyReplacesOlderBuffer := by
  unfold Obligations.StateCopyReplacesOlderBuffer
  refine ⟨?_, ?_⟩
  · intro s l c hc hp ha hm
    have he : exec (.stateCopyReceived l 0) s = .next (s.setLane l (if c.layoutId = (s.lane l).img.header.layoutId ∧ (s.lane l).runs = true then
        ((s.lane l).storeCopy c).follow c else (s.lane l).storeCopy c)) := by
      simp only [exec, execStateCopyReceived, hc, hp, ha, hm, Bool.true_or, and_self, if_true]
    refine ⟨_, he, ?_, ?_, ?_, ?_, ?_, ?_⟩
    · rw [State.lane_setLane]
      split <;> rfl
    · rw [State.lane_setLane]
      split <;> rfl
    · rw [State.lane_setLane]
      split <;> rfl
    · rw [State.lane_setLane]
      split <;> rfl
    · rw [State.lane_setLane_other]
    · cases l <;> rfl
  · intro s l damage hd
    simp only [exec, execStateCopyReceived, hd, false_and, if_false]
    split <;> rfl

end Sys2Proof.Machine

namespace Sys2Proof.Machine

/-! ## Abdication (02 R40, R50, R67) -/

/-- The abdication frame does not tell of the frames sent. -/
theorem State.heartbeat_withOut (s : State) (l : Lane) (kind : Nat) (out : Bytes) :
    (s.onLane l fun x => { x with hbOut := out }).heartbeat l kind = s.heartbeat l kind := by cases l <;> rfl

/-- A lane that fails after its first frame tick sends its abdication frame. -/
theorem State.fail_spec {s : State} {l : Lane} (cause : Nat) (h : (s.lane l).life.state ≠ .failed) :
    ∃ out, s.fail l cause = s.onLane l (fun x => { x.enterFailed cause with hbOut := out }) ∧
      ((s.lane l).frame.ticked = true → out = ((s.fail l cause).heartbeat l 2).bytes) := by
  have hf : s.fail l cause = if (s.lane l).frame.ticked then
      (s.onLane l fun x => x.enterFailed cause).onLane l fun x => { x with hbOut := ((s.onLane l fun x => x.enterFailed cause).heartbeat l 2).bytes }
      else s.onLane l fun x => x.enterFailed cause := if_neg h
  cases ht : (s.lane l).frame.ticked with
  | true =>
    simp only [ht, if_true] at hf
    refine ⟨_, hf.trans (State.onLane_onLane _ _ _ _), fun _ => ?_⟩
    rw [hf, State.heartbeat_withOut]
  | false =>
    simp only [ht] at hf
    exact ⟨_, hf, nofun⟩

namespace BaizeState

variable (b : BaizeState) (l home : Lane)

/-- A lane that is no candidate is granted nothing, and the grant of another leaves it. -/
theorem grant_of_failed (ha : b.active = none) (hf : (b.view l).failed = true) :
    ((b.grant home).view l).failed = true ∧ (b.grant home).active ≠ some l ∧ (b.grant home).contacts = b.contacts ∧
    hasAlarm (b.grant home).alarms ⟨.ln, 4⟩ l.code = hasAlarm b.alarms ⟨.ln, 4⟩ l.code := by
  have hl : ∀ k ∈ [home, home.other].filter (fun k => (b.view k).candidate && (!b.homeOnly || k == home)), k = l.other := fun k hk => by
    obtain rfl | rfl := Lane.eq_or_other l k
    · simp [LaneView.candidate, hf] at hk
    · rfl
  have hg : b.grant home = (match [home, home.other].filter (fun k => (b.view k).candidate && (!b.homeOnly || k == home)) with
      | k :: _ => b.granted k
      | [] => ({ b with noLane := true } : BaizeState).codes [.hold ⟨.ln, 6⟩ 0 0]) := by
    simp only [grant, ha]
    rfl
  rw [hg]
  cases e : [home, home.other].filter (fun k => (b.view k).candidate && (!b.homeOnly || k == home)) with
  | nil =>
    refine ⟨?_, ?_, rfl, ?_⟩
    · cases l <;> exact hf
    · exact fun h => nomatch ha.symm.trans h
    · simp [hasAlarm_codes, AlarmOp.leaves]
  | cons k ks =>
    obtain rfl := hl k (e ▸ List.mem_cons_self)
    refine ⟨?_, ?_, granted_contacts _ _, hasAlarm_granted _ _ (by decide) (by decide)⟩
    · rw [view_granted_other', hf]
    · rw [granted_active]
      simp

end BaizeState

/-- Settles O24, by the rule for a lane that fails and, at the Baize, for the lane it declares failed. -/
theorem abdicationStopsTheLane : Obligations.AbdicationStopsTheLane := by
  unfold Obligations.AbdicationStopsTheLane
  refine ⟨?_, ?_, ?_⟩
  · intro s l cause hp hs hc
    have he : exec (.abdication l cause) s = .next (s.fail l cause) := by simp only [exec, execAbdication, hp, hc, Bool.and_self, if_true]
    obtain ⟨out, hf, ho⟩ := State.fail_spec cause hs
    obtain ⟨hst, hca, hcmd, hal, hbs⟩ := (s.lane l).enterFailed_spec cause
    have hl : (s.fail l cause).lane l = { (s.lane l).enterFailed cause with hbOut := out } := by rw [hf, State.lane_onLane]
    refine ⟨_, he, ?_, ?_, ?_, ?_, ?_, ?_, ?_, ?_, ?_, ?_, ?_⟩
    · rw [hl, hst]
    · rw [hl, hca]
    · rw [hl, hcmd]
    · rw [hl]
      exact hbs
    · rw [hl, hal]
    · intro hn hq
      rw [hl]
      exact (s.lane l).enterFailed_latched cause hn hq
    · intro ht
      rw [hl]
      exact ho ht
    · rw [hf, State.lane_onLane_other]
    · rw [hf]
      cases l <;> rfl
    · rw [hf]
      cases l <;> rfl
    · rw [hf]
      cases l <;> rfl
  · intro s l bytes h hp hl hk hpw hm hv
    simp only [exec, execAbdicationFrameReceived, hp, hl, Lane.of_code, hk, hpw, hm, hv, Bool.true_or, and_self, if_true]
    exact congrArg Host.Outcome.next (State.onLane_congr ((s.lane l).takeAbdication_eq h s.unrefereed))
  · intro s l bytes h hp hl hk hr hv ha
    have he : exec (.abdicationFrameReceived .baize bytes) s = .next (s.onBaize fun b => b.takeAbdication l s.home h) := by
      simp only [exec, execAbdicationFrameReceived, hp, hl, Lane.of_code, hk, hr, hv, and_self, if_true]
    generalize hc : s.baize.setView l { s.baize.view l with last := some h, missing := 0, seenNow := true } = c
    have hb : s.baize.takeAbdication l s.home h = ((c.declare l false).grant s.home).sendStatus := by
      simp only [BaizeState.takeAbdication, ha, if_true, hc]
    obtain ⟨hgf, hga, hgc, hgl⟩ := (c.declare l false).grant_of_failed l s.home (c.declare_active l false) (by simp)
    refine ⟨_, he, ?_, ?_, ?_, ?_, rfl, rfl⟩ <;> simp only [State.onBaize, hb]
    · rw [BaizeState.view_sendStatus]
      exact hgf
    · exact hga
    · exact fun hk => c.declare_contacts l false (hgc.symm.trans hk)
    · exact hgl.trans (c.hasAlarm_declare l false)

/-! ## Orders, takeover and restart (02 R41, R48, R54, R67) -/

/-- Settles O25: of the three orders only the second takes the lane out of its state. -/
theorem statusOrdersAreObeyed : Obligations.StatusOrdersAreObeyed := by
  unfold Obligations.StatusOrdersAreObeyed
  intro s l bytes b hb hp ha hf
  have he : exec (.baizeStatusReceived l bytes) s = .next (s.onLane l fun x => if x.life.powered then x.takeStatus b else x) := by
    simp only [exec, execBaizeStatusReceived, hb]
  generalize hy : ({ s.lane l with link := { (s.lane l).link with last := some b, seenNow := true, coresAgree := true } } : LaneState) = y
  have hyl : y.link = { (s.lane l).link with last := some b, seenNow := true, coresAgree := true } := by rw [← hy]
  have hyf : y.life = (s.lane l).life := by rw [← hy]
  have ht : (s.lane l).takeStatus b = if b.order = 2 ∧ y.active = true then y.enterFailed 0
      else { y with life := { y.life with orderTakeover := decide (b.order = 1 ∧ y.life.state = .standby),
                                          orderSwitch := decide (b.order = 3 ∧ y.runs = true) } } := by
    rw [← hy]
    simp only [LaneState.takeStatus, hf, ha]
    rfl
  have hl : ((s.onLane l fun x => if x.life.powered then x.takeStatus b else x).lane l) = (s.lane l).takeStatus b := by
    rw [State.lane_onLane, if_pos hp]
  have hk : ((s.lane l).takeStatus b).link = y.link := by
    rw [ht]
    split
    · exact (y.enterFailed_changes 0).keeps LaneState.link
    · rfl
  refine ⟨_, he, ?_, ?_, fun h2 hs => ?_, fun hn => ?_, State.lane_onLane_other _ _ _, by cases l <;> rfl⟩
  · rw [hl, hk, hyl]
  · rw [hl, hk, hyl]
  · obtain ⟨hst, -, hc, -, -⟩ := y.enterFailed_spec 0
    rw [hl, ht, if_pos ⟨h2, by simp [LaneState.active, hyf, hs]⟩]
    exact ⟨hst, hc⟩
  · have hno : ¬(b.order = 2 ∧ y.active = true) := fun ⟨h2, hact⟩ => by
      refine hn.elim (fun h => h h2) fun h => h ?_
      simpa [LaneState.active, hyf] using hact
    have hr : y.runs = (s.lane l).runs := by simp only [LaneState.runs, hyf]
    rw [hl, ht, if_neg hno]
    simp only [hyf, hr]

/-- Settles O26, by the rule for a lane that becomes ACTIVE. -/
theorem takeoverMakesActive : Obligations.TakeoverMakesActive := by
  unfold Obligations.TakeoverMakesActive
  refine ⟨?_, ?_⟩
  · intro s l hs ho
    generalize hf : (fun b : BaizeState => if s.unrefereed then b else { b with contacts := none, closing := some l }) = f
    have he : exec (.takeover l) s = .next ((s.setLane l ((s.lane l).becomeActive l false)).onBaize f) :=
      congrArg Host.Outcome.next ((if_pos ⟨hs, ho⟩).trans (by rw [← hf]))
    have hb : ((s.setLane l ((s.lane l).becomeActive l false)).onBaize f).baize = f s.baize := by cases l <;> rfl
    refine ⟨_, he, ?_, ?_, ?_, ?_, ?_, ?_, ?_, fun hu => ?_, fun hu => ?_, ?_, ?_⟩
    · simp [LaneState.becomeActive_life]
    · simp [LaneState.becomeActive_life]
    · simp [LaneState.becomeActive_life]
    · simp [LaneState.becomeActive_takeoverSeq]
    · simp [LaneState.becomeActive_codes]
    · simp
    · simp [LaneState.becomeActive_life]
    · rw [hb, ← hf]
      simp [hu]
    · rw [hb, ← hf]
      simp [hu]
    · cases l <;> rfl
    · cases l <;> rfl
  · intro s l hu hs ha hr
    exact congrArg Host.Outcome.next (State.onLane_congr (if_pos ⟨hu, hs, ha, hr⟩))

/-- What a start begins with and what it keeps. -/
theorem LaneState.startOver_spec (x : LaneState) (powerUp : Bool) :
    (x.startOver powerUp).life = { (default : LifeState) with powered := true, cause := x.attic.bootCause,
                                                               startFailed := if powerUp then [] else x.life.startFailed } ∧
    (x.startOver powerUp).image = none ∧ (x.startOver powerUp).ledger = x.ledger ∧ (x.startOver powerUp).attic = x.attic ∧
    (x.startOver powerUp).cal = x.cal := by
  unfold LaneState.startOver
  dsimp only
  split
  · split <;> simp [LaneState.claimCodes] <;> rfl
  · simp [LaneState.claimCodes]
    rfl

/-- A restart is a start of the lane; no restart but a power-up counts (02 R41; 04 R120). -/
theorem State.restart_spec (s : State) (l : Lane) :
    ((s.restart l).lane l).life = ((s.lane l).startOver (s.lane l).power.powerUpNext).life ∧ ((s.restart l).lane l).image = none ∧
    ((s.restart l).lane l).ledger = (s.lane l).ledger ∧ (s.restart l).lane l.other = s.lane l.other ∧
    ((s.lane l).power.powerUpNext = false → ((s.restart l).lane l).attic.starts = ((s.lane l).cal.ticks :: (s.lane l).attic.starts).take 8) ∧
    ((s.lane l).power.powerUpNext = true → ((s.restart l).lane l).attic.powerCycles = ((s.lane l).attic.powerCycles + 1) % 2 ^ 32) := by
  obtain ⟨-, him, hle, hat, hca⟩ := (s.lane l).startOver_spec (s.lane l).power.powerUpNext
  generalize hy : (s.lane l).startOver (s.lane l).power.powerUpNext = y at him hle hat hca ⊢
  generalize hz : (if (s.lane l).power.powerUpNext then
      { y with attic := { y.attic with powerCycles := (y.attic.powerCycles + 1) % 2 ^ 32 }, power := { y.power with losses := 0 } }
      else y.countStart : LaneState) = z
  have hr : s.restart l = (s.setLane l z).onBaize fun b => { b with suspended := false } := by rw [← hz, ← hy]; rfl
  have hzl : z.life = y.life ∧ z.image = y.image ∧ z.ledger = y.ledger := by
    rw [← hz]
    split <;> exact ⟨rfl, rfl, rfl⟩
  obtain ⟨hzf, hzi, hzg⟩ := hzl
  rw [hr]
  refine ⟨?_, ?_, ?_, ?_, fun hu => ?_, fun hu => ?_⟩
  · simp [hzf]
  · simp [hzi, him]
  · simp [hzg, hle]
  · simp
  · rw [← hz, hu]
    simp [LaneState.countStart, hca, hat]
  · rw [← hz, hu]
    simp [hat]

/-- Settles O27, by the rule for a start. -/
theorem failedLaneRestarts : Obligations.FailedLaneRestarts := by
  unfold Obligations.FailedLaneRestarts
  intro s l hp hs hf
  have hg : ((s.lane l).power.feed1.good || (s.lane l).power.feed2.good) = true := by
    unfold LaneState.powerFail at hf
    rwa [← Bool.not_or, Bool.not_eq_false'] at hf
  refine ⟨fun hl => ?_, fun hl hu => ?_⟩
  · have he : exec (.autoRestart l) s = .next (s.restart l) := congrArg Host.Outcome.next (if_pos ⟨hp, hs, hg, .inl hl⟩)
    obtain ⟨hlife, him, hle, ho, hst, hpc⟩ := s.restart_spec l
    obtain ⟨hsl, -, -, -, -⟩ := (s.lane l).startOver_spec (s.lane l).power.powerUpNext
    rw [hsl] at hlife
    exact ⟨_, he, by rw [hlife]; rfl, by rw [hlife]; rfl, him, hle, ho, hst, hpc⟩
  · refine congrArg Host.Outcome.next (if_neg fun h => ?_)
    simp [hl, hu] at h

end Sys2Proof.Machine

namespace Sys2Proof.Machine

/-!
SUPPORT and settled obligations: supply of a lane (O10) and its start (O13).
-/

/-! ## Feeds (04 R115 to R125) -/

namespace PowerState

variable (p : PowerState)

/-- One feed replaced, the other as it was. -/
theorem feed_setFeed {n : Nat} (h : n = 1 ∨ n = 2) (f : Feed) :
    (p.setFeed n f).feed n = f ∧ (p.setFeed n f).feed (3 - n) = p.feed (3 - n) := by
  obtain rfl | rfl := h <;> exact ⟨rfl, rfl⟩

theorem feeds_of_pair {n : Nat} (h : n = 1 ∨ n = 2) : (!p.feed1.good && !p.feed2.good) = (!(p.feed n).good && !(p.feed (3 - n)).good) := by
  obtain rfl | rfl := h
  · rfl
  · exact Bool.and_comm _ _

end PowerState

namespace LaneState

variable (x : LaneState)

/-- What entry into FAILED takes leaves supply, Attic and ledger. -/
theorem enterFailed_power (cause : Nat) : (x.enterFailed cause).power = x.power := (x.enterFailed_changes cause).keeps power
theorem enterFailed_attic (cause : Nat) : (x.enterFailed cause).attic = x.attic := (x.enterFailed_changes cause).keeps attic

/-- The loss of a feed: the feed, the count of losses and the codes. -/
theorem loseFeed_of_powered (feed r : Nat) (h : x.life.powered = true) :
    x.loseFeed feed r = ({ x with power := { x.power.setFeed feed ⟨false, r⟩ with losses := satInc 16 x.power.losses } } : LaneState).codes
      (AlarmOp.ifOn (if feed = 2 then x.attic.claim2 else x.attic.claim1) ⟨.pw, 1⟩ feed 0 ++ [.clear ⟨.pw, 2⟩ feed, .clear ⟨.pw, 3⟩ feed]) :=
  if_pos h

/-! The flush (04 R120, R124). -/

theorem flush_life : x.flush.life = x.life := rfl
theorem flush_voter : x.flush.voter = x.voter := rfl
theorem flush_alarms : x.flush.alarms = x.alarms := rfl
theorem flush_power : x.flush.power = { x.power with writeProtected := true } := rfl
theorem flush_attic : x.flush.attic = { x.attic with opHours := x.power.opHours, opFrac := x.power.opFrac } := rfl

/-- What the loss of a feed changes of its lane's supply. -/
theorem loseFeed_spec (feed r : Nat) (hf : feed = 1 ∨ feed = 2) (h : x.life.powered = true) :
    (x.loseFeed feed r).powerFail = !(x.power.feed (3 - feed)).good ∧ (x.loseFeed feed r).life = x.life ∧
    (x.loseFeed feed r).power.opHours = x.power.opHours ∧ (x.loseFeed feed r).power.opFrac = x.power.opFrac := by
  obtain ⟨hl, ho⟩ := x.power.feed_setFeed hf ⟨false, r⟩
  have hp : (x.loseFeed feed r).power = { x.power.setFeed feed ⟨false, r⟩ with losses := satInc 16 x.power.losses } := by
    rw [x.loseFeed_of_powered feed r h, codes_power]
  refine ⟨?_, ?_, ?_, ?_⟩
  · have hpf : (x.loseFeed feed r).powerFail = (!(x.power.setFeed feed ⟨false, r⟩).feed1.good && !(x.power.setFeed feed ⟨false, r⟩).feed2.good) := by
      rw [powerFail, hp]
    rw [hpf, PowerState.feeds_of_pair _ hf, hl, ho]
    rfl
  · rw [x.loseFeed_of_powered feed r h, codes_life]
  · rw [hp]
    obtain rfl | rfl := hf <;> rfl
  · rw [hp]
    obtain rfl | rfl := hf <;> rfl

/-- The loss of both feeds is noted in the lane's supply. -/
theorem noteBothLost_life : x.noteBothLost.life = x.life := by
  unfold noteBothLost
  simp only [apply_ite life, raise_life, ite_self]

theorem noteBothLost_power :
    x.noteBothLost.power = { x.power with bothLost := x.noteBothLost.power.bothLost, powerUpNext := true, onHoldup := true } := by
  unfold noteBothLost
  simp only [apply_ite power, raise_power, ite_self]

theorem noteBothLost_spec :
    x.noteBothLost.life = x.life ∧ x.noteBothLost.power.powerUpNext = true ∧ x.noteBothLost.power.onHoldup = true ∧
    x.noteBothLost.power.opHours = x.power.opHours ∧ x.noteBothLost.power.opFrac = x.power.opFrac := by
  refine ⟨x.noteBothLost_life, ?_, ?_, ?_, ?_⟩ <;> rw [noteBothLost_power]

end LaneState

/-- A lane that is not running hears nothing of the lost voters. -/
theorem State.reportLost_lane {s : State} {l : Lane} (h : (s.lane l).runs = false) : s.reportLost.lane l = s.lane l := by
  have e : ∀ k, s.reportLost.lane k = if (s.lane k).runs then (s.lane k).codes s.lostCodes else s.lane k := fun k => by cases k <;> rfl
  rw [e, h]
  rfl

theorem State.feedBaize_of_powered {s : State} (h : s.baize.powered = true) : s.feedBaize = s := if_pos h

/-- A lane that fails is its entry into FAILED, but for the frame it sends. -/
theorem State.fail_lane {α : Type} {s : State} {l : Lane} {cause : Nat} (h : (s.lane l).life.state ≠ .failed) (g : LaneState → α)
    (hg : ∀ x out, g { x with hbOut := out } = g x := by intros; rfl) : g ((s.fail l cause).lane l) = g ((s.lane l).enterFailed cause) := by
  obtain ⟨out, hf, -⟩ := State.fail_spec cause h
  rw [hf, State.lane_onLane]
  exact hg _ _

theorem State.fail_beside {s : State} {l : Lane} {cause : Nat} (h : (s.lane l).life.state ≠ .failed) :
    (s.fail l cause).lane l.other = s.lane l.other ∧ (s.fail l cause).baize = s.baize ∧ (s.fail l cause).analogOut = s.analogOut ∧
    (s.fail l cause).discreteOut = s.discreteOut := by
  obtain ⟨out, hf, -⟩ := State.fail_spec cause h
  rw [hf]
  exact ⟨State.lane_onLane_other _ _ _, State.onLane_baize _ _ _, State.onLane_analogOut _ _ _, State.onLane_discreteOut _ _ _⟩

/-- A lane that fails and flushes. -/
theorem State.fail_flush_spec {s : State} {l : Lane} (cause : Nat) (h : (s.lane l).life.state ≠ .failed) :
    (((s.fail l cause).onLane l LaneState.flush).lane l).life.state = .failed ∧
    (((s.fail l cause).onLane l LaneState.flush).lane l).life.cause = cause ∧
    (((s.fail l cause).onLane l LaneState.flush).lane l).voter.cmd = 0 ∧
    hasAlarm (((s.fail l cause).onLane l LaneState.flush).lane l).alarms ⟨.ln, 4⟩ 0 = true ∧
    (((s.fail l cause).onLane l LaneState.flush).lane l).power.writeProtected = true ∧
    (((s.fail l cause).onLane l LaneState.flush).lane l).power.onHoldup = (s.lane l).power.onHoldup ∧
    (((s.fail l cause).onLane l LaneState.flush).lane l).power.powerUpNext = (s.lane l).power.powerUpNext ∧
    (((s.fail l cause).onLane l LaneState.flush).lane l).attic.opHours = (s.lane l).power.opHours ∧
    (((s.fail l cause).onLane l LaneState.flush).lane l).attic.opFrac = (s.lane l).power.opFrac ∧
    ((s.fail l cause).onLane l LaneState.flush).lane l.other = s.lane l.other ∧
    ((s.fail l cause).onLane l LaneState.flush).baize = s.baize ∧ ((s.fail l cause).onLane l LaneState.flush).analogOut = s.analogOut ∧
    ((s.fail l cause).onLane l LaneState.flush).discreteOut = s.discreteOut := by
  obtain ⟨hst, hca, hcmd, hal, -⟩ := (s.lane l).enterFailed_spec cause
  obtain ⟨hot, hbz, han, hdi⟩ := State.fail_beside (cause := cause) h
  rw [State.lane_onLane, LaneState.flush_life, LaneState.flush_voter, LaneState.flush_alarms, LaneState.flush_power, LaneState.flush_attic,
    State.fail_lane h LaneState.life, State.fail_lane h LaneState.voter, State.fail_lane h LaneState.alarms, State.fail_lane h LaneState.power,
    State.fail_lane h LaneState.attic, LaneState.enterFailed_power, LaneState.enterFailed_attic, State.lane_onLane_other, State.onLane_baize,
    State.onLane_analogOut, State.onLane_discreteOut]
  exact ⟨hst, hca, hcmd, hal, rfl, rfl, rfl, rfl, rfl, hot, hbz, han, hdi⟩

/-- The loss of the second feed of a lane. -/
theorem exec_feedLost_both {s : State} {l : Lane} {feed r : Nat} (hf : feed = 1 ∨ feed = 2) (hg : ((s.lane l).power.feed feed).good = true)
    (ho : ((s.lane l).power.feed (3 - feed)).good = false) (hp : (s.lane l).life.powered = true) :
    exec (.feedLost l feed r) s =
      .next (((s.onLane l fun x => (x.loseFeed feed r).noteBothLost).fail l 0x0005).onLane l LaneState.flush) := by
  obtain ⟨hpf, hlife, -, -⟩ := (s.lane l).loseFeed_spec feed r hf hp
  have hk : ((s.onLane l fun x => x.loseFeed feed r).lane l).life.powered = true ∧
      ((s.onLane l fun x => x.loseFeed feed r).lane l).powerFail = true := by
    rw [State.lane_onLane, hlife, hpf, ho]
    exact ⟨hp, rfl⟩
  refine congrArg Host.Outcome.next ((if_pos ⟨hg, hf⟩).trans ((if_pos hk).trans ?_))
  rw [State.onLane_onLane]

/-- What the loss of the second feed leaves of a lane: FAILED with cause 0x0005, flushed and write-protected. -/
theorem exec_feedLost_both_spec {s : State} {l : Lane} {feed r : Nat} (hf : feed = 1 ∨ feed = 2) (hg : ((s.lane l).power.feed feed).good = true)
    (ho : ((s.lane l).power.feed (3 - feed)).good = false) (hp : (s.lane l).life.powered = true) (hs : (s.lane l).life.state ≠ .failed) :
    ∃ t, exec (.feedLost l feed r) s = .next t ∧ (t.lane l).life.state = .failed ∧ (t.lane l).life.cause = 0x0005 ∧
      (t.lane l).voter.cmd = 0 ∧ (t.lane l).power.writeProtected = true ∧ (t.lane l).power.onHoldup = true ∧
      (t.lane l).power.powerUpNext = true ∧
      (t.lane l).attic.opHours = (s.lane l).power.opHours ∧ (t.lane l).attic.opFrac = (s.lane l).power.opFrac ∧
      hasAlarm (t.lane l).alarms ⟨.ln, 4⟩ 0 = true ∧
      t.lane l.other = s.lane l.other ∧ t.baize = s.baize ∧ t.analogOut = s.analogOut ∧ t.discreteOut = s.discreteOut := by
  obtain ⟨-, hlife, hoh, hof⟩ := (s.lane l).loseFeed_spec feed r hf hp
  obtain ⟨hnl, hnu, hnh, hno, hnf⟩ := ((s.lane l).loseFeed feed r).noteBothLost_spec
  have hy : (s.onLane l fun x => (x.loseFeed feed r).noteBothLost).lane l = ((s.lane l).loseFeed feed r).noteBothLost := State.lane_onLane _ _ _
  obtain ⟨hst, hca, hcmd, hal, hpw, hph, hpu, hah, haf, hot, hbz, han, hdi⟩ :=
    State.fail_flush_spec (s := s.onLane l fun x => (x.loseFeed feed r).noteBothLost) 0x0005 (by rwa [hy, hnl, hlife])
  rw [hy] at hph hpu hah haf
  refine ⟨_, exec_feedLost_both (r := r) hf hg ho hp, hst, hca, hcmd, hpw, ?_, ?_, ?_, ?_, hal, ?_, ?_, ?_, ?_⟩
  · rw [hph, hnh]
  · rw [hpu, hnu]
  · rw [hah, hno, hoh]
  · rw [haf, hnf, hof]
  · rw [hot, State.lane_onLane_other]
  · rw [hbz, State.onLane_baize]
  · rw [han, State.onLane_analogOut]
  · rw [hdi, State.onLane_discreteOut]

/-- A GOOD feed after all were lost: the Baize has supply and begins anew. -/
theorem exec_feedGood_baize {s : State} {l : Lane} {feed : Nat} (r : Nat) (hf : feed = 1 ∨ feed = 2)
    (hg : ((s.lane l).power.feed feed).good = false) (hb : s.baize.powered = false) :
    ∃ t, exec (.feedGood l feed r) s = .next t ∧ t.baize.powered = true ∧ t.baize.ready = false ∧ t.baize.cal = s.baize.cal ∧
      t.baize.active = none ∧ (t.lane l).power.feed feed = ⟨true, r⟩ ∧ t.lane l.other = s.lane l.other := by
  generalize hq : (fun x : LaneState =>
    let p : PowerState := { x.power.setFeed feed ⟨true, r⟩ with onHoldup := false, inRun := x.power.inRun.set (feed - 1) 0 }
    let y : LaneState := { x with power := p }
    if y.life.powered then y.clear ⟨.pw, 1⟩ feed else y) = f
  have hn : ¬(((s.lane l).power.feed feed).good = true ∨ ¬(feed = 1 ∨ feed = 2)) := fun h => h.elim (fun h => by simp [hg] at h) fun h => h hf
  have hz : (s.onLane l f).feedBaize = (s.onLane l f).onBaize fun b =>
      { (default : BaizeState) with powered := true, cal := b.cal, voter := Voter.blank, coresAgree := true, homeOnly := true } :=
    if_neg (by rw [State.onLane_baize, hb]; exact nofun)
  have he : exec (.feedGood l feed r) s = .next (s.onLane l f).feedBaize := congrArg Host.Outcome.next ((if_neg hn).trans (by rw [← hq]))
  have hfp : (f (s.lane l)).power = { (s.lane l).power.setFeed feed ⟨true, r⟩ with
      onHoldup := false, inRun := (s.lane l).power.inRun.set (feed - 1) 0 } := by
    rw [← hq]
    dsimp only
    split <;> simp
  refine ⟨_, he, ?_⟩
  rw [hz]
  refine ⟨rfl, rfl, ?_, rfl, ?_, ?_⟩
  · rw [State.onBaize_baize, State.onLane_baize]
  · rw [State.lane_onBaize, State.lane_onLane, hfp]
    exact ((s.lane l).power.feed_setFeed hf ⟨true, r⟩).1
  · rw [State.lane_onBaize, State.lane_onLane_other]

/-- The rails of a lane without a feed ramp down. -/
theorem exec_railsRampDown_lane {s : State} {l : Lane} (hp : (s.lane l).life.powered = true) (hf : (s.lane l).powerFail = true) :
    ∃ t, exec (.railsRampDown (.lane l)) s = .next t ∧ t.lane l = (s.lane l).unpower ∧ t.analogOut = s.analogOut := by
  have hc : (s.onLane l LaneState.unpower).starveCanvas.lane l = (s.lane l).unpower := by
    rw [← State.lane_onLane s l LaneState.unpower]
    unfold State.starveCanvas
    split <;> cases l <;> rfl
  refine ⟨_, congrArg Host.Outcome.next (if_pos (by rw [hp, hf]; rfl)), ?_, ?_⟩
  · exact (State.reportLost_lane (by rw [hc]; rfl)).trans hc
  · rw [← State.onLane_analogOut s l LaneState.unpower]
    change (s.onLane l LaneState.unpower).starveCanvas.analogOut = _
    unfold State.starveCanvas
    split <;> rfl

/-- Settles O10: whether a lane keeps a feed decides whether it fails and flushes. -/
theorem feedEvents : Obligations.FeedEvents := by
  unfold Obligations.FeedEvents
  refine ⟨?_, fun s l feed r hf hg hb => exec_feedGood_baize r hf hg hb, ?_, ?_, fun s l => rfl, fun s => rfl,
    fun s l feed r hf hg ho hp hs => exec_feedLost_both_spec hf hg ho hp hs, ?_, ?_⟩
  · intro s l feed r hf hg hp hb
    have hn : ¬(((s.lane l).power.feed feed).good = true ∨ ¬(feed = 1 ∨ feed = 2)) := fun h => h.elim (fun h => by simp [hg] at h) fun h => h hf
    refine congrArg Host.Outcome.next ((if_neg hn).trans ?_)
    rw [State.feedBaize_of_powered (by rw [State.onLane_baize, hb])]
    exact State.onLane_congr (if_pos hp)
  · intro s l feed r hf hg ho hp
    obtain ⟨hpf, -, -, -⟩ := (s.lane l).loseFeed_spec feed r hf hp
    have hk : ¬(((s.onLane l fun x => x.loseFeed feed r).lane l).life.powered = true ∧
        ((s.onLane l fun x => x.loseFeed feed r).lane l).powerFail = true) := fun ⟨_, h⟩ => by
      rw [State.lane_onLane, hpf, ho] at h
      cases h
    refine congrArg Host.Outcome.next ((if_pos ⟨hg, hf⟩).trans ((if_neg hk).trans ?_))
    exact State.onLane_congr ((s.lane l).loseFeed_of_powered feed r hp)
  · intro s l feed hp hg
    have hc : ((s.lane l).life.powered && ((s.lane l).power.feed feed).good) = true := by rw [hp, hg]; rfl
    exact ⟨congrArg Host.Outcome.next (State.onLane_congr (if_pos hc)), congrArg Host.Outcome.next (State.onLane_congr (if_pos hc))⟩
  · intro s l hp hf
    obtain ⟨t, he, hl, ha⟩ := exec_railsRampDown_lane hp hf
    exact ⟨t, he, by rw [hl]; rfl, by rw [hl]; rfl, by rw [hl]; rfl, by rw [hl]; rfl, by rw [hl]; rfl, by rw [hl]; rfl, by rw [hl]; rfl, ha⟩
  · intro s hp ha hb
    refine ⟨_, congrArg Host.Outcome.next (if_pos ?_), rfl, rfl, rfl⟩
    rw [hp, ha, hb]
    rfl

end Sys2Proof.Machine

namespace Sys2Proof.Machine

/-! ## The start of a lane (02 R40, R41; 03 R95; 04 R126 to R128) -/

namespace LaneState

variable (x : LaneState)

/-- A restart that counts: what it takes from the Attic and the calendar clock. -/
theorem countedStart_spec :
    ((x.startOver false).countStart).life.state = .starting ∧ ((x.startOver false).countStart).life.cause = x.attic.bootCause ∧
    ((x.startOver false).countStart).attic = { x.attic with starts := (x.cal.ticks :: x.attic.starts).take 8 } ∧
    ((x.startOver false).countStart).recentStarts =
      ((x.cal.ticks :: x.attic.starts).take 8).filter fun t => decide (x.cal.ticks < t + 600 * 32768) := by
  obtain ⟨hl, -, -, hat, hca⟩ := x.startOver_spec false
  have he : (x.startOver false).countStart.attic = { x.attic with starts := (x.cal.ticks :: x.attic.starts).take 8 } := by
    rw [countStart, hca, hat]
  have hk : (x.startOver false).countStart.cal = x.cal := hca
  have hf : (x.startOver false).countStart.life = (x.startOver false).life := rfl
  refine ⟨?_, ?_, he, ?_⟩
  · rw [hf, hl]
    rfl
  · rw [hf, hl]
  · rw [recentStarts, he, hk]
    rfl

/-- The watchdog's restart ends in FAILED where the latch holds (02 R41). -/
theorem latchedStart_spec {z : LaneState} (cause : Nat) (hs : z.life.state = .starting) (hc : z.life.cause = cause) :
    let w := if 3 ≤ z.recentStarts.length then z.enterFailed cause else z
    w.attic = z.attic ∧ w.life.cause = cause ∧ w.life.state = if 3 ≤ z.recentStarts.length then .failed else .starting := by
  obtain ⟨hst, hca, -, -, -⟩ := z.enterFailed_spec cause
  dsimp only
  split
  · exact ⟨z.enterFailed_attic cause, hca, hst⟩
  · exact ⟨rfl, hc, hs⟩

/-! The start self-test (04 R127). -/

/-- The self-test's codes and findings leave the lane's frame, its image and what it hears. -/
theorem selfTestCodes_spec (l : Lane) (b : Calendar) (t : StartTest) :
    (x.selfTestCodes l b t).life = { x.life with startCode := !t.loopback, holdupBad := decide (t.holdup < 100) } ∧
    (x.selfTestCodes l b t).power.holdup = t.holdup ∧ (x.selfTestCodes l b t).muslin.serial0 = t.serial0 ∧
    (x.selfTestCodes l b t).muslin.serial1 = t.serial1 ∧ (x.selfTestCodes l b t).frame = x.frame ∧
    (x.selfTestCodes l b t).imageDiffers = x.imageDiffers := by
  unfold selfTestCodes
  extract_lets g r q p f m hb y
  refine ⟨?_, ?_, ?_, ?_, ?_, ?_⟩
  · rw [codes_life]
  · rw [codes_power]
  · rw [codes_muslin]
  · rw [codes_muslin]
  · rw [codes_frame]
  · unfold imageDiffers hears hash
    rw [codes_peer, codes_image]

/-- STARTING ends, or goes on, in a lane that waits for its indices. -/
theorem leaveStart_spec (hs : x.life.state = .starting) (hp : x.life.phase = .adopt) :
    (x.frame.ticked = true ∧ x.frame.adopted = true → x.leaveStart.life =
      { x.life with phase := .done, cause := 0, state := if x.imageDiffers then .isolated else .standby }) ∧
    (¬(x.frame.ticked = true ∧ x.frame.adopted = true) → x.leaveStart = x) := by
  refine ⟨fun ⟨ht, ha⟩ => ?_, fun h => if_neg fun ⟨_, _, ht, ha⟩ => h ⟨ht, ha⟩⟩
  unfold leaveStart
  rw [if_pos ⟨hs, hp, ht, ha⟩]
  dsimp only
  split
  · rw [raise_life]
  · rfl

theorem leaveStart_changes : x.changesOnly (fun x y => { x with life := y.life }) x.leaveStart := by
  unfold leaveStart
  refine .ite (fun _ => ?_) fun _ => .refl {} x
  exact .ite (fun _ => changesOnly.raise {} _ _ _) fun _ => rfl

theorem judgeLatch_startFailed : x.judgeLatch.life.startFailed = x.life.startFailed := by
  unfold judgeLatch
  simp only [apply_ite life, apply_ite LifeState.startFailed, raise_life, ite_self]

theorem enterFailed_startFailed (cause : Nat) : (x.enterFailed cause).life.startFailed = x.life.startFailed := by
  unfold enterFailed
  dsimp only
  rw [judgeLatch_startFailed, raise_life]
  rfl

/-- A lane that fails keeps its codes. -/
theorem hasAlarm_enterFailed {cause i : Nat} {c : Code} (ht : ¬tableFull c i) (h : hasAlarm x.alarms c i = true) :
    hasAlarm (x.enterFailed cause).alarms c i = true := by
  have hj : ∀ y : LaneState, hasAlarm y.alarms c i = true → hasAlarm y.judgeLatch.alarms c i = true := fun y hy => by
    unfold judgeLatch
    split
    · rw [hasAlarm_raise _ _ _ _ _ _ ht]
      exact Bool.or_eq_true_iff.mpr (.inl hy)
    · exact hy
  unfold enterFailed
  dsimp only
  refine hj _ ?_
  rw [hasAlarm_raise _ _ _ _ _ _ ht]
  exact Bool.or_eq_true_iff.mpr (.inl h)

/-- The image differs where what is heard and what runs do not. -/
theorem imageDiffers_congr {x y : LaneState} (hp : y.peer = x.peer) (hi : y.image = x.image) : y.imageDiffers = x.imageDiffers := by
  unfold imageDiffers hears hash
  rw [hp, hi]

/-- A lane at the end of its self-test waits for its indices, and leaves STARTING where it has them. -/
theorem waits_spec (y : LaneState) (hs : y.life.state = .starting) :
    let z : LaneState := { y with life := { y.life with phase := .adopt } }
    z.leaveStart.power = y.power ∧ z.leaveStart.muslin = y.muslin ∧
    (y.frame.ticked = true ∧ y.frame.adopted = true → z.leaveStart.life.phase = .done ∧ z.leaveStart.life.cause = 0 ∧
      z.leaveStart.life.state = if y.imageDiffers then .isolated else .standby) ∧
    (¬(y.frame.ticked = true ∧ y.frame.adopted = true) → z.leaveStart.life.state = .starting ∧ z.leaveStart.life.phase = .adopt) := by
  extract_lets _ z
  obtain ⟨hy, hn⟩ := z.leaveStart_spec hs rfl
  have hi : z.imageDiffers = y.imageDiffers := imageDiffers_congr rfl rfl
  refine ⟨z.leaveStart_changes.keeps power, z.leaveStart_changes.keeps muslin, fun h => ?_, fun h => ?_⟩
  · rw [hy h, hi]
    exact ⟨rfl, rfl, rfl⟩
  · rw [hn h]
    exact ⟨hs, rfl⟩

end LaneState

/-- A lane put in place that fails. -/
theorem State.setLane_fail_spec {s : State} {l : Lane} {w : LaneState} (cause : Nat) (h : w.life.state ≠ .failed) :
    let t := (s.setLane l w).fail l cause
    (t.lane l).life.state = .failed ∧ (t.lane l).life.cause = cause ∧ (t.lane l).life.startFailed = w.life.startFailed ∧
    (t.lane l).power = w.power ∧ (t.lane l).muslin = w.muslin ∧ t.lane l.other = s.lane l.other ∧ t.baize = s.baize := by
  have hw : (s.setLane l w).lane l = w := State.lane_setLane _ _ _
  have hs : ((s.setLane l w).lane l).life.state ≠ .failed := by rwa [hw]
  obtain ⟨hst, hca, -, -, -⟩ := w.enterFailed_spec cause
  obtain ⟨hot, hbz, -, -⟩ := State.fail_beside (cause := cause) hs
  dsimp only
  rw [State.fail_lane hs LaneState.life, State.fail_lane hs LaneState.power, State.fail_lane hs LaneState.muslin, hw, hot, hbz,
    State.lane_setLane_other, State.setLane_baize]
  exact ⟨hst, hca, w.enterFailed_startFailed cause, w.enterFailed_power cause, (w.enterFailed_changes cause).keeps LaneState.muslin, rfl, rfl⟩

/-- A lane in its start that fails with a code already raised. -/
theorem State.setLane_fails_keeping {s : State} {l : Lane} {y : LaneState} {cause i : Nat} {c : Code} (hs : y.life.state = .starting)
    (ha : hasAlarm y.alarms c i = true) (ht : ¬tableFull c i) :
    (((s.setLane l y).fail l cause).lane l).life.state = .failed ∧ (((s.setLane l y).fail l cause).lane l).life.cause = cause ∧
    hasAlarm (((s.setLane l y).fail l cause).lane l).alarms c i = true := by
  have hn : y.life.state ≠ .failed := by rw [hs]; exact nofun
  obtain ⟨hst, hca, -, -, -, -, -⟩ := State.setLane_fail_spec (s := s) (l := l) cause hn
  refine ⟨hst, hca, ?_⟩
  rw [State.fail_lane (by rwa [State.lane_setLane]) LaneState.alarms, State.lane_setLane]
  exact y.hasAlarm_enterFailed ht ha

/-- What a lane `y` does at the end of its self-test. -/
def State.selfTested (s : State) (l : Lane) (y : LaneState) (faults : List Nat) : State :=
  if faults.isEmpty then s.setLane l ({ y with life := { y.life with phase := .adopt } } : LaneState).leaveStart
  else (s.setLane l { y with life := { y.life with startFailed := faults } }).fail l 0x0012

theorem State.selfTested_spec {s : State} {l : Lane} {y : LaneState} (faults : List Nat) (hs : y.life.state = .starting) :
    let t := s.selfTested l y faults
    t.lane l.other = s.lane l.other ∧ t.baize = s.baize ∧ (t.lane l).power = y.power ∧ (t.lane l).muslin = y.muslin ∧
    (if faults ≠ [] then (t.lane l).life.state = .failed ∧ (t.lane l).life.cause = 0x0012 ∧ (t.lane l).life.startFailed = faults
     else if y.frame.ticked = true ∧ y.frame.adopted = true then
       (t.lane l).life.phase = .done ∧ (t.lane l).life.cause = 0 ∧
       (t.lane l).life.state = (if y.imageDiffers = true then LaneLife.isolated else .standby)
     else (t.lane l).life.state = .starting ∧ (t.lane l).life.phase = .adopt) := by
  cases faults with
  | nil =>
    have ht : s.selfTested l y [] = s.setLane l ({ y with life := { y.life with phase := .adopt } } : LaneState).leaveStart := rfl
    obtain ⟨hpw, hmu, hy, hn⟩ := y.waits_spec hs
    dsimp only
    rw [ht, State.lane_setLane, State.lane_setLane_other, State.setLane_baize, if_neg (fun h => h rfl)]
    refine ⟨rfl, rfl, hpw, hmu, ?_⟩
    split
    · exact hy ‹_›
    · exact hn ‹_›
  | cons f fs =>
    obtain ⟨hst, hca, hsf, hpw, hmu, hot, hbz⟩ := State.setLane_fail_spec (s := s) (l := l)
      (w := { y with life := { y.life with startFailed := f :: fs } }) 0x0012 (by rw [hs]; exact nofun)
    refine ⟨hot, hbz, hpw, hmu, ?_⟩
    rw [if_pos (List.cons_ne_nil f fs)]
    exact ⟨hst, hca, hsf⟩

theorem exec_startSelfTestComplete {s : State} {l : Lane} (test : StartTest) (hs : (s.lane l).life.state = .starting)
    (hp : (s.lane l).life.phase = .selfTest) :
    exec (.startSelfTestComplete l test) s = .next (s.selfTested l ((s.lane l).selfTestCodes l s.baize.cal test) test.faults) :=
  congrArg Host.Outcome.next (if_pos ⟨hs, hp⟩)

/-! The key check (03 R82, R94, R95). -/

/-- The lane `y` after its key has been read: it runs the image found, or fails. -/
def State.keyChecked (s : State) (l : Lane) (y : LaneState) (i : Option Image) (cause : Nat) : State :=
  match i with
  | some i =>
    let z := y.install l i (s.lane l.other).runs (if (s.lane l.other).runs then some (s.lane l.other).analog.chans else none)
    let z : LaneState := { z with partner := z.startPartner (s.lane l.other), life := { z.life with phase := .selfTest } }
    s.setLane l (z.codes (missingKeys i z.attic))
  | none => (s.setLane l y).fail l cause

theorem State.keyChecked_spec {s : State} {l : Lane} {y : LaneState} (i : Option Image) (cause : Nat) (hs : y.life.state = .starting) :
    (s.keyChecked l y i cause).lane l.other = s.lane l.other ∧ (s.keyChecked l y i cause).baize = s.baize ∧
    (match i with
     | some i => ((s.keyChecked l y (some i) cause).lane l).image = some i ∧ ((s.keyChecked l y (some i) cause).lane l).life.state = .starting ∧
        ((s.keyChecked l y (some i) cause).lane l).life.phase = .selfTest
     | none => ((s.keyChecked l y none cause).lane l).life.state = .failed ∧ ((s.keyChecked l y none cause).lane l).life.cause = cause) := by
  cases i with
  | some i =>
    unfold State.keyChecked
    dsimp only
    rw [State.lane_setLane, State.lane_setLane_other, State.setLane_baize, LaneState.codes_image, LaneState.codes_life]
    exact ⟨rfl, rfl, rfl, hs, rfl⟩
  | none =>
    obtain ⟨hst, hca, -, -, -, hot, hbz⟩ := State.setLane_fail_spec (s := s) (l := l) (w := y) cause (by rw [hs]; exact nofun)
    exact ⟨hot, hbz, hst, hca⟩

theorem exec_keyCheckComplete {s : State} {l : Lane} (hs : (s.lane l).life.state = .starting) (hp : (s.lane l).life.phase = .key) :
    exec (.keyCheckComplete l) s = .next (s.keyChecked l
      (({ s.lane l with cellar := ((s.lane l).cellar.start (s.key l) s.variant (s.lane l).attic.signerKeys).1 } : LaneState).codes
        ((s.lane l).cellar.start (s.key l) s.variant (s.lane l).attic.signerKeys).2.2.1)
      ((s.lane l).cellar.start (s.key l) s.variant (s.lane l).attic.signerKeys).2.1
      ((s.lane l).cellar.start (s.key l) s.variant (s.lane l).attic.signerKeys).2.2.2) := by
  refine congrArg Host.Outcome.next ((if_pos ⟨hs, hp⟩).trans ?_)
  generalize (s.lane l).cellar.start (s.key l) s.variant (s.lane l).attic.signerKeys = r
  obtain ⟨c, i, ops, cause⟩ := r
  cases i <;> rfl

/-- Settles O13: the ends of boot, key check and self-test, each an equation of the step it takes. -/
theorem laneStartsOrFails : Obligations.LaneStartsOrFails := by
  unfold Obligations.LaneStartsOrFails
  refine ⟨?_, ?_, ?_, ?_⟩
  · intro s l hp hs hph
    obtain ⟨hst, hca, hat, hrs⟩ := ({ s.lane l with attic := { (s.lane l).attic with bootCause := 0x0013 } } : LaneState).countedStart_spec
    generalize hz : (({ s.lane l with attic := { (s.lane l).attic with bootCause := 0x0013 } } : LaneState).startOver false).countStart = z
      at hst hca hat hrs
    obtain ⟨hwa, hwc, hws⟩ := LaneState.latchedStart_spec 0x0013 hst hca
    have he : exec (.bootWatchdogReset l) s = .next (s.setLane l (if 3 ≤ z.recentStarts.length then z.enterFailed 0x0013 else z)) :=
      congrArg Host.Outcome.next ((if_pos ⟨hp, hs, hph⟩).trans (by rw [← hz]))
    refine ⟨_, he, ?_, ?_, ?_, ?_, State.lane_setLane_other _ _ _, State.setLane_baize _ _ _⟩
    · rw [State.lane_setLane, hwa, hat]
    · rw [State.lane_setLane, hwc]
    · rw [State.lane_setLane, hwa, hat]
    · rw [State.lane_setLane, hws, hrs]
  · intro s l hs hp
    have he := exec_keyCheckComplete hs hp
    generalize (s.lane l).cellar.start (s.key l) s.variant (s.lane l).attic.signerKeys = r at he ⊢
    obtain ⟨c, i, ops, cause⟩ := r
    obtain ⟨hot, hbz, hi⟩ := State.keyChecked_spec (s := s) (l := l) (y := ({ s.lane l with cellar := c } : LaneState).codes ops) i cause
      (by rw [LaneState.codes_life]; exact hs)
    refine ⟨_, he, hot, hbz, ?_⟩
    cases i with
    | some i => exact hi
    | none => exact hi
  · intro s l hs hp hk
    have he := exec_keyCheckComplete hs hp
    rw [hk] at he
    have hy : ((({ s.lane l with cellar := { CellarState.blank with bank0 := ⟨1, 1, zeros 32⟩, bank1 := ⟨1, 1, zeros 32⟩ } } : LaneState).codes
        [.raise ⟨.cl, 1⟩ 0 0x0011]).life.state) = .starting := by rw [LaneState.codes_life]; exact hs
    have ha := LaneState.hasAlarm_raise_self
      ({ s.lane l with cellar := { CellarState.blank with bank0 := ⟨1, 1, zeros 32⟩, bank1 := ⟨1, 1, zeros 32⟩ } } : LaneState) ⟨.cl, 1⟩ 0 0x0011
    exact ⟨_, he, State.setLane_fails_keeping hy ha (by simp [tableFull])⟩
  · intro s l test hs hp
    obtain ⟨hl, hh, h0, h1, hf, hi⟩ := (s.lane l).selfTestCodes_spec l s.baize.cal test
    have hy : ((s.lane l).selfTestCodes l s.baize.cal test).life.state = .starting := by rw [hl]; exact hs
    obtain ⟨hot, hbz, hpw, hmu, hend⟩ := State.selfTested_spec (s := s) (l := l) test.faults hy
    rw [hf, hi] at hend
    exact ⟨_, exec_startSelfTestComplete test hs hp, hot, hbz, by rw [hpw, hh], by rw [hmu, h0], by rw [hmu, h1], hend⟩

end Sys2Proof.Machine

namespace Sys2Proof.Machine

/-!
SUPPORT and settled obligations: the partner link (O28), the Muslin link (O29), the installer's lane commands (O32), claims, partner and
acknowledgement (O37), control commands out of command (O39).
-/

/-! ## The partner pair (02 R73 to R76) -/

namespace State

variable (s : State) (k : Lane)

theorem runningCodes_lane (ops : List AlarmOp) : (s.runningCodes ops).lane k = if (s.lane k).runs then (s.lane k).codes ops else s.lane k := by
  cases k <;> rfl

/-- Codes in the running lanes leave the partner link. -/
@[simp] theorem runningCodes_partner (ops : List AlarmOp) : ((s.runningCodes ops).lane k).partner = (s.lane k).partner := by
  rw [runningCodes_lane]
  split
  · rw [LaneState.codes_partner]
  · rfl

theorem runningCodes_running (ops : List AlarmOp) (h : (s.lane k).runs = true) : (s.runningCodes ops).lane k = (s.lane k).codes ops := by
  rw [runningCodes_lane, if_pos h]

@[simp] theorem onPartner_partner (f : PartnerState → PartnerState) : ((s.onPartner f).lane k).partner = f (s.lane k).partner := by cases k <;> rfl
@[simp] theorem onPartner_runs (f : PartnerState → PartnerState) : ((s.onPartner f).lane k).runs = (s.lane k).runs := by cases k <;> rfl

end State

/-- A message taken leaves the command of the module, and the message of the fibre. -/
theorem PartnerState.obey_spec (p : PartnerState) (m : PartnerMsg) :
    (p.obey m).last = p.last ∧ (p.obey m).missing = p.missing ∧ (p.obey m).newestMsg = some m ∧ (p.obey m).newestAge = 0 ∧
    (p.obey m).inCommand = p.inCommand := by
  unfold PartnerState.obey
  dsimp only
  split
  · split <;> exact ⟨rfl, rfl, rfl, rfl, rfl⟩
  · split <;> exact ⟨rfl, rfl, rfl, rfl, rfl⟩

theorem exec_partnerMessageReceived_spec {s : State} {l : Lane} {bytes : Bytes} {m : PartnerMsg} (hm : parsePartner bytes = some m)
    (hr : (s.lane l).runs = true) (hp : (s.lane l).role.partnerRole ≠ 0) (ht : (s.lane l).partner.takes m = true) :
    ∃ t, exec (.partnerMessageReceived l bytes) s = .next t ∧ (t.lane l).partner.last = some m ∧ (t.lane l).partner.missing = 0 ∧
      (∀ k, (t.lane k).partner.newestMsg = some m ∧ (t.lane k).partner.newestAge = 0 ∧
        (t.lane k).partner.inCommand = (s.lane k).partner.inCommand) ∧ hasAlarm (t.lane l).alarms ⟨.ln, 51⟩ 0 = false ∧ t.baize = s.baize := by
  generalize hv : s.onLane l (fun y => { y with partner := { y.partner with last := some m, missing := 0 } }) = v
  have hvl : (v.lane l).partner = { (s.lane l).partner with last := some m, missing := 0 } := by rw [← hv, State.lane_onLane]
  have hvr : (v.lane l).runs = true := by
    rw [← hv, State.lane_onLane]
    exact hr
  have hvc : ∀ k, (v.lane k).partner.inCommand = (s.lane k).partner.inCommand := fun k => by
    rw [← hv]
    obtain rfl | rfl := Lane.eq_or_other l k
    · rw [State.lane_onLane]
    · rw [State.lane_onLane_other]
  have he : exec (.partnerMessageReceived l bytes) s = .next ((v.onPartner fun p => p.obey m).runningCodes ([.clear ⟨.ln, 51⟩ 0] ++
      (if (s.lane l.other).partner.missing < 5 then [.clear ⟨.ln, 50⟩ 0] else []))) := by
    rw [← hv]
    simp only [exec, execPartnerMessageReceived, hm, hr, hp, ht, ne_eq, not_false_eq_true, and_self, if_true]
  have hb : ((v.onPartner fun p => p.obey m).runningCodes ([.clear ⟨.ln, 51⟩ 0] ++
      (if (s.lane l.other).partner.missing < 5 then [.clear ⟨.ln, 50⟩ 0] else []))).baize = s.baize := by
    rw [← hv]
    exact State.onLane_baize s l _
  refine ⟨_, he, ?_, ?_, fun k => ?_, ?_, hb⟩
  · rw [State.runningCodes_partner, State.onPartner_partner, (PartnerState.obey_spec _ m).1, hvl]
  · rw [State.runningCodes_partner, State.onPartner_partner, (PartnerState.obey_spec _ m).2.1, hvl]
  · obtain ⟨-, -, hn, ha, hc⟩ := (v.lane k).partner.obey_spec m
    rw [State.runningCodes_partner, State.onPartner_partner]
    exact ⟨hn, ha, hc.trans (hvc k)⟩
  · rw [State.runningCodes_running _ _ _ (by rwa [State.onPartner_runs]), LaneState.hasAlarm_codes _ _ _ _ (by simp [tableFull])]
    split <;> simp [AlarmOp.leaves]

/-- Settles O28: what is taken changes the link of both lanes, the codes follow it. -/
theorem partnerLinkEvents : Obligations.PartnerLinkEvents := by
  unfold Obligations.PartnerLinkEvents
  refine ⟨fun s l bytes m hm hr hp ht => exec_partnerMessageReceived_spec hm hr hp ht, ?_, ?_, ?_, ?_⟩
  · intro s l hq ha ht
    exact congrArg Host.Outcome.next (if_pos (by rw [hq, ht, decide_eq_true ha]; rfl))
  · intro s l hp hm
    refine ⟨_, congrArg Host.Outcome.next (if_pos ⟨hp, hm⟩), fun k hk => ?_, fun k => State.runningCodes_partner _ _ _⟩
    rw [State.runningCodes_running _ _ _ hk]
    split <;> rw [LaneState.hasAlarm_codes _ _ _ _ (by simp [tableFull])] <;> simp [AlarmOp.leaves]
  · intro s l ha hr hau hc hl
    refine ⟨_, congrArg Host.Outcome.next (if_pos ⟨ha, hr, hau, hc, hl⟩), fun k => ?_, ?_⟩
    · rw [State.runningCodes_partner, State.onPartner_partner]
      exact ⟨rfl, rfl⟩
    · have hrun : (s.lane l).runs = true := by
        have := (beq_iff_eq.mp ha : (s.lane l).life.state = .active)
        simp [LaneState.runs, this]
      rw [State.runningCodes_running _ _ _ (by rwa [State.onPartner_runs]), LaneState.hasAlarm_codes _ _ _ _ (by simp [tableFull])]
      simp [AlarmOp.leaves]
  · intro s l hn
    exact congrArg Host.Outcome.next (State.onLane_congr (if_pos hn))

end Sys2Proof.Machine

namespace Sys2Proof.Machine

/-! ## The Muslin link (02 R65) -/

namespace LaneState

variable (x : LaneState)

/-- The link of a lane that loses a serial lane. -/
theorem loseSerial_muslin (second : Bool) :
    (x.loseSerial second).muslin = if second then { x.muslin with serial1 := false } else { x.muslin with serial0 := false } := by
  cases second <;> simp only [loseSerial, apply_ite LaneState.muslin, codes_muslin, ite_self]

/-- The codes of a running lane that loses a serial lane. -/
theorem loseSerial_codes (second : Bool) (hr : x.runs = true) :
    ((if second then x.muslin.serial0 else x.muslin.serial1) = true → hasAlarm (x.loseSerial second).alarms ⟨.ln, 22⟩ 0 = true) ∧
    ((if second then x.muslin.serial0 else x.muslin.serial1) = false → hasAlarm (x.loseSerial second).alarms ⟨.ln, 21⟩ 0 = true) := by
  have hc : ∀ (y : LaneState) (b : Bool), (b = true → hasAlarm (if b then y.codes [.hold ⟨.ln, 22⟩ 0 0] else
        y.codes [.clear ⟨.ln, 22⟩ 0, .hold ⟨.ln, 21⟩ 0 0]).alarms ⟨.ln, 22⟩ 0 = true) ∧
      (b = false → hasAlarm (if b then y.codes [.hold ⟨.ln, 22⟩ 0 0] else
        y.codes [.clear ⟨.ln, 22⟩ 0, .hold ⟨.ln, 21⟩ 0 0]).alarms ⟨.ln, 21⟩ 0 = true) := fun y b => by
    refine ⟨fun h => ?_, fun h => ?_⟩ <;> rw [h]
    · rw [if_pos rfl, hasAlarm_codes _ _ _ _ (by simp [tableFull])]
      simp [AlarmOp.leaves]
    · rw [if_neg nofun, hasAlarm_codes _ _ _ _ (by simp [tableFull])]
      simp [AlarmOp.leaves]
  have hb : ∀ m : MuslinState, m = (if second then { x.muslin with serial1 := false } else { x.muslin with serial0 := false } : MuslinState) →
      (m.serial0 || m.serial1) = if second then x.muslin.serial0 else x.muslin.serial1 := fun m e => by
    rw [e]
    cases second
    · exact Bool.false_or _
    · exact Bool.or_false _
  unfold loseSerial
  dsimp only
  rw [if_pos hr, hb _ rfl]
  exact hc _ _

end LaneState

/-- What a powered lane with its link does with a transfer. -/
theorem exec_muslinTransferReceived {s : State} {l : Lane} (item : MuslinItem) (hp : (s.lane l).life.powered = true)
    (hm : (s.lane l).muslin.serial0 = true ∨ (s.lane l).muslin.serial1 = true) {f : LaneState → LaneState}
    (hf : (s.lane l).transfer item = f (s.lane l)) : exec (.muslinTransferReceived l item) s = .next (s.onLane l f) := by
  refine congrArg Host.Outcome.next (State.onLane_congr ((if_pos ?_).trans hf))
  rw [hp, Bool.true_and]
  exact Bool.or_eq_true_iff.mpr hm

/-- Settles O29: the loss of a serial lane, then the transfers one by one. -/
theorem muslinLink : Obligations.MuslinLink := by
  unfold Obligations.MuslinLink
  refine ⟨fun s second => ⟨_, rfl, fun l => ?_⟩, fun s l hp hm => ⟨?_, ?_, ?_, ?_, ?_⟩⟩
  · have hl : ({ s with laneA := s.laneA.loseSerial second, laneB := s.laneB.loseSerial second } : State).lane l = (s.lane l).loseSerial second := by
      cases l <;> rfl
    rw [hl]
    exact ⟨(s.lane l).loseSerial_muslin second, fun hr => ((s.lane l).loseSerial_codes second hr).1,
      fun hr => ((s.lane l).loseSerial_codes second hr).2⟩
  · intro n r hr hi ha
    refine exec_muslinTransferReceived _ hp hm ?_
    rw [LaneState.transfer, LaneState.armChannel, FbState.withChan_of_rec hr, if_pos ⟨hi, ha⟩]
    rfl
  · intro n start alt r hr
    refine exec_muslinTransferReceived _ hp hm ?_
    simp only [LaneState.transfer, LaneState.queueChannel, AnalogState.withChan, hr]
    rfl
  · intro ns hv hl
    refine ⟨_, exec_muslinTransferReceived (f := (·.transfer (.timeTransfer ns))) _ hp hm rfl, ?_⟩
    rw [State.lane_onLane, LaneState.transfer, LaneState.onStamp, modNth_eq_set default _ _ _ (by omega)]
    simp only [nth_set_self default _ _ _ (show 4 < (s.lane l).stamps.length by omega), StampUnit.capture, hv]
    rfl
  · exact fun leap => exec_muslinTransferReceived _ hp hm rfl
  · intro crcs hc
    refine exec_muslinTransferReceived _ hp hm ?_
    rw [LaneState.transfer, bne_iff_ne.mpr hc]
    rfl

/-! ## WRITE commands (02 R56, R60, R71, R75; 03 R112; 04 R118) -/

/-- The state in which a change has been accepted differs in the lane's ledger and sessions alone. -/
theorem State.accepts_eq {s u : State} {l : Lane} {m : Msg} {object right role : Nat} {change : Option (Bytes × Option Bytes)}
    (h : s.accepts l m object right role change u) : ∃ ses g, u = s.setLane l { s.lane l with ses := ses, ledger := g } := by
  obtain ⟨ses, q, d, v, -, -, -, -, rfl⟩ := h
  cases change with
  | none => exact ⟨_, _, rfl⟩
  | some c => exact ⟨_, _, rfl⟩

end Sys2Proof.Machine

namespace Sys2Proof.Machine

/-! ## The installer's lane commands (02 R56, R60, R71) -/

/-- The lane that follows an active lane. -/
theorem State.follower_of_active {s : State} {k : Lane} (h : s.activeLane = some k.other) : s.follower = some k := by
  rw [State.follower, h, Option.map_some, Lane.other_other]

/-- The byte of the active lane in the old value of a switch. -/
theorem State.activeByte_of_active {s : State} {k : Lane} (h : s.activeLane = some k) : s.activeByte = leBytes 1 k.code := by
  rw [State.activeByte, h]

/-- A lane that fails under a command keeps its ledger and leaves the other lane. -/
theorem State.fail_keeps (s : State) (l : Lane) (cause : Nat) :
    ((s.fail l cause).lane l).ledger = (s.lane l).ledger ∧ (s.fail l cause).lane l.other = s.lane l.other := by
  by_cases h : (s.lane l).life.state = .failed
  · have hf : s.fail l cause = s := if_pos h
    rw [hf]
    exact ⟨rfl, rfl⟩
  · exact ⟨(State.fail_lane h LaneState.ledger).trans (((s.lane l).enterFailed_changes cause).keeps LaneState.ledger), (State.fail_beside h).1⟩

/-- Settles O32: each command is accepted, and its effect runs on the state in which the reply waits. -/
theorem laneCommands : Obligations.LaneCommands := by
  unfold Obligations.LaneCommands
  refine ⟨fun s u l k m ha hr hs hn hu => ?_, fun s u l k m ha hr hs hb hv hu => ?_, fun s u l m hs hu => ?_, fun s u l m hs hi hu => ?_,
    fun s u l k m hp hf hr hu => ?_⟩
  · have hready : (s.refereed && s.laneReady k) = true := by simp [State.laneReady, hr, hs, hn]
    rw [exec, execLaneSwitch, State.follower_of_active ha, State.activeByte_of_active ha]
    exact congrArg Host.Outcome.next (State.command_accepts hu rfl (if_pos hready))
  · have hok : (s.refereed && (s.lane k).life.state == .isolated && (s.lane k).readyButImage &&
        (s.lane k).img.header.vesselId == (s.lane k.other).img.header.vesselId) = true := by simp [hr, hs, hb, hv]
    rw [exec, execLaneAdoptImage, State.follower_of_active ha, State.activeByte_of_active ha]
    exact congrArg Host.Outcome.next (State.command_accepts hu rfl (if_pos hok))
  · have hin : s.laneIn l .standby = some l := if_pos hs
    rw [exec, execLaneIsolate, if_pos rfl, hin]
    refine congrArg Host.Outcome.next (State.command_accepts hu ?_ rfl)
    rw [hs]
    rfl
  · have hin : s.laneIn l .isolated = some l := if_pos hs
    rw [exec, execLaneIsolate, if_neg (by decide), hin]
    refine congrArg Host.Outcome.next (State.command_accepts hu ?_ ?_)
    · rw [hs]
      rfl
    · simp [askInstaller, hi]
  · have hno : ¬((s.lane k).life.powered = false ∨ (s.lane k).powerFail = true ∨
        ((s.lane k).active = true ∧ s.laneReady k.other = false)) := by
      simp only [hp, hf, not_or, not_and]
      exact ⟨nofun, nofun, fun h => by simp [hr h]⟩
    refine ⟨_, congrArg Host.Outcome.next (State.command_accepts hu rfl (if_neg hno)), ?_⟩
    obtain ⟨hlife, him, hle, ho, -, -⟩ := (u.fail k 6).restart_spec k
    obtain ⟨hsl, -, -, -, -⟩ := ((u.fail k 6).lane k).startOver_spec ((u.fail k 6).lane k).power.powerUpNext
    obtain ⟨hkl, hko⟩ := u.fail_keeps k 6
    rw [hsl] at hlife
    rw [State.lane_onLane, State.lane_onLane_other]
    dsimp only
    rw [hlife]
    exact ⟨rfl, rfl, him, hle.trans hkl, rfl, ho.trans hko⟩

end Sys2Proof.Machine

namespace Sys2Proof.Machine

/-! ## Claims, the request for command, acknowledgements (02 R75; 03 R112; 04 R118) -/

/-- The feeds' claims as codes leave everything but the codes. -/
theorem LaneState.claimCodes_keeps (x : LaneState) : x.claimCodes.attic = x.attic ∧ x.claimCodes.ses = x.ses ∧ x.claimCodes.ledger = x.ledger := by
  simp [LaneState.claimCodes]

/-- A mask that leaves both lanes a claimed feed is not refused. -/
theorem claimRefused_eq_none {mask : Nat} (h : mask ≤ 15) (ha : mask % 4 ≠ 0) (hb : mask / 4 ≠ 0) : claimRefused mask = none := by
  rw [claimRefused, if_neg (Nat.not_lt.mpr h), if_neg (not_or.mpr ⟨ha, hb⟩)]

/-- What an accepted partner.take_command does. -/
theorem exec_partnerTakeCommand {s u : State} {l : Lane} {m : Msg} {value : Nat} (hv : value = 1 ∨ value = 2)
    (hc : (s.lane l).inCommand = false) (h : s.accepts l m 0x1031 0x10 1 (some (leBytes 1 0, none)) u) :
    exec (.partnerTakeCommand l m value) s = .next (u.onPartner fun p =>
      if value = 1 then { p with request := true, requestAge := 0 } else { p with forcePending := true }) := by
  refine congrArg Host.Outcome.next (State.command_accepts h ?_ ?_)
  · rw [hc]
    rfl
  · rw [if_neg (not_not.mpr hv), hc]
    rfl

/-- Accepting a command leaves the partner link. -/
theorem State.accepts_partner {s u : State} {l : Lane} {m : Msg} {object right role : Nat} {change : Option (Bytes × Option Bytes)}
    (h : s.accepts l m object right role change u) (k : Lane) : (u.lane k).partner = (s.lane k).partner := by
  obtain ⟨ses, g, rfl⟩ := State.accepts_eq h
  cases l <;> cases k <;> rfl

/-- Settles O37: each command is accepted, and its effect runs on the state in which the reply waits. -/
theorem claimsPartnerAndAcknowledgement : Obligations.ClaimsPartnerAndAcknowledgement := by
  unfold Obligations.ClaimsPartnerAndAcknowledgement
  refine ⟨fun s u l m mask hm ha hb hu => ?_, fun s u l m hc hu => ⟨?_, ?_⟩, fun s u l m c item hc hu => ?_⟩
  · refine ⟨_, congrArg Host.Outcome.next (State.command_accepts hu rfl (claimRefused_eq_none hm ha hb)), ?_⟩
    obtain ⟨ses, g, rfl⟩ := State.accepts_eq hu
    simp only [State.lane_onLane, State.lane_onLane_other, State.lane_setLane, State.lane_setLane_other, (LaneState.claimCodes_keeps _).1,
      (LaneState.claimCodes_keeps _).2.1, (LaneState.claimCodes_keeps _).2.2, and_self]
  · refine ⟨_, exec_partnerTakeCommand (.inl rfl) hc hu, fun k => ?_⟩
    rw [State.onPartner_partner, State.accepts_partner hu]
    rfl
  · refine ⟨_, exec_partnerTakeCommand (.inr rfl) hc hu, fun k => ?_⟩
    rw [State.onPartner_partner, State.accepts_partner hu]
    rfl
  · exact congrArg Host.Outcome.next (State.command_accepts hu rfl (if_pos hc))

/-! ## Control commands out of command (02 R74; 08 R234) -/

/-- A control command out of command is refused with reason 0x08, whether it is logged or not. -/
theorem State.command_askCtrl {s : State} {l : Lane} {m : Msg} {object right reason : Nat} {old v : Bytes} {logged : Bool} {ses : SessionState}
    {q : Session} {d : Datagram} {effect : State → State} (hc : (s.lane l).inCommand = false) (ha : (s.lane l).active = true)
    (hw : (s.lane l).writes m object ses q d v) (hr : q.rights &&& right = right) :
    s.command l m { askCtrl (s.lane l) object right old reason with ledger := logged } effect =
      s.setLane l ((s.lane l).replies ses q d 0x0F 8 object) := by
  have hj : ({ askCtrl (s.lane l) object right old reason with ledger := logged } : Ask).judge (s.lane l).active q.rights = (0x0F, 8) := by
    simp [Ask.judge, askCtrl, hr, ha, hc, stRefused]
  have hcmd := State.command_refused (s := s) (effect := effect) (a := { askCtrl (s.lane l) object right old reason with ledger := logged })
    hw (by rw [hj]; decide)
  rw [hcmd, hj]
  rfl

/-- Settles O39, by the command: those of 08 R262 ask as `askCtrl` does, and no other names such an object but an acknowledgement. -/
theorem controlRefusedOutOfCommand : Obligations.ControlRefusedOutOfCommand := by
  unfold Obligations.ControlRefusedOutOfCommand
  intro s c l m object right logged hk hlo hhi hc ha hno ses q d v hw hr
  cases c
  case alarmAcknowledgement k n code item =>
    simp only [Instr.asks, Option.some.injEq, Prod.mk.injEq] at hk
    obtain ⟨rfl, rfl, -⟩ := hk
    exact absurd rfl (hno code item)
  case ctrlMode | ctrlSetpoint | ctrlGainBank | ctrlJoystick | ctrlFootprint | ctrlBiasRelease | ctrlTrackPoint | ctrlTrackCommit | ctrlTargetOffset =>
    simp only [Instr.asks, Option.some.injEq, Prod.mk.injEq] at hk
    obtain ⟨rfl, rfl, rfl, rfl, -, rfl⟩ := hk
    exact congrArg Host.Outcome.next (State.command_askCtrl hc ha hw hr)
  case laneSwitch | laneIsolate | laneAdoptImage | laneRestart | partnerTakeCommand | cellarWriteOpen | cellarWriteChunk | cellarWriteClose |
      cellarWriteAbort | cellarSelect | keyStoreAdd | keyStoreRemove | powerClaim | refsSelect | refsAccept | refsAnchor | allocExclude |
      loopReset | fbArm | fbClear | anChannel | anCoeffLoad | anOutSet | timePulse | canvasRestart =>
    simp only [Instr.asks, Option.some.injEq, Prod.mk.injEq] at hk
    omega
  all_goals simp only [Instr.asks, reduceCtorEq] at hk

end Sys2Proof.Machine

namespace Sys2Proof.Machine

/-! ## The buffers of a bus (12 R358 to R363) -/

namespace Bus

variable (b : Bus)

/-- With nothing listed there is nothing to load. -/
theorem refill_of_nil (h : b.list = []) : b.refill = b := by simp [refill, h]

/-- One command buffer is loaded from the list where it is free (12 R358). -/
def loadNext (b : Bus) (k : Nat) : Bus :=
  match b.list with
  | i :: rest => if (nth default b.bufs k).free then { b with bufs := modNth b.bufs k (·.load i), list := rest } else b
  | [] => b

theorem refill_eq_loadNext : b.refill = (b.loadNext 1).loadNext 2 := rfl

theorem loadNext_eq (k : Nat) : ∃ bufs list, b.loadNext k = { b with bufs := bufs, list := list } := by
  unfold loadNext
  split
  · split <;> exact ⟨_, _, rfl⟩
  · exact ⟨_, _, rfl⟩

/-- Loading the buffers from the list changes buffers and list alone. -/
theorem refill_eq : ∃ bufs list, b.refill = { b with bufs := bufs, list := list } := by
  obtain ⟨bufs, list, h⟩ := b.loadNext_eq 1
  obtain ⟨bufs', list', h'⟩ := (b.loadNext 1).loadNext_eq 2
  exact ⟨bufs', list', by rw [refill_eq_loadNext, h', h]⟩

/-- The codes of a bus tell whether it is off and whether nobody acknowledges. -/
theorem codes_leaves (n : Nat) (h : Bool) :
    (b.codes n).foldl (fun a op => op.leaves a ⟨.db, 3⟩ n) h = b.busOff ∧
    (b.codes n).foldl (fun a op => op.leaves a ⟨.db, 7⟩ n) h = decide (16 ≤ b.ackRun) := by
  have hw : ∀ (a on : Bool) (c d : Code), (AlarmOp.whileOn on d n 0).leaves a c n = if d = c then on else a := fun a on c d => by
    cases on <;> by_cases hd : d = c <;> simp [AlarmOp.whileOn, AlarmOp.leaves, hd]
  simp [codes, hw]

/-- A frame whose cancel came late leaves its buffer at an error (12 R363). -/
def cancelLate (sof : Nat) (b : Bus) : Bus :=
  match b.offered sof with
  | some k =>
    let x := nth default b.bufs k
    if x.late then
      ({ b with bufs := b.bufs.set k (x.settle 6), superseded := if x.next.isSome then satInc 16 b.superseded else b.superseded } : Bus).refill
    else b
  | none => b

/-- The late cancel changes no counter but that of the superseded frames. -/
theorem cancelLate_eq (sof : Nat) : ∃ bufs list sup, b.cancelLate sof = { b with bufs := bufs, list := list, superseded := sup } := by
  unfold cancelLate
  split
  · dsimp only
    split
    · obtain ⟨bufs, list, h⟩ := refill_eq { b with
        bufs := b.bufs.set _ ((nth default b.bufs _).settle 6),
        superseded := if (nth default b.bufs _).next.isSome then satInc 16 b.superseded else b.superseded }
      exact ⟨bufs, list, _, h⟩
    · exact ⟨_, _, _, rfl⟩
  · exact ⟨_, _, _, rfl⟩

/-- What the counters say after an error (12 R361, R362). -/
def judgeErrors (b : Bus) : Bus :=
  let c := if decide (255 < b.tec) then { b with busOff := true, busOffs := satInc 16 b.busOffs, wasOff := true } else b
  { c with degraded := c.degraded || c.passive || decide (16 ≤ c.ackRun) }

theorem judgeErrors_spec : b.judgeErrors.arbLost = b.arbLost ∧ b.judgeErrors.errors = b.errors ∧ b.judgeErrors.bufs = b.bufs ∧
    b.judgeErrors.tec = b.tec ∧ b.judgeErrors.ackRun = b.ackRun ∧ b.judgeErrors.busOff = (b.busOff || decide (255 < b.tec)) := by
  unfold judgeErrors
  by_cases h : 255 < b.tec
  · rw [decide_eq_true h, if_pos rfl]
    exact ⟨rfl, rfl, rfl, rfl, rfl, (Bool.or_true _).symm⟩
  · rw [decide_eq_false h, if_neg nofun]
    exact ⟨rfl, rfl, rfl, rfl, rfl, (Bool.or_false _).symm⟩

/-- The bus on which a transmission met an error, before its counters are judged. -/
def noteError (sof : Nat) (b : Bus) : CanError → Bus
  | .arbitration => { b with arbLost := satInc 16 b.arbLost }
  | .acknowledge => cancelLate sof { b with errors := satInc 16 b.errors, ackRun := min 31 (b.ackRun + 1), tec := if b.passive then b.tec else b.tec + 8 }
  | .transmit => cancelLate sof { b with errors := satInc 16 b.errors, tec := b.tec + 8 }
  | .receive big => { b with errors := satInc 16 b.errors, rec_ := min 255 (b.rec_ + if big then 8 else 1) }

variable {b}

/-- An error on a bus that is on and free to transmit. -/
theorem error_eq {n sof : Nat} (e : CanError) (ho : b.busOff = false) (hi : b.inhibited = false) :
    b.error n sof e = ((b.noteError sof e).judgeErrors, (b.noteError sof e).judgeErrors.codes n) := by
  refine (if_neg (by simp [ho, hi])).trans ?_
  cases e <;> rfl

/-- The completion of the frame of a buffer, with nothing listed behind it. -/
theorem complete_eq {n sof ns k : Nat} (ho : b.busOff = false) (hi : b.inhibited = false) (hk : b.offered sof = some k) (hl : b.list = [])
    (hn : (nth default b.bufs k).next = none) :
    ∃ c, (∃ key, b.complete n sof ns = (c, c.codes n ++ (if key = laneMarkKey then [] else [.clear ⟨.db, 10⟩ n])) ∧
        ∀ i, (nth default b.bufs k).item = some i → key = i.key) ∧
      c.txOk = (b.txOk + 1) % 2 ^ 32 ∧ c.tec = b.tec - 1 ∧
      c.bufs = b.bufs.set k { nth default b.bufs k with state := if (nth default b.bufs k).late then 4 else 3, item := none, late := false, time := ns } := by
  rw [complete, if_neg (by simp [ho, hi]), hk]
  refine ⟨_, ⟨_, rfl, fun i h => by rw [h]⟩, ?_⟩
  rw [refill_of_nil]
  · refine ⟨rfl, rfl, ?_⟩
    simp only [TxBuf.settle, hn]
  · exact hl

/-- The recovery of a bus that is off. -/
theorem recover_spec {n : Nat} (h : b.busOff = true) :
    (b.recover n).2 = (b.recover n).1.codes n ∧ (b.recover n).1.busOff = false ∧ (b.recover n).1.tec = 0 ∧ (b.recover n).1.rec_ = 0 ∧
    (b.recover n).1.bufs.length = b.bufs.length := by
  rw [recover, if_pos h]
  exact ⟨rfl, rfl, rfl, rfl, List.length_map _⟩

/-- A request on a bus free to transmit marks a loaded buffer pending. -/
theorem request_eq {k since : Nat} (hi : b.inhibited = false) (hk : k < b.bufs.length) (hs : (nth default b.bufs k).item.isSome = true) :
    b.request k since = { b with bufs := b.bufs.set k { nth default b.bufs k with state := 1, since := since } } := by
  rw [request, hi, if_neg nofun, modNth_eq_set default _ _ _ hk, if_pos hs]

/-- A cancel acts on a pending buffer. -/
theorem cancels {k : Nat} (hs : (nth default b.bufs k).item.isSome = true)
    (hp : (nth default b.bufs k).state = 1 ∨ (nth default b.bufs k).state = 2) :
    ¬((nth default b.bufs k).item.isNone = true ∨ ((nth default b.bufs k).state ≠ 1 ∧ (nth default b.bufs k).state ≠ 2)) := by
  rintro (h | ⟨h1, h2⟩)
  · rw [Option.isNone_iff_eq_none.mp h] at hs
    cases hs
  · exact hp.elim h1 h2

/-- A cancel after the sample point lets the frame end. -/
theorem cancel_after_eq {k : Nat} (hs : (nth default b.bufs k).item.isSome = true)
    (hp : (nth default b.bufs k).state = 1 ∨ (nth default b.bufs k).state = 2) :
    b.cancel k .after = { b with bufs := b.bufs.set k { nth default b.bufs k with late := true, state := 2 } } :=
  if_neg (cancels hs hp)

/-- A cancel before the sample point, with nothing to send after it, empties the buffer. -/
theorem cancel_before_eq {k : Nat} (hs : (nth default b.bufs k).item.isSome = true)
    (hp : (nth default b.bufs k).state = 1 ∨ (nth default b.bufs k).state = 2) (hl : b.list = []) (hn : (nth default b.bufs k).next = none) :
    b.cancel k .before = { b with bufs := b.bufs.set k { nth default b.bufs k with state := 5, item := none, late := false } } := by
  refine (if_neg (cancels hs hp)).trans ?_
  dsimp only
  rw [refill_of_nil]
  · simp only [TxBuf.settle, hn, Option.isSome_none]
    rfl
  · exact hl

end Bus

/-! ## The events of a bus -/

namespace State

variable {s : State} {l : Lane} {n : Nat} {f : Bus → Bus × List AlarmOp}

/-- The event of one bus, as the lane with that bus replaced and its codes. -/
theorem onBus_congr {g : LaneState → LaneState} {c : Bus} {ops : List AlarmOp} (h : f ((s.lane l).bus n) = (c, ops))
    (hg : ((s.lane l).setBus n c).codes ops = g (s.lane l)) : s.onBus l n f = s.onLane l g := by
  have hb : s.onBus l n f = s.onLane l fun x => (x.setBus n (f (x.bus n)).1).codes (f (x.bus n)).2 := rfl
  exact hb.trans (onLane_congr (by simpa only [h] using hg))

theorem onBus_bus (hn : n < (s.lane l).can.buses.length) : ((s.onBus l n f).lane l).bus n = (f ((s.lane l).bus n)).1 := by
  rw [onBus, lane_onLane, LaneState.bus, LaneState.withCan, LaneState.codes_can]
  exact nth_set_self _ _ _ _ hn

theorem onBus_bus_ne {m : Nat} (h : m ≠ n) : ((s.onBus l n f).lane l).bus m = (s.lane l).bus m := by
  rw [onBus, lane_onLane, LaneState.bus, LaneState.withCan, LaneState.codes_can]
  exact nth_set_ne _ _ _ _ _ h.symm

theorem onBus_hasAlarm (c : Code) (i : Nat) (hc : ¬tableFull c i) : hasAlarm ((s.onBus l n f).lane l).alarms c i =
    (f ((s.lane l).bus n)).2.foldl (fun b op => op.leaves b c i) (hasAlarm (s.lane l).alarms c i) := by
  rw [onBus, lane_onLane]
  exact LaneState.hasAlarm_codes _ _ _ _ hc

end State

/-- A completed frame frees its buffer. -/
theorem exec_canFrameComplete_spec {s : State} {l : Lane} {n sof ns k : Nat} (hlen : n < (s.lane l).can.buses.length)
    (ho : ((s.lane l).bus n).busOff = false) (hi : ((s.lane l).bus n).inhibited = false) (hof : ((s.lane l).bus n).offered sof = some k)
    (hk : k < ((s.lane l).bus n).bufs.length) (hl : ((s.lane l).bus n).list = []) (hx : (nth default ((s.lane l).bus n).bufs k).next = none) :
    ∃ t, exec (.canFrameComplete l n sof ns) s = .next t ∧ ((t.lane l).bus n).txOk = (((s.lane l).bus n).txOk + 1) % 2 ^ 32 ∧
      ((t.lane l).bus n).tec = ((s.lane l).bus n).tec - 1 ∧
      (nth default ((t.lane l).bus n).bufs k).item = none ∧ (nth default ((t.lane l).bus n).bufs k).time = ns ∧
      (nth default ((t.lane l).bus n).bufs k).state = (if (nth default ((s.lane l).bus n).bufs k).late then 4 else 3) ∧
      (∀ m, m ≠ n → (t.lane l).bus m = (s.lane l).bus m) ∧
      (∀ i, (nth default ((s.lane l).bus n).bufs k).item = some i → i.key ≠ laneMarkKey → hasAlarm (t.lane l).alarms ⟨.db, 10⟩ n = false) := by
  obtain ⟨c, ⟨key, hc, hkey⟩, hok, htec, hbufs⟩ := Bus.complete_eq (n := n) (ns := ns) ho hi hof hl hx
  refine ⟨_, rfl, ?_⟩
  rw [State.onBus_bus hlen, hc, hbufs, nth_set_self _ _ _ _ hk]
  refine ⟨hok, htec, rfl, rfl, rfl, fun m hm => State.onBus_bus_ne hm, fun i h hne => ?_⟩
  rw [State.onBus_hasAlarm _ _ (by simp [tableFull]), hc, if_neg (by rwa [hkey i h]), List.foldl_append]
  simp [AlarmOp.leaves]

/-- Errors move the counters of the bus, and DB-003 and DB-007 follow them. -/
theorem exec_canTxError_spec {s : State} {l : Lane} {n sof : Nat} (hlen : n < (s.lane l).can.buses.length)
    (ho : ((s.lane l).bus n).busOff = false) (hi : ((s.lane l).bus n).inhibited = false) :
    (∃ t, exec (.canTxError l n sof .arbitration) s = .next t ∧ ((t.lane l).bus n).arbLost = satInc 16 ((s.lane l).bus n).arbLost ∧
      ((t.lane l).bus n).errors = ((s.lane l).bus n).errors ∧ ((t.lane l).bus n).bufs = ((s.lane l).bus n).bufs) ∧
    (∃ t, exec (.canTxError l n sof .transmit) s = .next t ∧ ((t.lane l).bus n).errors = satInc 16 ((s.lane l).bus n).errors ∧
      ((t.lane l).bus n).tec = ((s.lane l).bus n).tec + 8 ∧ ((t.lane l).bus n).busOff = decide (255 < ((s.lane l).bus n).tec + 8) ∧
      hasAlarm (t.lane l).alarms ⟨.db, 3⟩ n = decide (255 < ((s.lane l).bus n).tec + 8)) ∧
    (∃ t, exec (.canTxError l n sof .acknowledge) s = .next t ∧ ((t.lane l).bus n).ackRun = min 31 (((s.lane l).bus n).ackRun + 1) ∧
      hasAlarm (t.lane l).alarms ⟨.db, 7⟩ n = decide (16 ≤ min 31 (((s.lane l).bus n).ackRun + 1))) := by
  refine ⟨⟨_, rfl, ?_⟩, ⟨_, rfl, ?_⟩, ⟨_, rfl, ?_⟩⟩
  · rw [State.onBus_bus hlen, Bus.error_eq _ ho hi]
    obtain ⟨harb, herr, hbuf, -⟩ := (((s.lane l).bus n).noteError sof .arbitration).judgeErrors_spec
    exact ⟨harb, herr, hbuf⟩
  · rw [State.onBus_bus hlen, State.onBus_hasAlarm _ _ (by simp [tableFull]), Bus.error_eq _ ho hi, (Bus.codes_leaves _ n _).1]
    obtain ⟨-, herr, -, htec, -, hoff⟩ := (((s.lane l).bus n).noteError sof .transmit).judgeErrors_spec
    obtain ⟨bufs, list, sup, hlate⟩ := Bus.cancelLate_eq { (s.lane l).bus n with
      errors := satInc 16 ((s.lane l).bus n).errors, tec := ((s.lane l).bus n).tec + 8 } sof
    rw [Bus.noteError, hlate] at herr htec hoff ⊢
    dsimp only at herr htec hoff ⊢
    have hoff' := hoff.trans ((congrArg (· || _) ho).trans (Bool.false_or _))
    exact ⟨herr, htec, hoff', hoff'⟩
  · rw [State.onBus_bus hlen, State.onBus_hasAlarm _ _ (by simp [tableFull]), Bus.error_eq _ ho hi, (Bus.codes_leaves _ n _).2]
    obtain ⟨-, -, -, -, hack, -⟩ := (((s.lane l).bus n).noteError sof .acknowledge).judgeErrors_spec
    obtain ⟨bufs, list, sup, hlate⟩ := Bus.cancelLate_eq { (s.lane l).bus n with
      errors := satInc 16 ((s.lane l).bus n).errors, ackRun := min 31 (((s.lane l).bus n).ackRun + 1),
      tec := if ((s.lane l).bus n).passive then ((s.lane l).bus n).tec else ((s.lane l).bus n).tec + 8 } sof
    rw [Bus.noteError, hlate] at hack ⊢
    dsimp only at hack ⊢
    rw [hack]
    exact ⟨rfl, rfl⟩

/-- Settles O49: each event is an equation of its bus, and the lane changes in that bus and its codes. -/
theorem driveBusTransmits : Obligations.DriveBusTransmits := by
  unfold Obligations.DriveBusTransmits
  refine ⟨fun s l n hlen => ⟨?_, ?_, ?_, ?_, ?_, ?_, ?_⟩, fun s l hi => ?_, fun s l hi => ?_⟩
  · exact fun k since hi hk hs => congrArg Host.Outcome.next (State.onBus_congr (congrArg (·, []) (Bus.request_eq hi hk hs)) rfl)
  · refine fun k hk hs hp => ⟨?_, fun hl hn => ?_⟩
    · exact congrArg Host.Outcome.next (State.onBus_congr (congrArg (·, []) (Bus.cancel_after_eq hs hp)) rfl)
    · exact congrArg Host.Outcome.next (State.onBus_congr (congrArg (·, []) (Bus.cancel_before_eq hs hp hl hn)) rfl)
  · exact fun sof ns k ho hi hof hk hl hx => exec_canFrameComplete_spec hlen ho hi hof hk hl hx
  · exact fun sof ho hi => exec_canTxError_spec hlen ho hi
  · intro ho
    obtain ⟨hops, hoff, htec, hrec, hbufs⟩ := Bus.recover_spec (n := n) ho
    refine ⟨_, rfl, ?_⟩
    rw [State.onBus_bus hlen, State.onBus_hasAlarm _ _ (by simp [tableFull]), hops, (Bus.codes_leaves _ n _).1]
    exact ⟨hoff, htec, hrec, hbufs, hoff⟩
  · rintro key ⟨e, he, hkey, hage⟩
    have hany : (((s.lane l).bus n).stagings.any fun e => e.1 == key && decide (e.2 + 2 ≤ (s.lane l).frame.number)) = true :=
      List.any_eq_true.mpr ⟨e, he, by simp [hkey, hage]⟩
    exact congrArg Host.Outcome.next (State.onBus_congr (if_pos hany) rfl)
  · exact congrArg Host.Outcome.next (State.onBus_congr (c := { (s.lane l).bus n with fifo := ((s.lane l).bus n).fifo.tail }) (ops := [])
      (by rw [Bus.pop, List.drop_one]) rfl)
  · refine ⟨_, congrArg Host.Outcome.next (if_pos hi), State.lane_onLane_other _ _ _, State.onLane_baize _ _ _, fun b hb => ?_⟩
    rw [State.lane_onLane] at hb
    obtain ⟨c, -, rfl⟩ := List.mem_map.mp hb
    refine ⟨rfl, rfl, fun x hx => ?_⟩
    obtain ⟨y, -, rfl⟩ := List.mem_map.mp hx
    split
    · rfl
    · exact Option.not_isSome_iff_eq_none.mp ‹_›
  · exact congrArg Host.Outcome.next (if_neg (by rw [hi]; nofun))

end Sys2Proof.Machine

namespace Sys2Proof.Machine

/-!
SUPPORT and settled obligations: the power-up of a lane (O11) and the seed of its module time (O12).
-/

/-! ## Power-up (04 R120, R126) -/

namespace LaneState

variable (x : LaneState)

/-- Every start finds the rails in regulation and the supply's notes of the last run gone; sessions lie in DRAM, and none outlasts
a start. -/
theorem startOver_supply (powerUp : Bool) :
    (x.startOver powerUp).power =
      { x.power with powerUpNext := false, onHoldup := false, writeProtected := false, regulated := true } ∧
    (x.startOver powerUp).ses.sessions = [] := by
  unfold startOver
  dsimp only
  split
  · split <;> simp only [claimCodes, raise_power, raise_ses, codes_power, codes_ses, true_and] <;> rfl
  · simp only [claimCodes, codes_power, codes_ses, true_and]
    rfl

/-- The lane as its power-up leaves it: a start, one more power cycle, the losses of feeds counted anew, the operating time as the
Attic has it. -/
def poweredUp : LaneState :=
  let y := x.startOver true
  { y with attic := { y.attic with powerCycles := (y.attic.powerCycles + 1) % 2 ^ 32 },
           power := { y.power with losses := 0, opHours := y.attic.opHours, opFrac := y.attic.opFrac } }

theorem poweredUp_spec :
    x.poweredUp.life.powered = true ∧ x.poweredUp.life.state = .starting ∧ x.poweredUp.life.phase = .boot ∧
    x.poweredUp.power.regulated = true ∧ x.poweredUp.power.losses = 0 ∧ x.poweredUp.power.opHours = x.attic.opHours ∧
    x.poweredUp.attic.powerCycles = (x.attic.powerCycles + 1) % 2 ^ 32 ∧ x.poweredUp.image = none ∧
    x.poweredUp.ses.sessions = [] ∧ x.poweredUp.ledger = x.ledger ∧ x.poweredUp.cal = x.cal := by
  obtain ⟨hlife, himage, hledger, hattic, hcal⟩ := x.startOver_spec true
  obtain ⟨hpower, hses⟩ := x.startOver_supply true
  unfold poweredUp
  dsimp only
  rw [hlife, hpower, hattic]
  exact ⟨rfl, rfl, rfl, rfl, rfl, rfl, rfl, himage, hses, hledger, hcal⟩

end LaneState

/-- Lane `l` powered up: a start of either lane ends the suspension of revert (02 R62). -/
def State.poweredUp (s : State) (l : Lane) : State :=
  (s.setLane l (s.lane l).poweredUp).onBaize fun b => { b with suspended := false }

theorem State.poweredUp_spec (s : State) (l : Lane) :
    (s.poweredUp l).lane l = (s.lane l).poweredUp ∧ (s.poweredUp l).lane l.other = s.lane l.other ∧
    (s.poweredUp l).baize = { s.baize with suspended := false } ∧ (s.poweredUp l).analogOut = s.analogOut ∧
    (s.poweredUp l).discreteOut = s.discreteOut := by
  cases l <;> exact ⟨rfl, rfl, rfl, rfl, rfl⟩

/-- The analog and discrete outputs at their power-up values (14 R424). -/
def State.outputsUp (s : State) : State :=
  { s with analogOut := List.replicate 16 OutWord.powerUp, discreteOut := List.replicate 8 false }

theorem State.lane_outputsUp (s : State) (l : Lane) : s.outputsUp.lane l = s.lane l := by cases l <;> rfl

theorem exec_lanePowerUp {s : State} {l : Lane} {feed : Nat} (hp : (s.lane l).life.powered = false)
    (hg : ((s.lane l).power.feed feed).good = true) :
    exec (.lanePowerUp l feed) s =
      .next (if (s.lane l.other).power.regulated then s.poweredUp l else (s.poweredUp l).outputsUp) :=
  congrArg Host.Outcome.next (if_pos (by rw [hp, hg]; rfl))

/-- Settles O11, by whether the other lane drives the outputs; that a start of either lane ends the suspension of revert is the model's
reading of 02 R62. -/
theorem lanePowersUp : Obligations.LanePowersUp := by
  unfold Obligations.LanePowersUp
  intro s l feed hp hg
  have he := exec_lanePowerUp hp hg
  obtain ⟨hl, ho, hb, han, hdi⟩ := s.poweredUp_spec l
  obtain ⟨hpw, hst, hph, hreg, hlo, hop, hpc, him, hse, hle, hca⟩ := (s.lane l).poweredUp_spec
  rw [← hl] at hpw hst hph hreg hlo hop hpc him hse hle hca
  cases hr : (s.lane l.other).power.regulated with
  | true =>
    rw [hr, if_pos rfl] at he
    exact ⟨_, he, hpw, hst, hph, hreg, hlo, hop, hpc, him, hse, hle, hca, ho, hb, nofun, fun _ => ⟨han, hdi⟩⟩
  | false =>
    rw [hr, if_neg Bool.false_ne_true] at he
    refine ⟨_, he, ?_⟩
    simp only [State.lane_outputsUp]
    exact ⟨hpw, hst, hph, hreg, hlo, hop, hpc, him, hse, hle, hca, ho, hb, fun _ => ⟨rfl, rfl⟩, nofun⟩

/-! ## Module time at boot complete (04 R131, R132) -/

theorem clampI_of_mem {lo hi v : Int} (hl : lo ≤ v) (hh : v ≤ hi) : clampI lo hi v = v := by
  rw [clampI, if_neg (Int.not_lt.mpr hl), if_neg (Int.not_lt.mpr hh)]

/-- A time counter set to a whole second. -/
theorem ClockState.at_second (c : ClockState) (n : Nat) : (c.at (n * 1000000000)).s = n % 2 ^ 48 ∧ (c.at (n * 1000000000)).ns = 0 :=
  ⟨congrArg (· % 2 ^ 48) (Nat.mul_div_cancel n (by decide)), Nat.mul_mod_left n _⟩

/-- The next edge of a calendar second, `n` ticks on: the ticks in whole seconds, rounded up. -/
theorem Calendar.edge_advance (c : Calendar) (n : Nat) : (c.advance n).edge = (c.ticks + n + 32767) / 32768 := by
  unfold edge advance ticks
  dsimp only
  split_ifs <;> omega

/-- The sources of 04 R132 in the order in which they serve. -/
theorem State.seed_eq (s : State) (l : Lane) (err : Int) :
    s.seed l err =
      if (s.lane l.other).frame.ticked = true ∧ ((s.lane l).muslin.serial0 || (s.lane l).muslin.serial1) = true ∧
          1 < (s.lane l.other).src.quality.code then
        .other (((s.lane l.other).nowNs : Int) + clampI (-1000) 1000 err).toNat (s.lane l.other).src.quality
          (((s.lane l.other).src.error (s.lane l.other).cal.sinceSet).getD 0 + 1000)
      else if (s.lane l).cal.valid = true then .own
      else if s.baize.powered = true ∧ s.baize.cal.valid = true then .baize
      else .image (s.creationTime l) := by
  simp only [seed, Bool.and_eq_true, decide_eq_true_eq, and_assoc]

namespace LaneState

variable (x : LaneState) (b : Calendar)

theorem seeded_life (q : Seed) : (x.seeded b q).life = x.life := by
  cases q with
  | other ns q e => exact codes_life _ _
  | own => rfl
  | baize => rfl
  | image t => exact raise_life _ _ _ _

/-! What each source gives time and quality (04 R132, R133). -/

theorem seeded_other (ns : Nat) (q : Quality) (e : Nat) :
    (x.seeded b (.other ns q e)).src.quality = q ∧ (x.seeded b (.other ns q e)).src.source = .other ∧
    (x.seeded b (.other ns q e)).clock = x.clock.at ns := by
  simp [seeded]

theorem seeded_own : (x.seeded b .own).src.quality = .calendar ∧ (x.seeded b .own).src.source = .calendar ∧
    (x.seeded b .own).clock.ns = 0 ∧ (x.seeded b .own).clock.s = x.cal.edge % 2 ^ 48 := by
  obtain ⟨hs, hn⟩ := x.clock.at_second x.cal.edge
  exact ⟨rfl, rfl, hn, hs⟩

theorem seeded_baize : (x.seeded b .baize).src.quality = .calendar ∧ (x.seeded b .baize).src.source = .calendar ∧
    (x.seeded b .baize).clock.ns = 0 ∧ (x.seeded b .baize).clock.s = b.edge % 2 ^ 48 ∧
    (x.seeded b .baize).cal.sinceSet = b.sinceSet := by
  obtain ⟨hs, hn⟩ := x.clock.at_second b.edge
  exact ⟨rfl, rfl, hn, hs, rfl⟩

theorem seeded_image (t : Nat) : (x.seeded b (.image t)).src.quality = .unset ∧ (x.seeded b (.image t)).src.source = .image ∧
    (x.seeded b (.image t)).clock.s = t % 2 ^ 48 ∧ (x.seeded b (.image t)).clock.ns = 0 ∧
    hasAlarm (x.seeded b (.image t)).alarms ⟨.tm, 13⟩ 0 = true := by
  obtain ⟨hs, hn⟩ := x.clock.at_second t
  simp only [seeded, raise_src, raise_clock, hasAlarm_raise_self]
  exact ⟨trivial, trivial, hs, hn, trivial⟩

/-- The lane after boot complete: its calendar clock `n` ticks on, its time from source `q`, its key to be read next. -/
def booted (n : Nat) (q : Seed) : LaneState :=
  let y := ({ x with cal := x.cal.runOn n } : LaneState).seeded b q
  { y with life := { y.life with phase := .key }, attic := { y.attic with bootCause := 0 } }

end LaneState

theorem exec_bootComplete {s : State} {l : Lane} (err : Int) (hp : (s.lane l).life.powered = true)
    (hs : (s.lane l).life.state = .starting) (hph : (s.lane l).life.phase = .boot) :
    exec (.bootComplete l err) s =
      .next (s.tick.setLane l ((s.lane l).booted s.baize.cal (Config.freshNat s.fresh) (s.seed l err))) :=
  congrArg Host.Outcome.next (if_pos ⟨hp, hs, hph⟩)

/-- Settles O12, source by source in the order in which they serve; that the heartbeats of the other
lane are present is read as its ticking, and where no header can be read the creation time is 0 (log entry 54). -/
theorem bootSeedsTime : Obligations.BootSeedsTime := by
  unfold Obligations.BootSeedsTime
  intro s l err hp hs hph
  have hseed := s.seed_eq l err
  have hother : s.tick.lane l.other = s.lane l.other := s.lane_tick l.other
  refine ⟨_, exec_bootComplete err hp hs hph, ?_⟩
  rw [State.lane_setLane, State.lane_setLane_other, State.setLane_baize]
  refine ⟨rfl, (congrArg LifeState.state (LaneState.seeded_life _ _ _)).trans hs, rfl, hother, rfl, ?_⟩
  dsimp only [LaneState.booted]
  rw [← Calendar.edge]
  generalize hx : ({ s.lane l with cal := (s.lane l).cal.runOn (Config.freshNat s.fresh) } : LaneState) = x
  split_ifs at hseed ⊢ with hlane hown hbaize <;> rw [hseed]
  · obtain ⟨hq, hsrc, hc⟩ := x.seeded_other s.baize.cal (((s.lane l.other).nowNs : Int) + clampI (-1000) 1000 err).toNat
      (s.lane l.other).src.quality (((s.lane l.other).src.error (s.lane l.other).cal.sinceSet).getD 0 + 1000)
    refine ⟨hq, hsrc, fun hlow hhigh => ?_⟩
    rw [hc, clampI_of_mem hlow hhigh]
    exact ⟨rfl, rfl⟩
  · obtain ⟨hq, hsrc, hn, hsec⟩ := x.seeded_own s.baize.cal
    have hcal : x.cal.edge = ((s.lane l).cal.ticks + Config.freshNat s.fresh + 32767) / 32768 := by
      rw [← hx, ← Calendar.edge_advance]
      exact congrArg Calendar.edge (if_pos hown)
    exact ⟨hq, hsrc, hn, hcal ▸ hsec⟩
  · exact x.seeded_baize s.baize.cal
  · exact x.seeded_image s.baize.cal (s.creationTime l)

end Sys2Proof.Machine

namespace Sys2Proof.Machine

/-!
SUPPORT and settled obligation: events of the GNSS receiver of a lane (O43).
-/

/-! ## The receiver of a lane (05) -/

namespace GnssState

variable (g : GnssState) (k : Nat)

@[simp] theorem ant_setAnt (a : AntennaState) : (g.setAnt k a).ant k = a := by
  by_cases h : k = 0 <;> simp [ant, setAnt, h]

@[simp] theorem setAnt_ant : g.setAnt k (g.ant k) = g := by
  by_cases h : k = 0 <;> simp [ant, setAnt, h]

@[simp] theorem ant_onAnt (f : AntennaState → AntennaState) : (g.onAnt k f).ant k = f (g.ant k) := ant_setAnt g k _

/-- A change that leaves an antenna leaves the receiver. -/
theorem onAnt_id {f : AntennaState → AntennaState} (h : f (g.ant k) = g.ant k) : g.onAnt k f = g := by
  rw [onAnt, h, setAnt_ant]

end GnssState

@[simp] theorem LaneState.withGnss_gnss (x : LaneState) (r : GnssState × List AlarmOp) : (x.withGnss r).gnss = r.1 := codes_gnss _ _

theorem LaneState.hasAlarm_withGnss_raise (x : LaneState) (g : GnssState) (c : Code) (i k : Nat) :
    hasAlarm (x.withGnss (g, [.raise c i k])).alarms c i = true := hasAlarm_raise_self { x with gnss := g } c i k

theorem AlarmOp.ifOn_of {on : Bool} (h : on = true) (c : Code) (i k : Nat) : AlarmOp.ifOn on c i k = [.raise c i k] := if_pos h

section
variable {s : State} {l : Lane}

/-- Past its key check, the receiver changes as a function of the lane says that agrees with its step. -/
theorem State.onGnss_eq {f : LaneState → GnssState → GnssState × List AlarmOp} {g : LaneState → LaneState} (hi : (s.lane l).intake = true)
    (h : (s.lane l).withGnss (f (s.lane l) (s.lane l).gnss) = g (s.lane l)) : s.onGnss l f = s.onLane l g :=
  State.onLane_congr ((if_pos hi).trans h)

/-- The lane whose receiver has changed. -/
theorem State.lane_onGnss (f : LaneState → GnssState → GnssState × List AlarmOp) (hi : (s.lane l).intake = true) :
    (s.onGnss l f).lane l = (s.lane l).withGnss (f (s.lane l) (s.lane l).gnss) := by
  rw [State.onGnss, State.lane_onLane, if_pos hi]

/-- A step that leaves the receiver and its codes leaves the block. -/
theorem State.onGnss_id {f : LaneState → GnssState → GnssState × List AlarmOp} (h : f (s.lane l) (s.lane l).gnss = ((s.lane l).gnss, [])) :
    s.onGnss l f = s :=
  State.onLane_id (by rw [h]; exact ite_self _)

/-! ### Dumps (05 R142, R143) -/

theorem AntennaState.nth_dump (a : AntennaState) (obs : List DumpObs) {n : Nat} {o : DumpObs} (hn : n < a.slots.length)
    (ho : obs.find? (fun o => o.slot == n) = some o) : nth default (a.dump obs).slots n = (nth default a.slots n).dump o := by
  simp [AntennaState.dump, nth, hn, ho]

theorem GnssSlot.dump_idle {u : GnssSlot} (o : DumpObs) (h : u.state = 0) : u.dump o = u := if_pos h

/-- A slot in use keeps its signal and moves by the locks of its dump. -/
theorem GnssSlot.dump_spec {u : GnssSlot} (o : DumpObs) (h : u.state ≠ 0) :
    (u.dump o).signal = u.signal ∧ (u.dump o).svid = u.svid ∧ (u.dump o).cn0 = o.cn0 ∧
    (u.dump o).state = (if o.codeLock && o.carrierLock then (if o.timeKnown then 3 else 2) else 1) ∧
    (u.dump o).lockMs = if o.carrierLock && !o.slip then u.lockMs + 1 else 0 := by
  rw [GnssSlot.dump, if_neg h]
  exact ⟨rfl, rfl, rfl, rfl, rfl⟩

theorem exec_gnssDump_spec (k : Nat) (hi : (s.lane l).intake = true) (obs : List DumpObs) :
    ∃ t, exec (.gnssDump l k obs) s = .next t ∧ t.lane l.other = s.lane l.other ∧
      ((t.lane l).gnss.ant k) = ((s.lane l).gnss.ant k).dump obs :=
  ⟨_, rfl, State.lane_onLane_other _ _ _, by rw [State.lane_onGnss _ hi, LaneState.withGnss_gnss, GnssState.ant_onAnt]⟩

/-! ### Search hits (05 R145, R151) -/

/-- A hit that waits for no re-admission goes to the first idle slot. -/
theorem AntennaState.hit_idle {g : GnssRec} {a : AntennaState} {signal svid cn0 i : Nat} {elevation glo : Int}
    (hf : a.slots.findIdx? (fun t => t.state == 0) = some i)
    (hw : ∀ x ∈ a.leftOut, x.signal = signal → x.svid = svid → x.waiting = false) :
    (a.hit g signal svid cn0 elevation glo).slots = a.slots.set i (GnssSlot.fresh signal svid cn0 elevation glo) := by
  unfold AntennaState.hit
  dsimp only
  rw [hf]
  cases hb : a.leftOut.find? (fun x => x.signal == signal && x.svid == svid) with
  | none => rfl
  | some b =>
    have hm := List.mem_of_find?_eq_some hb
    have hsame := List.find?_some hb
    simp only [Bool.and_eq_true, beq_iff_eq] at hsame
    exact congrArg (a.slots.set i) (if_neg (Bool.eq_false_iff.mp (hw b hm hsame.1 hsame.2)))

/-! ### Slots released (05 R144) -/

theorem GnssSlot.releasable_iff (g : GnssRec) (u : GnssSlot) :
    u.releasable g = true ↔ 100 ≤ u.lowRun ∨ u.elevation < (g.elevationMask : Int) - 2 ∨ signalEnabled g u.signal = false := by
  simp [GnssSlot.releasable, or_assoc]

theorem AntennaState.release_eq (cfg : GnssRec) (a : AntennaState) {n : Nat} (hn : n < a.slots.length) :
    a.release cfg n =
      { a with slots := a.slots.set n (if (nth default a.slots n).releasable cfg then GnssSlot.idle else nth default a.slots n) } := by
  rw [AntennaState.release, modNth_eq_set default _ _ _ hn]

theorem AntennaState.release_of {cfg : GnssRec} {a : AntennaState} {n : Nat} (hn : n < a.slots.length)
    (h : (nth default a.slots n).releasable cfg = true) : a.release cfg n = { a with slots := a.slots.set n GnssSlot.idle } := by
  rw [AntennaState.release_eq cfg a hn, if_pos h]

theorem AntennaState.release_id {cfg : GnssRec} {a : AntennaState} {n : Nat} (hn : n < a.slots.length)
    (h : ¬(nth default a.slots n).releasable cfg = true) : a.release cfg n = a := by
  have e : nth default a.slots n = a.slots[n] := by simp [nth, hn]
  rw [AntennaState.release_eq cfg a hn, if_neg h, e, List.set_getElem_self]

/-! ### Antenna bias (05 R141) -/

theorem exec_antennaBiasFault {k cause : Nat} (hi : (s.lane l).intake = true)
    (hr : 10 ≤ ((s.lane l).gnss.ant k).overRun ∨ 10 ≤ ((s.lane l).gnss.ant k).underRun)
    (hc : (if 10 ≤ ((s.lane l).gnss.ant k).overRun then 1 else 2) = cause) {f : AntennaState → AntennaState}
    (hf : ((s.lane l).gnss.ant k).biasFault = f ((s.lane l).gnss.ant k)) :
    exec (.antennaBiasFault l k) s = .next (s.onLane l fun x => (x.setAnt k (f (x.gnss.ant k))).raise ⟨.gn, 1⟩ k cause) := by
  refine congrArg Host.Outcome.next (State.onGnss_eq hi ?_)
  rw [if_pos hr, hc, GnssState.onAnt, hf]
  rfl

theorem AntennaState.biasFault_short {a : AntennaState} (h : 10 ≤ a.overRun) :
    a.biasFault = { a with biasOn := false, biasShort := true, overRun := 0, offRun := 0 } := if_pos h

theorem AntennaState.biasFault_open {a : AntennaState} (h : a.overRun < 10) (k : 10 ≤ a.underRun) :
    a.biasFault = { a with biasOpen := true } := by
  rw [AntennaState.biasFault, if_neg (Nat.not_le.mpr h), if_pos k]

/-! ### Corrections (05 R159) -/

theorem exec_rtcmFrameReceived {bytes : Bytes} (hi : (s.lane l).intake = true) (hs : (s.lane l).img.gnss.rtcmSource ≠ 0xFF)
    {f : GnssState → GnssState} (hf : (s.lane l).gnss.rtcm bytes = f (s.lane l).gnss) :
    exec (.rtcmFrameReceived l bytes) s = .next (s.onLane l fun x => { x with gnss := f x.gnss }) := by
  refine congrArg Host.Outcome.next (State.onGnss_eq hi ?_)
  rw [if_neg hs, hf]
  rfl

theorem GnssState.rtcm_discarded {g : GnssState} {bytes : Bytes} (h : rtcmOk bytes = false) :
    g.rtcm bytes = { g with rtcmDiscarded := g.rtcmDiscarded + 1 } := by
  simp [GnssState.rtcm, h]

theorem GnssState.rtcm_station {g : GnssState} {bytes : Bytes} (h : rtcmOk bytes = true) (ht : rtcmType bytes = 1005 ∨ rtcmType bytes = 1006) :
    g.rtcm bytes = { g with rtcmUsed := g.rtcmUsed + 1, stationAge := some 0, baseId := rtcmStation bytes } := by
  simp [GnssState.rtcm, h, ht]

/-! ### Time-outs (05 R151, R161, R171) -/

/-- A step that leaves the receiver and raises one code. -/
theorem State.onGnss_ifOn (hi : (s.lane l).intake = true) {on : GnssState → Bool} (h : on (s.lane l).gnss = true) (c : Code) (i k : Nat) :
    s.onGnss l (fun _ g => (g, AlarmOp.ifOn (on g) c i k)) = s.onLane l fun x => x.raise c i k :=
  State.onGnss_eq hi (by rw [AlarmOp.ifOn_of h]; rfl)

end

/-! ## Messages (05 R152 to R154, R158) -/

/-- The status a message is published with. -/
def NavIn.status (n : NavIn) : Nat := navStatus n.kind n.headOk n.checkOk n.corrected n.wordMask

namespace GnssState

variable (g : GnssState) (n : NavIn)

/-- The ring's record of a message. -/
def navRecord (l : Lane) : NavRecord :=
  ⟨g.navSeq, antennaNo l n.antenna, n.signal, n.svid, n.kind, n.timeS, n.timeNs, navBits n.kind,
    n.status, min 255 n.corrected, if n.kind = 1 then n.wordMask % 1024 else 0, n.bits⟩

/-- The receiver with a message in its ring. -/
def logNav (l : Lane) : GnssState := g.addNav (g.navRecord n l)

/-- The ephemeris set of a message, not taken of an LNAV message with a bad word. -/
def takeEph (now : Nat) : GnssState :=
  match n.eph with
  | some e => if n.status = 3 then g else (g.offerEph { e with acceptedAt := now } n.near).1
  | none => g

def takeLeap : GnssState := match n.leap with | some k => { g with leap := some k } | none => g

def takeSbas : GnssState := match n.sbasType with | some mt => g.sbasMessage n.svid mt | none => g

theorem message_eq (l : Lane) (now : Nat) : g.message l n now =
    if n.status = 1 then g.logNav n l else (((g.logNav n l).takeEph n now).takeLeap n).takeSbas n :=
  rfl

theorem offerEph_ring (e : Ephemeris) (near : Bool) : (g.offerEph e near).1.navSeq = g.navSeq ∧ (g.offerEph e near).1.navRing = g.navRing := by
  unfold offerEph
  dsimp only
  split <;> exact ⟨rfl, rfl⟩

theorem mem_offerEph (e : Ephemeris) : e ∈ (g.offerEph e true).1.ephs := List.mem_cons_self

theorem takeEph_ring (now : Nat) : (g.takeEph n now).navSeq = g.navSeq ∧ (g.takeEph n now).navRing = g.navRing := by
  unfold takeEph
  split
  · split
    · exact ⟨rfl, rfl⟩
    · exact g.offerEph_ring _ _
  · exact ⟨rfl, rfl⟩

theorem takeLeap_keeps : (g.takeLeap n).navSeq = g.navSeq ∧ (g.takeLeap n).navRing = g.navRing ∧ (g.takeLeap n).ephs = g.ephs := by
  unfold takeLeap
  split <;> exact ⟨rfl, rfl, rfl⟩

theorem takeSbas_keeps : (g.takeSbas n).navSeq = g.navSeq ∧ (g.takeSbas n).navRing = g.navRing ∧ (g.takeSbas n).ephs = g.ephs ∧
    (g.takeSbas n).leap = g.leap := by
  unfold takeSbas
  split
  · unfold sbasMessage
    split
    · exact ⟨rfl, rfl, rfl, rfl⟩
    · split <;> exact ⟨rfl, rfl, rfl, rfl⟩
  · exact ⟨rfl, rfl, rfl, rfl⟩

/-- Every message goes into the ring. -/
theorem message_ring (l : Lane) (now : Nat) :
    (g.message l n now).navSeq = (g.navSeq + 1) % 2 ^ 32 ∧ (g.message l n now).navRing = (g.navRecord n l :: g.navRing).take 256 := by
  rw [message_eq]
  split
  · exact ⟨rfl, rfl⟩
  · obtain ⟨hs, hr, -, -⟩ := (((g.logNav n l).takeEph n now).takeLeap n).takeSbas_keeps n
    obtain ⟨hs', hr', -⟩ := ((g.logNav n l).takeEph n now).takeLeap_keeps n
    obtain ⟨hs'', hr''⟩ := (g.logNav n l).takeEph_ring n now
    exact ⟨hs.trans (hs'.trans hs''), hr.trans (hr'.trans hr'')⟩

/-- A message that fails its check goes no further than the ring. -/
theorem message_failed (l : Lane) (now : Nat) (h : n.status = 1) :
    (g.message l n now).ephs = g.ephs ∧ (g.message l n now).leap = g.leap := by
  rw [message_eq, if_pos h]
  exact ⟨rfl, rfl⟩

/-- Of a message that passes, the leap second and the ephemeris set are taken. -/
theorem message_passed (l : Lane) (now : Nat) (h : n.status ≠ 1) :
    (g.message l n now).ephs = ((g.logNav n l).takeEph n now).ephs ∧
    ∀ k, n.leap = some k → (g.message l n now).leap = some k := by
  rw [message_eq, if_neg h]
  obtain ⟨-, -, he, hl⟩ := (((g.logNav n l).takeEph n now).takeLeap n).takeSbas_keeps n
  refine ⟨he.trans (takeLeap_keeps _ n).2.2, fun k hk => hl.trans ?_⟩
  rw [takeLeap, hk]

theorem message_eph (l : Lane) (now : Nat) {e : Ephemeris} (h : n.status ≠ 1)
    (h3 : n.status ≠ 3) (he : n.eph = some e) (hn : n.near = true) :
    { e with acceptedAt := now } ∈ (g.message l n now).ephs := by
  rw [(g.message_passed n l now h).1, takeEph, he, hn]
  dsimp only
  rw [if_neg h3]
  exact mem_offerEph _ _

theorem message_badWords (l : Lane) (now : Nat) (h : n.status = 3) :
    (g.message l n now).ephs = g.ephs := by
  rw [(g.message_passed n l now (by rw [h]; decide)).1, takeEph, h]
  split <;> rfl

end GnssState

theorem LaneState.withGnss_intake (x : LaneState) (r : GnssState × List AlarmOp) : (x.withGnss r).intake = x.intake := by
  simp only [intake, withGnss, codes_image, codes_life]

theorem LaneState.keepEphs_of_intake {x : LaneState} (h : x.intake = true) : x.keepEphs = { x with attic := { x.attic with ephs := x.gnss.ephs } } :=
  if_pos h

/-- A code held while a condition lasts is active just where it lasts. -/
theorem LaneState.hasAlarm_whileOn (x : LaneState) (on : Bool) (c : Code) (i k : Nat) :
    hasAlarm (x.codes [.whileOn on c i k]).alarms c i = on := by
  cases on with
  | true => exact x.hasAlarm_alarm_hold c i k []
  | false => exact x.hasAlarm_alarm_clear c i []

/-- A message gives the lane its receiver, the Attic the accepted sets, and GN-050 as the signal's messages stand. -/
theorem exec_navMessage_spec {s : State} {l : Lane} (hi : (s.lane l).intake = true) (n : NavIn) :
    ∃ t, exec (.navMessage l n) s = .next t ∧ t.lane l.other = s.lane l.other ∧
      (t.lane l).gnss = (s.lane l).gnss.message l n (s.lane l).clock.s ∧ (t.lane l).attic.ephs = (t.lane l).gnss.ephs ∧
      hasAlarm (t.lane l).alarms ⟨.gn, 50⟩ (256 * n.signal + n.svid) = (t.lane l).gnss.navPoor n.signal n.svid := by
  refine ⟨_, rfl, ?_, ?_⟩
  · rw [State.lane_onLane_other]
    exact State.lane_onLane_other _ _ _
  · rw [State.lane_onLane, State.lane_onGnss _ hi, LaneState.keepEphs_of_intake ((LaneState.withGnss_intake _ _).trans hi)]
    dsimp only
    rw [LaneState.withGnss_gnss]
    exact ⟨rfl, rfl, LaneState.hasAlarm_whileOn _ _ _ _ _⟩

/-! ## A front end out of use (05 R171) -/

theorem AntennaState.frontEndFault_spec (a : AntennaState) (low : Bool) :
    (if low then (a.frontEndFault low).lowOk = false else (a.frontEndFault low).highOk = false) ∧
    (a.frontEndFault low).slots = a.slots.map fun u => if signalLow u.signal = low then GnssSlot.idle else u := by
  refine ⟨?_, by simp [AntennaState.frontEndFault]⟩
  cases low <;> simp [AntennaState.frontEndFault]

/-- Settles O43, event by event through what each does to its antenna, its receiver or its codes. That a verified peak comes as a command
and fills the first idle slot is log entry 63; that accepted sets stand in the Attic with the time of their acceptance is log entry 66. -/
theorem gnssEvents : Obligations.GnssEvents := by
  unfold Obligations.GnssEvents
  refine ⟨fun s l k hi => ⟨?dump, ?hit, ?noHit, ?release, ?short, ?opened, ?retry, ?noRetry, ?nav, ?noSource, ?discarded, ?station, ?peer,
    ?withheld, ?noSolution, ?noHeading, ?untracked⟩, ?frontEnd⟩
  case dump =>
    intro obs
    obtain ⟨t, he, ho, ha⟩ := exec_gnssDump_spec k hi obs
    refine ⟨t, he, ho, fun n o hn hf => ?_⟩
    rw [ha, AntennaState.nth_dump _ obs hn hf]
    exact ⟨GnssSlot.dump_idle o, GnssSlot.dump_spec o⟩
  case hit =>
    intro signal svid cn0 elevation channel i hs hf
    refine ⟨_, rfl, State.lane_onLane_other _ _ _, fun hw => ?_⟩
    rw [State.lane_onGnss _ hi, LaneState.withGnss_gnss, if_pos hs, GnssState.ant_onAnt]
    exact AntennaState.hit_idle hf hw
  case noHit =>
    intro signal svid cn0 elevation channel hs
    exact congrArg Host.Outcome.next (State.onGnss_id (by rw [hs]; rfl))
  case release =>
    intro slot hn
    refine ⟨fun h => ?_, fun hlow hel hen => ?_⟩
    · refine congrArg Host.Outcome.next (State.onGnss_eq hi ?_)
      rw [GnssState.onAnt, AntennaState.release_of hn ((GnssSlot.releasable_iff _ _).mpr h)]
      rfl
    · have h : ¬(nth default ((s.lane l).gnss.ant k).slots slot).releasable (s.lane l).img.gnss = true := by
        simp only [GnssSlot.releasable_iff, hen, reduceCtorEq, or_false]
        omega
      exact congrArg Host.Outcome.next (State.onGnss_id (by rw [GnssState.onAnt_id _ _ (AntennaState.release_id hn h)]))
  case short =>
    exact fun h => exec_antennaBiasFault hi (.inl h) (if_pos h)
      (f := fun a => { a with biasOn := false, biasShort := true, overRun := 0, offRun := 0 }) (AntennaState.biasFault_short h)
  case opened =>
    exact fun h hu => exec_antennaBiasFault hi (.inr hu) (if_neg (Nat.not_le.mpr h))
      (f := fun a => { a with biasOpen := true }) (AntennaState.biasFault_open h hu)
  case retry =>
    intro hb ho
    refine congrArg Host.Outcome.next (State.onGnss_eq hi ?_)
    rw [GnssState.onAnt, if_pos (by rw [hb, decide_eq_true ho]; rfl)]
    rfl
  case noRetry =>
    intro ho
    refine congrArg Host.Outcome.next (State.onGnss_id ?_)
    rw [GnssState.onAnt_id]
    exact if_neg (by rw [decide_eq_false (Nat.not_le.mpr ho), Bool.and_false]; exact nofun)
  case nav =>
    intro n
    obtain ⟨t, he, ho, hg, ha, hp⟩ := exec_navMessage_spec hi n
    refine ⟨t, he, ho, ?_, ?_, ?_, ?_, ?_, ?_, ha, hp⟩ <;> rw [hg]
    · exact (GnssState.message_ring _ n l _).1
    · exact (GnssState.message_ring _ n l _).2
    · exact GnssState.message_failed _ n l _
    · exact fun h => (GnssState.message_passed _ n l _ h).2
    · exact fun h h3 e he hn => GnssState.message_eph _ n l _ h h3 he hn
    · exact GnssState.message_badWords _ n l _
  case noSource => exact fun h bytes => congrArg Host.Outcome.next (State.onGnss_id (by rw [if_pos h]))
  case discarded =>
    exact fun bytes hs h => exec_rtcmFrameReceived hi hs (f := fun g => { g with rtcmDiscarded := g.rtcmDiscarded + 1 })
      (GnssState.rtcm_discarded h)
  case station =>
    exact fun bytes hs h ht => exec_rtcmFrameReceived hi hs
      (f := fun g => { g with rtcmUsed := g.rtcmUsed + 1, stationAge := some 0, baseId := rtcmStation bytes }) (GnssState.rtcm_station h ht)
  case peer =>
    intro hm hw
    refine congrArg Host.Outcome.next (State.onGnss_eq hi ?_)
    rw [if_pos (by rw [hw, Bool.or_eq_true_iff.mpr hm]; rfl)]
    rfl
  case withheld =>
    intro hw
    exact congrArg Host.Outcome.next (State.onGnss_id (if_neg (by rw [hw, Bool.not_true, Bool.and_false]; exact nofun)))
  case noSolution =>
    exact fun hf hn => congrArg Host.Outcome.next (State.onGnss_ifOn hi (on := fun g => g.firstFix && decide (250 ≤ g.noSolution))
      (by rw [hf, decide_eq_true hn]; rfl) _ _ _)
  case noHeading =>
    exact fun hf hn => congrArg Host.Outcome.next (State.onGnss_ifOn hi (on := fun g => g.firstHeading && decide (250 ≤ g.noHeading))
      (by rw [hf, decide_eq_true hn]; rfl) _ _ _)
  case untracked =>
    exact fun h => congrArg Host.Outcome.next (State.onGnss_ifOn hi (on := fun g => decide (60 ≤ (g.ant k).untrackedRun))
      (decide_eq_true h) _ _ _)
  case frontEnd =>
    intro s l k low
    obtain ⟨hok, hslots⟩ := ((s.lane l).gnss.ant k).frontEndFault_spec low
    refine ⟨_, rfl, ?_⟩
    rw [State.lane_onLane, LaneState.withGnss_gnss, GnssState.ant_onAnt]
    exact ⟨LaneState.hasAlarm_withGnss_raise _ _ _ _ _, hok, hslots⟩

end Sys2Proof.Machine

namespace Sys2Proof.Machine

/-!
SUPPORT and settled obligations: the references and the dead-reckoning limit, operator commands (O40) and events (O44).
-/

/-! ## Operator commands (06 R195, R196, R200) -/

/-- A candidate of a kind that is offered is accepted for its kind. -/
theorem exec_refsAccept {s u : State} {l : Lane} {m : Msg} {ref : Nat} {r : RefRec} (hr : (s.lane l).refRec ref = some r)
    (ho : r.kind = 1 ∧ (s.lane l).refs.offeredPos = true ∨ r.kind = 2 ∧ (s.lane l).refs.offeredHdg = true)
    (hc : (nth default (s.lane l).refs.refs ref).candidate = true) (hu : s.accepts l m 0x4202 1 1 (some ([BitVec.ofNat 8 ref], none)) u) :
    exec (.refsAccept l m ref) s = .next (u.onLane l fun x =>
      { x with refs := if r.kind = 1 then { x.refs with acceptPos := true } else { x.refs with acceptHdg := true } }) := by
  refine congrArg Host.Outcome.next ((State.command_accepts hu rfl (if_pos ?_)).trans (State.onLane_congr ?_))
  · rw [hr, hc]
    rcases ho with ⟨hk, ho⟩ | ⟨hk, ho⟩ <;> simp [hk, ho]
  · rw [hr]

/-- Settles O40: each command is accepted, and its effect runs on the state in which the reply waits. -/
theorem referenceCommands : Obligations.ReferenceCommands := by
  refine ⟨fun s u l m ref on hr hu => ?select, fun s u l m ref r hr hk ho hc hu => ?position, fun s u l m ref r hr hk ho hc hu => ?heading,
    fun s u l m ref r hr hf hu => ?anchor⟩
  case select => exact congrArg Host.Outcome.next (State.command_accepts hu rfl (if_pos hr))
  case position =>
    rw [exec_refsAccept hr (.inl ⟨hk, ho⟩) hc hu]
    exact congrArg Host.Outcome.next (State.onLane_congr (by rw [if_pos hk]))
  case heading =>
    rw [exec_refsAccept hr (.inr ⟨hk, ho⟩) hc hu]
    exact congrArg Host.Outcome.next (State.onLane_congr (by rw [if_neg (by omega)]))
  case anchor =>
    refine congrArg Host.Outcome.next (State.command_accepts hu rfl (if_pos ?_))
    rw [hr]
    simpa using hf

/-! ## Entries of a list -/

section
variable {α : Type} {d : α} {xs : List α} {n : Nat} {f : α → α}

theorem nth_modNth_self (h : n < xs.length) : nth d (modNth xs n f) n = f (nth d xs n) := by
  rw [modNth_eq_set d _ _ _ h, nth_set_self _ _ _ _ h]

theorem nth_modNth_ne {k : Nat} (h : n ≠ k) : nth d (modNth xs n f) k = nth d xs k := by
  simp [nth, modNth, h]

/-- What a function leaves of every value it leaves of every entry. -/
theorem nth_modNth_keeps {β : Type} (g : α → β) (hf : ∀ a, g (f a) = g a) (k : Nat) : g (nth d (modNth xs n f) k) = g (nth d xs k) := by
  by_cases h : n = k
  · subst h
    by_cases hn : n < xs.length
    · rw [nth_modNth_self hn, hf]
    · rw [modNth, List.modify_eq_self (Nat.not_lt.mp hn)]
  · rw [nth_modNth_ne h]

end

/-! ## The port of a sentence or frame (06 R177) -/

/-- Bytes that find room are received whole; the port counts them and refuses nothing. -/
theorem RefsState.receive_of_room (st : RefsState) {port : Nat} {bs : Bytes} (h : ∀ p, st.ports[port]? = some p → p.fill + bs.length ≤ 1024) :
    (st.receive port bs).2 = bs ∧ (st.receive port bs).1.refs = st.refs ∧
    (port < st.ports.length → port < (st.receive port bs).1.ports.length ∧
      (nth default (st.receive port bs).1.ports port).refused = (nth default st.ports port).refused ∧
      (nth default (st.receive port bs).1.ports port).chars = (nth default st.ports port).chars + bs.length) := by
  delta receive
  cases hp : st.ports[port]? with
  | none => exact ⟨rfl, rfl, fun hl => absurd hl (Nat.not_lt.mpr (List.getElem?_eq_none_iff.mp hp))⟩
  | some p =>
    have hnth : nth default st.ports port = p := by rw [nth, List.getD_eq_getElem?_getD, hp, Option.getD_some]
    refine ⟨List.take_of_length_le (Nat.le_sub_of_add_le' (h p hp)), rfl, fun hl => ⟨List.length_set.symm ▸ hl, ?_⟩⟩
    rw [nth_set_self _ _ _ _ hl, hnth]
    exact ⟨rfl, rfl⟩

/-- A refusal is counted at its port, and leaves the references. -/
theorem RefsState.refuseAt_spec (st : RefsState) {port : Nat} (h : port < st.ports.length) :
    (st.refuseAt port).refs = st.refs ∧ (nth default (st.refuseAt port).ports port).refused = (nth default st.ports port).refused + 1 ∧
    (nth default (st.refuseAt port).ports port).chars = (nth default st.ports port).chars := by
  rw [refuseAt, nth_modNth_self h]
  exact ⟨rfl, rfl, rfl⟩

theorem RefsState.refs_noteFix (st : RefsState) (source : Nat) (s : Sentence) (ok : Bool) : (st.noteFix source s ok).refs = st.refs :=
  iteInduction (motive := fun z : RefsState => z.refs = st.refs) (fun _ => rfl) fun _ => rfl

/-! ## Measurements offered to the references (06 R180, R181) -/

namespace LaneState

variable (x : LaneState)

/-- A measurement of the target goes to its tracker alone. -/
theorem targetSeen_refs (r : RefRec) (t : Nat) (v : RefValue) : (x.targetSeen r t v).refs = x.refs := by
  delta targetSeen
  cases histAt x.obs.history x.obs.pred t <;> rfl

/-! What an offer does, case by case. -/

theorem offer_target {r : RefRec} (arrival : Nat) (v : Option (RefValue × Bool × Bool × Option Nat)) (h : r.refId = x.img.mode.targetRef) :
    (x.offer r arrival v).refs = x.refs := by
  refine (congrArg LaneState.refs (if_pos h)).trans ?_
  rcases v with _ | ⟨val, _ | _, deg, ms⟩
  · rfl
  · rfl
  · exact iteInduction (motive := fun y : LaneState => y.refs = x.refs) (fun _ => x.targetSeen_refs r _ val) fun _ => rfl

theorem offer_unused {r : RefRec} (arrival : Nat) (v : Option (RefValue × Bool × Bool × Option Nat)) (h : r.refId ≠ x.img.mode.targetRef)
    (hu : r.flags.testBit 0 = false) : x.offer r arrival v = x :=
  (if_neg h).trans (if_pos (by rw [hu]; rfl))

theorem offer_none {r : RefRec} (arrival : Nat) (h : r.refId ≠ x.img.mode.targetRef) (hu : r.flags.testBit 0 = true) :
    (x.offer r arrival none).refs = x.refs.modRef r.refId RefState.refuse :=
  congrArg LaneState.refs ((if_neg h).trans (if_neg (by rw [hu]; exact nofun)))

theorem offer_some {r : RefRec} (arrival : Nat) (v : RefValue × Bool × Bool × Option Nat) (h : r.refId ≠ x.img.mode.targetRef)
    (hu : r.flags.testBit 0 = true) :
    (x.offer r arrival (some v)).refs = x.refs.modRef r.refId fun a =>
      let m := measurementTime r arrival x.cal.leap x.timeGood v.2.2.2
      a.take ⟨arrival, m.1, v.1, v.2.1, v.2.2.1, m.2.1, m.2.2, none⟩ :=
  congrArg LaneState.refs ((if_neg h).trans (if_neg (by rw [hu]; exact nofun)))

/-- An offer changes the entry of its reference alone, and a refusal leaves what waits there. -/
theorem offer_refs (r : RefRec) (arrival : Nat) (v : Option (RefValue × Bool × Bool × Option Nat)) :
    ∃ f, (x.offer r arrival v).refs = x.refs.modRef r.refId f ∧ (v = none → ∀ a, (f a).waiting = a.waiting) := by
  have same : x.refs = x.refs.modRef r.refId id := by rw [RefsState.modRef, modNth, List.modify_id]
  by_cases h : r.refId = x.img.mode.targetRef
  · exact ⟨id, (x.offer_target arrival v h).trans same, fun _ _ => rfl⟩
  · cases hu : r.flags.testBit 0 with
    | false => exact ⟨id, (congrArg LaneState.refs (x.offer_unused arrival v h hu)).trans same, fun _ _ => rfl⟩
    | true =>
      cases v with
      | none => exact ⟨_, x.offer_none arrival h hu, fun _ _ => rfl⟩
      | some v => exact ⟨_, x.offer_some arrival v h hu, nofun⟩

theorem offer_ports (r : RefRec) (arrival : Nat) (v : Option (RefValue × Bool × Bool × Option Nat)) :
    (x.offer r arrival v).refs.ports = x.refs.ports := by
  obtain ⟨f, hf, -⟩ := x.offer_refs r arrival v
  rw [hf]
  rfl

theorem offer_length (r : RefRec) (arrival : Nat) (v : Option (RefValue × Bool × Bool × Option Nat)) :
    (x.offer r arrival v).refs.refs.length = x.refs.refs.length := by
  obtain ⟨f, hf, -⟩ := x.offer_refs r arrival v
  rw [hf]
  exact length_modNth _ _ _

theorem offer_entry_of_ne {r : RefRec} {n : Nat} (arrival : Nat) (v : Option (RefValue × Bool × Bool × Option Nat)) (h : r.refId ≠ n) :
    nth default (x.offer r arrival v).refs.refs n = nth default x.refs.refs n := by
  obtain ⟨f, hf, -⟩ := x.offer_refs r arrival v
  rw [hf]
  exact nth_modNth_ne h

theorem offer_none_waiting (r : RefRec) (arrival n : Nat) :
    (nth default (x.offer r arrival none).refs.refs n).waiting = (nth default x.refs.refs n).waiting := by
  obtain ⟨f, hf, hw⟩ := x.offer_refs r arrival none
  rw [hf]
  exact nth_modNth_keeps RefState.waiting (hw rfl) n

section
variable {x} {y : LaneState} {recs : List RefRec} {arrival : Nat} {takes : RefRec → Bool}
  {v : RefRec → Option (RefValue × Bool × Bool × Option Nat)}

/-- What every offer to a record leaves, an arrival leaves. -/
theorem foldl_offer_keeps {β : Type} (g : LaneState → β) (h : ∀ r ∈ recs, ∀ z : LaneState, g (z.offer r arrival (v r)) = g z) :
    g (recs.foldl (fun (z : LaneState) r => if takes r then z.offer r arrival (v r) else z) y) = g y :=
  List.foldlRecOn (motive := fun z => g z = g y) _ _ rfl fun z hz r hr =>
    iteInduction (motive := fun w => g w = g y) (fun _ => (h r hr z).trans hz) fun _ => hz

/-- With one record a reference, a value that its record takes waits at its entry. -/
theorem foldl_offer_waiting {r : RefRec} {w : RefValue × Bool × Bool × Option Nat} (hxy : x.changesJust refsPart y)
    (hd : recs.Pairwise fun p q => p.refId ≠ q.refId) (hr : r ∈ recs) (ht : takes r = true) (hv : v r = some w) (hu : r.flags.testBit 0 = true)
    (hn : r.refId ≠ x.img.mode.targetRef) (hlen : r.refId < y.refs.refs.length) :
    let m := measurementTime r arrival x.cal.leap x.timeGood w.2.2.2
    (nth default (recs.foldl (fun (z : LaneState) r => if takes r then z.offer r arrival (v r) else z) y).refs.refs r.refId).waiting =
      some ⟨arrival, m.1, w.1, w.2.1, w.2.2.1, m.2.1, m.2.2, none⟩ := by
  induction recs generalizing y with
  | nil => nomatch hr
  | cons q qs ih =>
    obtain ⟨hq, hd⟩ := List.pairwise_cons.mp hd
    rcases List.mem_cons.mp hr with rfl | hr
    · have himg : y.img = x.img := hxy.only.keeps img
      have hleap : y.cal.leap = x.cal.leap := hxy.only.keeps (·.cal.leap)
      have hgood : y.timeGood = x.timeGood := hxy.only.keeps timeGood
      rw [List.foldl_cons, if_pos ht, foldl_offer_keeps (fun z => nth default z.refs.refs r.refId) fun p hp z => z.offer_entry_of_ne _ _ (hq p hp).symm,
        hv, offer_some _ _ _ (himg ▸ hn) hu, RefsState.modRef, nth_modNth_self hlen, hleap, hgood]
      rfl
    · rw [List.foldl_cons]
      refine ih (hxy.trans takes_refsPart ?_) hd hr ?_
      · exact .ite (fun _ => y.offer_changes _ _ _) fun _ => .refl takes_refsPart y
      · exact iteInduction (motive := fun z : LaneState => r.refId < z.refs.refs.length) (fun _ => (y.offer_length _ _ _).symm ▸ hlen) fun _ => hlen

end

/-! ### Sentences (06 R178) -/

/-- A sentence that a record takes is listed and gives no sigma of another. -/
theorem listed_of_takesSentence {r : RefRec} {source : Nat} {s : Sentence} (h : takesSentence r source s = true) :
    listedFormatter s.formatter = true ∧ s.formatter ≠ ascii "GST" := by
  have hf := (Bool.and_eq_true_iff.mp h).2
  simp only [Bool.or_eq_true, Bool.and_eq_true, decide_eq_true_eq] at hf
  obtain ((((⟨hf, -⟩ | ⟨hf, -⟩) | ⟨hf, -⟩) | ⟨hf, -⟩) | ⟨hf, -⟩) := hf <;> rw [hf] <;> decide

theorem offerSentence_ports (source arrival : Nat) (s : Sentence) (whole : Bool) :
    (x.offerSentence source arrival s whole).refs.ports = x.refs.ports :=
  foldl_offer_keeps (·.refs.ports) fun _ _ z => z.offer_ports _ _ _

theorem offerSentence_refused_waiting (source arrival : Nat) (s : Sentence) (n : Nat) :
    (nth default (x.offerSentence source arrival s false).refs.refs n).waiting = (nth default x.refs.refs n).waiting :=
  foldl_offer_keeps (v := fun _ => none) (fun z => (nth default z.refs.refs n).waiting) fun r _ z => z.offer_none_waiting r arrival n

/-- With one record a reference, the value of a whole sentence waits at the entry of a record that takes it. -/
theorem offerSentence_waiting {x y : LaneState} {source arrival : Nat} {s : Sentence} {r : RefRec} {v : RefValue × Bool × Option Nat}
    (hxy : x.changesJust refsPart y) (hd : x.img.refs.Pairwise fun p q => p.refId ≠ q.refId) (hr : r ∈ x.img.refs)
    (ht : takesSentence r source s = true) (hv : sentenceValue r s = some v) (hu : r.flags.testBit 0 = true)
    (hn : r.refId ≠ x.img.mode.targetRef) (hlen : r.refId < y.refs.refs.length) :
    let m := measurementTime r arrival x.cal.leap x.timeGood v.2.2
    (nth default (y.offerSentence source arrival s true).refs.refs r.refId).waiting =
      some ⟨arrival, m.1, v.1, v.2.1, false, m.2.1, m.2.2, none⟩ := by
  rw [← hxy.only.keeps img] at hd hr
  exact foldl_offer_waiting (takes := (takesSentence · source s)) (w := (v.1, v.2.1, false, v.2.2)) hxy hd hr ht (by rw [hv]; rfl) hu hn hlen

/-- A whole sentence is offered to the references of the image, whatever its port counts. -/
theorem sentence_parsed {source : Nat} (arrival : Nat) {bytes : Bytes} {s : Sentence}
    (h : ∀ p, x.refs.ports[source]? = some p → p.fill + bytes.length ≤ 1024) (hp : parseSentence bytes = some s)
    (hl : listedFormatter s.formatter = true) (hg : s.formatter ≠ ascii "GST") :
    ∃ y, x.changesJust refsPart y ∧ y.refs.refs = x.refs.refs ∧
      (x.sentence source bytes arrival).refs.refs = (y.offerSentence source arrival s true).refs.refs := by
  obtain ⟨hb, hr, -⟩ := x.refs.receive_of_room h
  have hq : parseSentence (x.refs.receive source bytes).2 = some s := (congrArg parseSentence hb).trans hp
  have hlisted : ¬(!listedFormatter s.formatter) = true := by rw [hl]; exact nofun
  delta sentence
  dsimp only
  rw [hq]
  refine ⟨_, ?_, ?_,
    (congrArg (fun z : LaneState => z.refs.refs) ((if_neg hlisted).trans (if_neg hg))).trans (RefsState.refs_noteFix _ _ _ _)⟩
  · exact .ite (fun _ => rfl) fun _ => rfl
  · exact iteInduction (motive := fun z : LaneState => z.refs.refs = x.refs.refs) (fun _ => hr) fun _ => hr

/-- A sentence that is not whole is refused at its port, and by the references it can be told to be for. -/
theorem sentence_refused {source : Nat} (arrival : Nat) {bytes : Bytes} (h : ∀ p, x.refs.ports[source]? = some p → p.fill + bytes.length ≤ 1024)
    (hp : parseSentence bytes = none) :
    ∃ (y : LaneState) (s : Sentence), y.refs = (x.refs.receive source bytes).1.refuseAt source ∧
      x.sentence source bytes arrival = y.offerSentence source arrival s false := by
  have hq : parseSentence (x.refs.receive source bytes).2 = none := (congrArg parseSentence (x.refs.receive_of_room h).1).trans hp
  delta sentence
  dsimp only
  rw [hq]
  exact ⟨_, _, rfl, rfl⟩

/-! ### Binary frames (06 R179) -/

/-- A whole binary frame is offered to the references of the image. -/
theorem binaryFrame_whole {source : Nat} (arrival : Nat) {bytes : Bytes} (h : ∀ p, x.refs.ports[source]? = some p → p.fill + bytes.length ≤ 1024)
    (hw : binaryOk bytes = true) :
    ∃ y, x.changesJust refsPart y ∧ y.refs.refs = x.refs.refs ∧ x.binaryFrame source bytes arrival =
      y.img.refs.foldl (fun (z : LaneState) r => if takesBinary r source bytes then z.offer r arrival (binaryValue r bytes) else z) y := by
  obtain ⟨hb, hr, -⟩ := x.refs.receive_of_room h
  delta binaryFrame
  dsimp only
  rw [hb, hw]
  exact ⟨{ x with refs := (x.refs.receive source bytes).1 }, rfl, hr, rfl⟩

/-! ## Fallbacks of vessel control (08 R245) -/

/-- A fallback raises its own code and clears none. -/
theorem hasAlarm_fallBack {c : Code} {i : Nat} (ht : ¬tableFull c i) (h : hasAlarm x.alarms c i = true) :
    hasAlarm x.fallBack.alarms c i = true := by
  delta fallBack
  cases fallbackDue x.ctrlCtx x.ctrl with
  | none => exact h
  | some d =>
    refine (hasAlarm_raise _ _ _ _ _ _ ht).trans ?_
    exact Bool.or_eq_true_iff.mpr (.inl h)

theorem fallBack_ctrl_of_none (h : fallbackDue x.ctrlCtx x.ctrl = none) : x.fallBack.ctrl = x.ctrl := by
  delta fallBack
  rw [h]

theorem fallBack_ctrl_of_some {k cause code : Nat} (h : fallbackDue x.ctrlCtx x.ctrl = some (k, cause, code)) :
    x.fallBack.ctrl = x.ctrl.fallback x.ctrlCtx k cause := by
  delta fallBack
  rw [h]
  exact raise_ctrl _ _ _ _

end LaneState

theorem ControlState.fallback_mode (c : CtrlCtx) (z : ControlState) (k cause : Nat) : (z.fallback c k cause).mode = k :=
  iteInduction (motive := fun w : ControlState => w.mode = k) (fun _ => rfl) fun _ =>
    iteInduction (motive := fun w : ControlState => w.mode = k) (fun _ => rfl) fun _ =>
      iteInduction (motive := fun w : ControlState => w.mode = k) (fun _ => rfl) fun _ => rfl

/-- Without a heading limit, no fallback is due below mode 3 while the observer runs. -/
theorem fallbackDue_of_low {c : CtrlCtx} {z : ControlState} (hm : z.mode ≤ 2) (ho : c.obsStatus ≠ 0) (hh : c.limitHdg = false) :
    fallbackDue c z = none := by
  have h : ∀ n, 2 < n → z.mode ≠ n := fun n hn => (hm.trans_lt hn).ne
  have h3 : ¬3 ≤ z.mode := Nat.not_le.mpr (Nat.lt_succ_of_le hm)
  simp [fallbackDue, ho, hh, h 5, h 6, h3]

/-- At the heading limit every mode from 2 to 8 falls back to mode 1. -/
theorem fallbackDue_of_limitHdg {c : CtrlCtx} {z : ControlState} (hl : 2 ≤ z.mode) (hu : z.mode ≤ 8) (hh : c.limitHdg = true) :
    ∃ cause, fallbackDue c z = some (1, cause, 11) := by
  by_cases ho : c.obsStatus = 0
  · exact ⟨3, if_pos ⟨ho, hl, hu⟩⟩
  · exact ⟨2, (if_neg fun k => ho k.1).trans (if_pos ⟨hh, hl, hu⟩)⟩

/-! ## The events as they act on their lane -/

theorem RefState.lostDue_of {r : RefRec} {z : RefState} (hm : z.mode = .qualifying ∨ z.mode = .accepted ∨ z.mode = .rejected)
    (ht : r.lostTime ≤ z.lostFrames) : z.lostDue r = true := by
  rcases hm with hm | hm | hm <;> simp [RefState.lostDue, hm, ht]

section
variable {s : State} {l : Lane}

theorem exec_sentenceReceived_spec {source : Nat} (bytes : Bytes) (arrival : Nat) (hi : (s.lane l).intake = true)
    (hf : (s.lane l).framed source 0 = true) :
    ∃ t, exec (.sentenceReceived l source bytes arrival) s = .next t ∧ t.lane l.other = s.lane l.other ∧
      t.lane l = (s.lane l).sentence source bytes arrival :=
  ⟨_, rfl, State.lane_onLane_other _ _ _, (State.lane_onLane _ _ _).trans (if_pos (Bool.and_eq_true_iff.mpr ⟨hi, hf⟩))⟩

theorem exec_referenceBinaryFrame_spec {source : Nat} (bytes : Bytes) (arrival : Nat) (hi : (s.lane l).intake = true)
    (hf : (s.lane l).framed source 1 = true) :
    ∃ t, exec (.referenceBinaryFrame l source bytes arrival) s = .next t ∧ t.lane l.other = s.lane l.other ∧
      t.lane l = (s.lane l).binaryFrame source bytes arrival :=
  ⟨_, rfl, State.lane_onLane_other _ _ _, (State.lane_onLane _ _ _).trans (if_pos (Bool.and_eq_true_iff.mpr ⟨hi, hf⟩))⟩

/-- A reference due to be lost is lost, with RF-001. -/
theorem exec_referenceLost_spec {n : Nat} {r : RefRec} (hr : (s.lane l).refRec n = some r)
    (hd : (nth default (s.lane l).refs.refs n).lostDue r = true) :
    ∃ t y, exec (.referenceLost l n) s = .next t ∧ t.lane l = LaneState.raise y ⟨.rf, 1⟩ n 0 ∧ y.refs = (s.lane l).refs.modRef n RefState.lose :=
  ⟨_, { s.lane l with refs := (s.lane l).refs.modRef n RefState.lose }, rfl, (State.lane_onLane _ _ _).trans (by rw [hr]; exact if_pos hd), rfl⟩

/-- A lane past a limit of its observer: not eligible, the code raised, before its mode falls back. -/
structure LaneState.Limited (x : LaneState) (o : ObserverState) (c : Code) (y : LaneState) : Prop where
  obs : y.obs = o
  eligible : y.eligible = false
  alarm : hasAlarm y.alarms c 0 = true
  ctrl : y.ctrl = x.ctrl

theorem LaneState.limited_raise (x : LaneState) (o : ObserverState) (c : Code) :
    x.Limited o c (({ x with obs := o, eligible := false } : LaneState).raise c 0 0) :=
  ⟨raise_obs _ _ _ _, raise_eligible _ _ _ _, hasAlarm_raise_self _ _ _ _, raise_ctrl _ _ _ _⟩

theorem exec_deadReckoningLimit_position (hd : (s.lane l).obs.drPos = true) (ht : 50 * (s.lane l).img.vmod.drLimitPos ≤ (s.lane l).obs.drPosT) :
    ∃ t y, exec (.deadReckoningLimit l false) s = .next t ∧ t.lane l = LaneState.fallBack y ∧
      (s.lane l).Limited { (s.lane l).obs with limitPos := true } ⟨.ob, 11⟩ y :=
  ⟨_, _, rfl, (State.lane_onLane _ _ _).trans ((if_neg nofun).trans (if_pos (And.intro hd ht))), LaneState.limited_raise _ _ _⟩

theorem exec_deadReckoningLimit_heading (hd : (s.lane l).obs.drHdg = true) (ht : 50 * (s.lane l).img.vmod.drLimitHdg ≤ (s.lane l).obs.drHdgT) :
    ∃ t y, exec (.deadReckoningLimit l true) s = .next t ∧ t.lane l = LaneState.fallBack y ∧
      (s.lane l).Limited { (s.lane l).obs with limitHdg := true } ⟨.ob, 13⟩ y :=
  ⟨_, _, rfl, (State.lane_onLane _ _ _).trans ((if_pos rfl).trans (if_pos (And.intro hd ht))), LaneState.limited_raise _ _ _⟩

end

namespace LaneState.Limited

variable {x y : LaneState} {o : ObserverState} {c : Code}

/-- The fallback leaves what the limit has set. -/
theorem fallBack_keeps (h : x.Limited o c y) (hc : ¬tableFull c 0) :
    y.fallBack.obs = o ∧ y.fallBack.eligible = false ∧ hasAlarm y.fallBack.alarms c 0 = true :=
  ⟨(y.fallBack_changes.keeps LaneState.obs).trans h.obs, (y.fallBack_changes.keeps LaneState.eligible).trans h.eligible,
    y.hasAlarm_fallBack hc h.alarm⟩

/-- Below mode 3 the control state stays at a limit that is not of the heading. -/
theorem fallBack_low (h : x.Limited o c y) (hm : x.ctrl.mode ≤ 2) (ho : o.status ≠ 0) (hh : o.limitHdg = false) : y.fallBack.ctrl = x.ctrl := by
  obtain ⟨rfl, -, -, hctrl⟩ := h
  rw [← hctrl] at hm
  exact (y.fallBack_ctrl_of_none (fallbackDue_of_low hm ho hh)).trans hctrl

/-- At the heading limit the joystick mode is entered. -/
theorem fallBack_heading (h : x.Limited o c y) (hl : 2 ≤ x.ctrl.mode) (hu : x.ctrl.mode ≤ 8) (hh : o.limitHdg = true) :
    y.fallBack.ctrl.mode = 1 := by
  obtain ⟨rfl, -, -, hctrl⟩ := h
  rw [← hctrl] at hl hu
  obtain ⟨cause, hd⟩ := fallbackDue_of_limitHdg (c := y.ctrlCtx) hl hu hh
  rw [y.fallBack_ctrl_of_some hd, ControlState.fallback_mode]

end LaneState.Limited

/-- Settles O44: what arrives is offered to each reference of the image in turn, and a reference has one record; the other events act where
they are due. That a sentence which is not whole counts at its port whatever its address says is log entry 70. -/
theorem referenceEvents : Obligations.ReferenceEvents := by
  refine ⟨?sentence, ?refused, ?frame, ?unframed, ?lost, ?position, ?heading, ?limitPos, ?limitHdg⟩
  case sentence =>
    intro s l source arrival bytes sen r v hi hf hroom hp hd hr ht hv hu hn hlen
    obtain ⟨hl, hg⟩ := LaneState.listed_of_takesSentence ht
    obtain ⟨y, hy, hrefs, he⟩ := (s.lane l).sentence_parsed arrival hroom hp hl hg
    obtain ⟨t, hx, ho, hlane⟩ := exec_sentenceReceived_spec bytes arrival hi hf
    refine ⟨t, hx, ho, ?_⟩
    rw [hlane, he]
    exact LaneState.offerSentence_waiting hy hd hr ht hv hu hn (hrefs ▸ hlen)
  case refused =>
    intro s l source arrival bytes hi hf hp hroom hs
    obtain ⟨-, hrefs, hport⟩ := (s.lane l).refs.receive_of_room hroom
    obtain ⟨hlen, href, hchars⟩ := hport hs
    obtain ⟨y, sen, hy, he⟩ := (s.lane l).sentence_refused arrival hroom hp
    obtain ⟨t, hx, ho, hlane⟩ := exec_sentenceReceived_spec bytes arrival hi hf
    refine ⟨t, hx, ho, ?_⟩
    obtain ⟨hkept, hcount, hsame⟩ := RefsState.refuseAt_spec _ hlen
    rw [hlane, he, y.offerSentence_ports, hy]
    refine ⟨hcount.trans (congrArg (· + 1) href), hsame.trans hchars, fun n => ?_⟩
    rw [y.offerSentence_refused_waiting, hy, hkept, hrefs]
  case frame =>
    intro s l source arrival bytes r v ok deg ms hi hf hroom hw hd hr ht hv hu hn hlen
    obtain ⟨y, hy, hrefs, he⟩ := (s.lane l).binaryFrame_whole arrival hroom hw
    obtain ⟨t, hx, ho, hlane⟩ := exec_referenceBinaryFrame_spec bytes arrival hi hf
    refine ⟨t, hx, ho, ?_⟩
    rw [hlane, he]
    rw [← hy.only.keeps LaneState.img] at hd hr
    rw [← hrefs] at hlen
    exact LaneState.foldl_offer_waiting hy (takes := (takesBinary · source bytes)) (v := (binaryValue · bytes)) hd hr ht hv hu hn hlen
  case unframed =>
    exact fun s l source arrival bytes => ⟨fun h => congrArg Host.Outcome.next (State.onLane_id (if_neg (by simp [h]))),
      fun h => congrArg Host.Outcome.next (State.onLane_id (if_neg (by simp [h])))⟩
  case lost =>
    intro s l n r hr hn hm ht
    obtain ⟨t, y, hx, hlane, hy⟩ := exec_referenceLost_spec hr (RefState.lostDue_of hm ht)
    refine ⟨t, hx, ?_⟩
    rw [hlane, LaneState.raise_refs, hy, RefsState.modRef, nth_modNth_self hn]
    exact ⟨rfl, rfl, rfl, fun k hk => nth_modNth_ne hk.symm, LaneState.hasAlarm_raise_self _ _ _ _⟩
  case position => exact fun s l h => congrArg Host.Outcome.next (State.onLane_congr (if_pos h))
  case heading => exact fun s l h => congrArg Host.Outcome.next (State.onLane_congr (if_pos h))
  case limitPos =>
    intro s l hd ht
    obtain ⟨t, y, hx, hlane, hy⟩ := exec_deadReckoningLimit_position hd ht
    obtain ⟨hobs, hel, ha⟩ := hy.fallBack_keeps (by simp [tableFull])
    refine ⟨t, hx, ?_⟩
    rw [hlane]
    exact ⟨hobs, hel, ha, hy.fallBack_low⟩
  case limitHdg =>
    intro s l hd ht
    obtain ⟨t, y, hx, hlane, hy⟩ := exec_deadReckoningLimit_heading hd ht
    obtain ⟨hobs, hel, ha⟩ := hy.fallBack_keeps (by simp [tableFull])
    refine ⟨t, hx, ?_⟩
    rw [hlane]
    exact ⟨hobs, hel, ha, fun hl hu => hy.fallBack_heading hl hu rfl⟩

end Sys2Proof.Machine

namespace Sys2Proof.Machine

/-!
SUPPORT and settled obligations: vessel control and the allocation of thrust, operator commands (O38) and events (O45).
-/

/-! ## Operator commands in a module in command (08 R233, R262) -/

/-- A control command in a module in command asks without a refusal where it gives no reason of its own. -/
theorem askCtrl_refuse {x : LaneState} (hc : x.inCommand = true) (object right : Nat) (old : Bytes) {reason : Nat} (hr : reason = 0) :
    (askCtrl x object right old reason).refuse = none := by
  rw [askCtrl, if_neg (by rw [hc]; exact nofun), if_pos hr]

/-- A logged control command that is not refused has its effect on the state in which the reply waits. -/
theorem State.command_askCtrl_accepts {s u : State} {l : Lane} {m : Msg} {object right reason : Nat} {old : Bytes} {effect : State → State}
    (hc : (s.lane l).inCommand = true) (hr : reason = 0) (hu : s.accepts l m object right 1 (some (old, none)) u) :
    s.command l m (askCtrl (s.lane l) object right old reason) effect = effect u :=
  State.command_accepts hu rfl (askCtrl_refuse hc object right old hr)

/-- An absolute setpoint of the present origin generation is taken in the modes 2, 3 and 4. -/
theorem setpointRefusal_absolute {x : LaneState} {gen : Nat} (hm : x.ctrl.mode = 2 ∨ x.ctrl.mode = 3 ∨ x.ctrl.mode = 4)
    (hg : gen = x.obs.originGen) (n e : Option Rat) : setpointRefusal x 0 gen n e = 0 := by
  have hmode : ¬(x.ctrl.mode = 0 ∨ x.ctrl.mode = 1 ∨ x.ctrl.mode = 5 ∨ x.ctrl.mode = 6) := by omega
  have h8 : x.ctrl.mode ≠ 8 := by omega
  simp [setpointRefusal, hg, hmode, h8]

/-- Settles O38: each command is accepted, and its effect runs on the state in which the reply waits. That a posted command is due from the
next frame is log entry 22; the joystick's deflection, which is no change, and the conditions of a commit are log entry 73. -/
theorem controlCommands : Obligations.ControlCommands := by
  unfold Obligations.ControlCommands
  intro s u l m hc
  refine ⟨fun mode hr hu => ?mode, fun gen x y h hm hg hu => ?setpoint, fun bank hb hu => ?bank, fun x y z seq hx hy hz hu => ?joystick,
    fun cn ce radius hr hu => ?footprint, fun hu => ?biasRelease, fun n point hn hlo hhi hu => ?trackPoint,
    fun n hlo hhi hw hf ho hu => ?trackCommit, fun x y hu => ?targetOffset⟩
  case mode => exact congrArg Host.Outcome.next (State.command_askCtrl_accepts hc hr hu)
  case setpoint => exact congrArg Host.Outcome.next (State.command_askCtrl_accepts hc (setpointRefusal_absolute hm hg x y) hu)
  case bank => exact congrArg Host.Outcome.next (State.command_askCtrl_accepts hc (if_pos hb) hu)
  case joystick =>
    refine congrArg Host.Outcome.next (State.command_accepts hu rfl (askCtrl_refuse hc 0x2204 1 [] (if_pos ?_)))
    simp [hx, hy, hz]
  case footprint => exact congrArg Host.Outcome.next (State.command_askCtrl_accepts hc (if_pos hr) hu)
  case biasRelease => exact congrArg Host.Outcome.next (State.command_askCtrl_accepts hc rfl hu)
  case trackPoint => exact congrArg Host.Outcome.next (State.command_askCtrl_accepts hc (if_pos ⟨hn, hlo, hhi⟩) hu)
  case trackCommit =>
    have hall : ((s.lane l).ctrl.edit.take n).all (·.isSome) = true := List.all_eq_true.mpr hw
    refine congrArg Host.Outcome.next (State.command_askCtrl_accepts hc ?_ hu)
    simp only [hlo, hhi, hall, hf, ho, decide_true, Bool.and_self, Bool.not_true, Bool.or_self, Bool.false_eq_true, if_false]
  case targetOffset => exact congrArg Host.Outcome.next (State.command_askCtrl_accepts hc rfl hu)

/-! ## The events of joystick, track and target (08 R245, R246, R253) -/

/-- A fallback for the track or the target holds the desired pose. -/
theorem ControlState.fallback_holds (c : CtrlCtx) (z : ControlState) (k : Nat) {cause : Nat} (h : cause = 4 ∨ cause = 5 ∨ cause = 6) :
    z.fallback c k cause = { z.enter c k with fallbackCause := cause, target := z.xd } :=
  (if_neg (by omega)).trans (if_pos h)

/-- While the observer runs inside its limits, a cross-track error that lasts is the fallback due. -/
theorem fallbackDue_of_crossTrack {c : CtrlCtx} {z : ControlState} (hm : z.mode = 5) (hx : 500 ≤ z.xteRun) (ho : c.obsStatus ≠ 0)
    (hp : c.limitPos = false) (hh : c.limitHdg = false) : fallbackDue c z = some (3, 4, 33) := by
  simp [fallbackDue, hm, hx, ho, hp, hh]

/-- While the observer runs inside its limits, a target lost for its time is the fallback due. -/
theorem fallbackDue_of_targetLost {c : CtrlCtx} {z : ControlState} (hm : z.mode = 6) (hx : c.mode.targetLostTime ≤ z.tracker.lostFrames)
    (ho : c.obsStatus ≠ 0) (hp : c.limitPos = false) (hh : c.limitHdg = false) : fallbackDue c z = some (3, 5, 34) := by
  simp [fallbackDue, hm, hx, ho, hp, hh]

/-- The fallback that is due raises its code. -/
theorem LaneState.hasAlarm_fallBack_of_some {x : LaneState} {k cause code : Nat} (h : fallbackDue x.ctrlCtx x.ctrl = some (k, cause, code)) :
    hasAlarm x.fallBack.alarms ⟨.vc, code⟩ 0 = true := by
  delta fallBack
  rw [h]
  exact hasAlarm_raise_self _ _ _ _

section
variable {s : State} {l : Lane}

/-- A joystick past its time-out no longer commands. -/
theorem exec_joystickTimeout_spec {a : Nat} (ha : (s.lane l).ctrl.stickAge = some a) (ht : (s.lane l).img.mode.joystickTimeout ≤ a) :
    ∃ t y, exec (.joystickTimeout l) s = .next t ∧ y = { s.lane l with ctrl := { (s.lane l).ctrl with stick := V3.zero, stickAge := none } } ∧
      t.lane l = if (s.lane l).img.mode.joystickSource = 0 ∧ ((s.lane l).ctrl.mode = 1 ∨ (s.lane l).ctrl.mode = 2)
        then LaneState.raise y ⟨.vc, 10⟩ 0 0 else y := by
  refine ⟨_, _, rfl, rfl, (State.lane_onLane _ _ _).trans ?_⟩
  rw [ha]
  exact if_pos ht

/-- A target lost for its time is no longer valid, and following it falls back. -/
theorem exec_targetLost_spec (hl : (s.lane l).img.mode.targetLostTime ≤ (s.lane l).ctrl.tracker.lostFrames) :
    ∃ t y, exec (.targetLost l) s = .next t ∧
      y = { s.lane l with ctrl := { (s.lane l).ctrl with tracker := { (s.lane l).ctrl.tracker with valid := false } } } ∧
      t.lane l = if (s.lane l).ctrl.mode = 6 then LaneState.fallBack y else y :=
  ⟨_, _, rfl, rfl, (State.lane_onLane _ _ _).trans (if_pos (.inl hl))⟩

end

/-! ## The allocation engine (09 R278, R280) -/

/-- A start of an idle engine loads the problem block and its duals, all 0 where the block resets them. -/
theorem Engine.start_idle {e : Engine} (h : e.run = none) (p : Problem) :
    ∃ duals, e.start p = { e with state := 1, ready := false, resetAct := 0, resetPow := 0, run := some (p, duals) } ∧
      (p.flags.testBit 0 = true → ∀ v ∈ duals, v = 0) := by
  refine ⟨_, if_neg (by rw [h]; exact nofun), fun hf v hv => ?_⟩
  obtain ⟨i, hi, rfl⟩ := List.mem_mapIdx.mp hv
  exact if_pos hf

/-- The end of a run, whether its values stay finite or not. -/
theorem AllocState.runComplete_spec {s : AllocState} {p : Problem} {duals : List Rat} (h : s.eng.run = some (p, duals)) (fresh : Nat)
    (damaged : Bool) :
    let t := s.runComplete fresh damaged
    (t.eng.state = 0 ∧ t.eng.ready = true ∧ t.eng.run = none ∧ t.eng.lastCycles = 250000 ∧ t.result.seq = p.seq ∧ t.result.store = p.store ∧
      t.result.crcOk = !damaged ∧ (p.crcOk = false → t.result.flags = 4 ∧ t.eng.stores = s.eng.stores)) ∧
    t.acts = s.acts ∧ t.problem = s.problem := by
  delta runComplete
  rw [h]
  dsimp only
  cases p.crcOk with
  | false => exact ⟨⟨rfl, rfl, rfl, rfl, rfl, rfl, rfl, fun _ => ⟨rfl, rfl⟩⟩, rfl, rfl⟩
  | true => cases engineSolve p duals <;> exact ⟨⟨rfl, rfl, rfl, rfl, rfl, rfl, rfl, nofun⟩, rfl, rfl⟩

/-! ## Actuators (09 R270, R275) -/

namespace AllocState

variable {s : AllocState} {n : Nat} {f : Act → Act}

theorem act_modAct_self (h : n < s.acts.length) : (s.modAct n f).act n = f (s.act n) := nth_modNth_self h

theorem act_modAct_ne {k : Nat} (h : k ≠ n) : (s.modAct n f).act k = s.act k := nth_modNth_ne h.symm

end AllocState

@[simp] theorem LaneState.withAlloc_alloc (x : LaneState) (r : AllocState × List AlarmOp) : (x.withAlloc r).alloc = r.1 := codes_alloc _ _

/-- An actuator other than an azimuth thruster takes no arc. -/
theorem Act.takeArc_of_kind {t : Thru} (h : t.kind ≠ 1) (a : Act) : a.takeArc t = (a, []) := if_pos (.inl h)

/-- What may come of taking an arc: the cause stays, and the mode stays or a transit begins with AL-011. -/
def Act.ArcTaken (t : Thru) (a : Act) (r : Act × List AlarmOp) : Prop :=
  r.1.cause = a.cause ∧ (r.1.mode = a.mode ∧ r.2 = [] ∨ r.1.mode = .ramp ∧ r.2 = [.raise ⟨.al, 11⟩ t.actuator 0])

theorem Act.takeArc_spec (t : Thru) (a : Act) : a.ArcTaken t (a.takeArc t) := by
  have stays : a.ArcTaken t (a, []) := ⟨rfl, .inl ⟨rfl, rfl⟩⟩
  refine iteInduction (fun _ => stays) fun _ => iteInduction (fun _ => stays) fun _ => ?_
  cases bestArc t.candidates (wrap360 (a.azimuth + t.mount)) with
  | some k => exact ⟨rfl, .inl ⟨rfl, rfl⟩⟩
  | none =>
    cases (if a.mode = .allocated then nearestArc t.candidates (wrap360 (a.azimuth + t.mount)) else none) with
    | some k => exact ⟨rfl, .inr ⟨rfl, rfl⟩⟩
    | none => exact stays

/-- An actuator that enters again, before it takes an arc. -/
def Act.cleared (a : Act) : Act :=
  { a with mode := if a.exclusion then .excluded else .allocated, cause := 0, clearRun := 0, f0 := a.measured }

/-- An actuator that enters again, with the codes of the transit that its arc may ask for. -/
def Act.reentered (t : Thru) (a : Act) : Act × List AlarmOp := if a.exclusion then (a.cleared, []) else a.cleared.takeArc t

/-- An actuator whose causes have been clear for 50 motion cycles enters again. -/
theorem AllocState.reenter_of_clear {s : AllocState} {t : Thru} (hm : (s.act t.actuator).mode = .unavailable)
    (hr : 50 ≤ (s.act t.actuator).clearRun) :
    s.reenter t = (s.modAct t.actuator fun _ => ((s.act t.actuator).reentered t).1,
      [.clear ⟨.al, 1⟩ t.actuator, .clear ⟨.al, 12⟩ t.actuator] ++ ((s.act t.actuator).reentered t).2) :=
  if_pos ⟨hm, hr⟩

/-- An actuator that enters again has no cause; it is excluded where it is to be, else allocated or on its way into a sector. -/
structure Act.Reentered (t : Thru) (a : Act) (r : Act × List AlarmOp) : Prop where
  cause : r.1.cause = 0
  mode : r.1.mode ≠ .unavailable
  excluded : a.exclusion = true → r.1.mode = .excluded
  allocated : a.exclusion = false → t.kind ≠ 1 → r.1.mode = .allocated
  codes : r.2 = [] ∨ r.2 = [.raise ⟨.al, 11⟩ t.actuator 0]

theorem Act.reentered_spec (t : Thru) (a : Act) : a.Reentered t (a.reentered t) := by
  by_cases he : a.exclusion = true
  · have hmode : a.cleared.mode = .excluded := if_pos he
    have hr : a.reentered t = (a.cleared, []) := if_pos he
    rw [hr]
    exact ⟨rfl, by rw [hmode]; exact nofun, fun _ => hmode, fun h => absurd (he.symm.trans h) nofun, .inl rfl⟩
  · have hmode : a.cleared.mode = .allocated := if_neg he
    have hr : a.reentered t = a.cleared.takeArc t := if_neg he
    have hall (h : t.kind ≠ 1) : (a.cleared.takeArc t).1.mode = .allocated := (congrArg (·.1.mode) (takeArc_of_kind h a.cleared)).trans hmode
    obtain ⟨hcause, h⟩ := takeArc_spec t a.cleared
    rw [hr]
    rcases h with ⟨hm, hops⟩ | ⟨hm, hops⟩
    · exact ⟨hcause, by rw [hm, hmode]; exact nofun, fun h => absurd h he, fun _ => hall, .inl hops⟩
    · exact ⟨hcause, by rw [hm]; exact nofun, fun h => absurd h he, fun _ => hall, .inr hops⟩

/-- A transit past its limit makes the actuator unavailable with cause 5. -/
theorem AllocState.transitTimeout_of {s : AllocState} {limit n : Nat} (hm : (s.act n).mode = .ramp ∨ (s.act n).mode = .turn)
    (ht : 1000 * limit < (s.act n).transit) :
    s.transitTimeout limit n =
      (s.modAct n fun a => { a with mode := .unavailable, cause := 5, clearRun := 0, goal := none, transit := 0, turn := 0 },
        [.raise ⟨.al, 12⟩ n 0, .clear ⟨.al, 11⟩ n, .hold ⟨.al, 1⟩ n 5]) :=
  if_pos ⟨hm, ht⟩

/-- The codes of a lane after a step of its allocation, LA-010 apart. -/
theorem LaneState.hasAlarm_withAlloc (x : LaneState) (r : AllocState × List AlarmOp) {c : Code} {i : Nat} (h : ¬tableFull c i) :
    hasAlarm (x.withAlloc r).alarms c i = r.2.foldl (fun b op => op.leaves b c i) (hasAlarm x.alarms c i) :=
  LaneState.hasAlarm_codes _ _ _ _ h

/-- The entry of an actuator names it. -/
theorem LaneState.actuator_of_thru? {x : LaneState} {n : Nat} {r : Thru} (h : x.thru? n = some r) : r.actuator = n := by
  simpa using List.find?_some h

/-- A configured actuator due to enter again enters, and its AL-001 ends. -/
theorem exec_actuatorReentry_spec {s : State} {l : Lane} {n : Nat} {r : Thru} (hr : (s.lane l).thru? n = some r)
    (hm : ((s.lane l).alloc.act n).mode = .unavailable) (hc : 50 ≤ ((s.lane l).alloc.act n).clearRun) :
    ∃ t, exec (.actuatorReentry l n) s = .next t ∧
      (t.lane l).alloc = (s.lane l).alloc.modAct n (fun _ => (((s.lane l).alloc.act n).reentered r).1) ∧
      hasAlarm (t.lane l).alarms ⟨.al, 1⟩ n = false := by
  have hlane : ∃ t, exec (.actuatorReentry l n) s = .next t ∧ t.lane l = (s.lane l).withAlloc ((s.lane l).alloc.reenter r) :=
    ⟨_, rfl, (State.lane_onLane _ _ _).trans (by rw [hr])⟩
  obtain ⟨t, he, hlane⟩ := hlane
  obtain rfl := LaneState.actuator_of_thru? hr
  rw [AllocState.reenter_of_clear hm hc] at hlane
  refine ⟨t, he, ?_, ?_⟩ <;> rw [hlane]
  · exact LaneState.withAlloc_alloc _ _
  · rw [LaneState.hasAlarm_withAlloc _ _ (by simp [tableFull])]
    rcases (Act.reentered_spec r ((s.lane l).alloc.act r.actuator)).codes with hops | hops <;> simp [hops, AlarmOp.leaves]

/-- Settles O45, event by event. That a duration acts once it has passed is log entry 21, the setpoint after a fallback log entry 75, the
open values of a run log entry 8. -/
theorem controlAndAllocationEvents : Obligations.ControlAndAllocationEvents := by
  refine ⟨?joystick, ?crossTrack, ?target, ?start, ?refused, ?complete, ?reentry, ?transit⟩
  case joystick =>
    intro s l a ha ht
    obtain ⟨t, y, he, rfl, hlane⟩ := exec_joystickTimeout_spec ha ht
    refine ⟨t, he, ?_, fun hs hm => ?_⟩ <;> rw [hlane]
    · exact iteInduction (motive := fun z : LaneState => z.ctrl = _) (fun _ => LaneState.raise_ctrl _ _ _ _) fun _ => rfl
    · rw [if_pos ⟨hs, hm⟩]
      exact LaneState.hasAlarm_raise_self _ _ _ _
  case crossTrack =>
    intro s l hm hx ho hp hh
    have hdue := fallbackDue_of_crossTrack (c := (s.lane l).ctrlCtx) hm hx ho hp hh
    refine ⟨_, rfl, ?_⟩
    rw [State.lane_onLane, if_pos ⟨hm, hx⟩, LaneState.fallBack_ctrl_of_some _ hdue, ControlState.fallback_holds _ _ _ (.inl rfl)]
    exact ⟨rfl, rfl, rfl, LaneState.hasAlarm_fallBack_of_some hdue⟩
  case target =>
    intro s l hl ho hp hh
    obtain ⟨t, y, he, hy, hlane⟩ := exec_targetLost_spec hl
    refine ⟨t, he, ?_⟩
    rw [hlane]
    by_cases hm : (s.lane l).ctrl.mode = 6
    · have hdue : fallbackDue y.ctrlCtx y.ctrl = some (3, 5, 34) := by
        subst hy
        exact fallbackDue_of_targetLost hm hl ho hp hh
      rw [if_pos hm, LaneState.fallBack_ctrl_of_some _ hdue, ControlState.fallback_holds _ _ _ (.inr (.inl rfl)), hy]
      exact ⟨rfl, fun _ => ⟨rfl, rfl, hy ▸ LaneState.hasAlarm_fallBack_of_some hdue⟩, fun h => absurd hm h⟩
    · rw [if_neg hm, hy]
      exact ⟨rfl, fun h => absurd h hm, fun _ => rfl⟩
  case start =>
    intro s l value hn
    obtain ⟨duals, he, hz⟩ := Engine.start_idle hn (s.lane l).alloc.problem
    refine ⟨_, duals, rfl, ?_, hz⟩
    rw [State.lane_onLane, he]
  case refused =>
    intro s l value hr
    exact congrArg Host.Outcome.next (State.onLane_congr (by rw [Engine.start, if_pos hr]))
  case complete =>
    intro s l damaged p duals hr
    refine ⟨_, rfl, ?_⟩
    rw [State.lane_onLane, State.lane_tick]
    exact AllocState.runComplete_spec hr s.fresh damaged
  case reentry =>
    intro s l n r hr hn hm hc
    obtain ⟨t, he, halloc, halarm⟩ := exec_actuatorReentry_spec hr hm hc
    have ha := Act.reentered_spec r ((s.lane l).alloc.act n)
    refine ⟨t, he, ?_⟩
    rw [halloc, AllocState.act_modAct_self hn]
    exact ⟨ha.cause, ha.mode, ha.excluded, ha.allocated, fun k hk => AllocState.act_modAct_ne hk, halarm⟩
  case transit =>
    intro s l n hn hm ht
    refine ⟨_, rfl, ?_⟩
    rw [State.lane_onLane, AllocState.transitTimeout_of hm ht, LaneState.withAlloc_alloc, AllocState.act_modAct_self hn,
      LaneState.hasAlarm_withAlloc _ _ (by simp [tableFull]), LaneState.hasAlarm_withAlloc _ _ (by simp [tableFull])]
    exact ⟨rfl, rfl, fun k hk => AllocState.act_modAct_ne hk, by simp [AlarmOp.leaves], by simp [AlarmOp.leaves]⟩

end Sys2Proof.Machine

namespace Sys2Proof.Machine

/-!
SUPPORT and settled obligations: exclusion of actuators and reset of latches (O41), registers at reset (O2).
-/

/-! ## Exclusion of an actuator (09 R271) -/

namespace AllocState

variable {s : AllocState} {i : Nat} (c : AllocCtx)

/-- alloc.exclude leaves every other actuator. -/
theorem exclude_act_ne (on : Bool) {j : Nat} (hj : j ≠ i) : (s.exclude c i on).1.act j = s.act j := act_modAct_ne hj

/-- An exclusion sets its flag; it takes a working actuator out, with no arc left to turn to, and any other keeps its mode. -/
theorem exclude_on (hi : i < s.acts.length) :
    let a := (s.exclude c i true).1.act i
    a.exclusion = true ∧ ((s.act i).working = true → a.mode = .excluded ∧ a.goal = none) ∧
    ((s.act i).working = false → a.mode = (s.act i).mode) := by
  have hact : (s.exclude c i true).1.act i = _ := act_modAct_self hi
  rw [hact]
  exact ⟨rfl, fun hw => ⟨if_pos hw, if_pos hw⟩, fun hw => if_neg (by rw [hw]; exact nofun)⟩

/-- The end of an exclusion clears its flag; it lets the actuator in again, or leaves it unavailable where a cause holds. -/
theorem exclude_off (hi : i < s.acts.length) :
    let a := (s.exclude c i false).1.act i
    a.exclusion = false ∧ a.mode ≠ .excluded := by
  have hact : (s.exclude c i false).1.act i = _ := act_modAct_self hi
  rw [hact, if_neg Bool.false_ne_true]
  by_cases hm : (s.act i).mode = .excluded
  · rw [if_pos hm]
    exact iteInduction (motive := fun a : Act => a.exclusion = false ∧ a.mode ≠ .excluded) (fun _ => ⟨rfl, nofun⟩) fun _ => ⟨rfl, nofun⟩
  · rw [if_neg hm]
    exact ⟨rfl, hm⟩

end AllocState

/-- An exclusion or its end that is not refused acts on the allocation of its lane, and AL-002 is active as it says. -/
theorem exec_allocExclude_spec {s u : State} {l : Lane} {m : Msg} {i : Nat} {on : Bool} (hr : ((s.lane l).thru? i).isSome = true)
    (hx : on = true → excludeRefused (s.lane l).allocCtx (s.lane l).alloc i = false)
    (hu : s.accepts l m 0x3010 1 1 (some ([BitVec.ofNat 8 i, BitVec.ofNat 8 (b2n ((s.lane l).alloc.act i).exclusion)], none)) u) :
    ∃ t, exec (.allocExclude l m i on) s = .next t ∧ (t.lane l).alloc = ((s.lane l).alloc.exclude (s.lane l).allocCtx i on).1 ∧
      hasAlarm (t.lane l).alarms ⟨.al, 2⟩ i = on ∧ t.lane l.other = s.lane l.other := by
  have hnone : ¬((s.lane l).thru? i).isNone = true := by simpa [Option.isSome_iff_ne_none] using hr
  have hopen : ¬(on && excludeRefused (s.lane l).allocCtx (s.lane l).alloc i) = true := by simpa using hx
  refine ⟨_, congrArg Host.Outcome.next (State.command_accepts hu rfl ((if_neg hnone).trans (if_neg hopen))), ?_⟩
  obtain ⟨ses, g, rfl⟩ := State.accepts_eq hu
  rw [State.lane_onLane, State.lane_setLane, State.lane_onLane_other, State.lane_setLane_other, LaneState.withAlloc_alloc,
    LaneState.hasAlarm_withAlloc _ _ (by simp [tableFull])]
  refine ⟨rfl, ?_, rfl⟩
  cases on <;> simp [AllocState.exclude, AlarmOp.leaves]

/-! ## Reset of a latch (10 R323) -/

/-- A latch of the following error that is not done, where no time ends it, waits for loop.reset. -/
theorem AxisSlot.pendingLatch_of {r : AxisRec} {a : AxisSlot} (hc : hasCause a.causes 3 = true) (hl : r.feLatch = 0)
    (hd : a.latchDone = false) : a.pendingLatch r = true := by simp [pendingLatch, hc, hl, hd]

/-- loop.reset ends a pending latch. -/
theorem LoopState.reset_of_pending {s : LoopState} {r : AxisRec} (h : (nth default s.axes r.axis).pendingLatch r = true) :
    s.reset r = ({ s with axes := s.axes.set r.axis { nth default s.axes r.axis with latchDone := true } }, [.clear ⟨.lp, 30⟩ r.axis]) :=
  if_pos h

/-- The next command of a drive carries the fault-reset bit (12 R372). -/
def LaneState.markFaultReset (x : LaneState) (drive : Nat) : LaneState :=
  { x with can := { x.can with faultReset := x.can.faultReset.insert drive } }

/-- The lane after a loop.reset that found a pending latch of an axis. -/
def LaneState.latchReset (x : LaneState) (r : AxisRec) : LaneState := (x.withLoop (x.loop.reset r)).markFaultReset r.actuator

theorem LaneState.latchReset_spec {x : LaneState} {r : AxisRec} (hn : r.axis < x.loop.axes.length)
    (hp : (nth default x.loop.axes r.axis).pendingLatch r = true) :
    (nth default (x.latchReset r).loop.axes r.axis).latchDone = true ∧ r.actuator ∈ (x.latchReset r).can.faultReset ∧
    hasAlarm (x.latchReset r).alarms ⟨.lp, 30⟩ r.axis = false := by
  have hloop : (x.latchReset r).loop = (x.loop.reset r).1 := codes_loop _ _
  have halarms : (x.latchReset r).alarms = (({ x with loop := (x.loop.reset r).1 } : LaneState).codes (x.loop.reset r).2).alarms := rfl
  rw [hloop, halarms, LoopState.reset_of_pending hp, nth_set_self _ _ _ _ hn]
  exact ⟨rfl, List.mem_insert_self, hasAlarm_clear_self _ _ _⟩

/-- loop.reset of a configured axis with a pending latch is accepted, and its effect runs on the state in which the reply waits. -/
theorem exec_loopReset_of_pending {s u : State} {l : Lane} {m : Msg} {n : Nat} {r : AxisRec}
    (hr : ((s.lane l).img.axes.find? fun r => r.axis == n) = some r) (hp : (nth default (s.lane l).loop.axes n).pendingLatch r = true)
    (hu : s.accepts l m 0x3410 (if m.port == 1 then 0x400 else 1) (if m.port == 1 then 2 else 1) (some ([BitVec.ofNat 8 n], none)) u) :
    exec (.loopReset l m n) s = .next (u.onLane l fun x => x.latchReset r) := by
  have hask : (if ((s.lane l).img.axes.find? fun a => a.axis == n).isNone = true then some (stRefused, 1) else none) = none := by
    rw [hr]
    rfl
  have himg : (u.lane l).img = (s.lane l).img := by
    obtain ⟨ses, g, rfl⟩ := State.accepts_eq hu
    rw [State.lane_setLane]
    rfl
  refine congrArg Host.Outcome.next ((State.command_accepts hu rfl hask).trans ?_)
  rw [hr]
  dsimp only
  rw [if_pos hp]
  dsimp only
  rw [State.onAxis, State.onLane_onLane]
  refine State.onLane_congr (congrArg (LaneState.markFaultReset · r.actuator) ?_)
  rw [himg, hr]

/-- Settles O41: each command is accepted, and its effect runs on the state in which the reply waits. That an exclusion takes effect when it
is accepted, one that comes during a turn at the turn's end, is log entry 76. -/
theorem exclusionAndLoopReset : Obligations.ExclusionAndLoopReset := by
  refine ⟨fun s u l m i hr hi hx hu => ?exclusion, fun s u l m i hr hi hu => ?inclusion, fun s u l m n r hr hn hc hf hd hu => ?reset⟩
  case exclusion =>
    obtain ⟨t, he, halloc, halarm, hother⟩ := exec_allocExclude_spec hr (fun _ => hx) hu
    obtain ⟨hflag, hworks, hidle⟩ := AllocState.exclude_on (s.lane l).allocCtx hi
    refine ⟨t, he, ?_⟩
    rw [halloc]
    exact ⟨hflag, hworks, hidle, fun j hj => AllocState.exclude_act_ne _ _ hj, halarm, hother⟩
  case inclusion =>
    obtain ⟨t, he, halloc, halarm, hother⟩ := exec_allocExclude_spec (on := false) hr nofun hu
    obtain ⟨hflag, hmode⟩ := AllocState.exclude_off (s.lane l).allocCtx hi
    refine ⟨t, he, ?_⟩
    rw [halloc]
    exact ⟨hflag, hmode, fun j hj => AllocState.exclude_act_ne _ _ hj, halarm, hother⟩
  case reset =>
    obtain rfl : r.axis = n := by simpa using List.find?_some hr
    have hp := AxisSlot.pendingLatch_of hc hf hd
    refine ⟨_, exec_loopReset_of_pending hr hp hu, ?_⟩
    obtain ⟨ses, g, rfl⟩ := State.accepts_eq hu
    rw [State.lane_onLane, State.lane_onLane_other, State.lane_setLane, State.lane_setLane_other]
    obtain ⟨hdone, hcan, halarm⟩ := LaneState.latchReset_spec (x := { s.lane l with ses := ses, ledger := g }) hn hp
    exact ⟨hdone, hcan, halarm, rfl⟩

/-! ## Registers at reset (09 R278; 11 R350; 12 R380; 15 R441, R442, R451) -/

/-- At reset both lanes are blank. -/
theorem State.lane_reset (l : Lane) : State.reset.lane l = LaneState.reset := by cases l <;> rfl

/-- Without an FBCH entry every feedback channel is blank. -/
theorem initChans_nil (otherRuns : Bool) : initChans [] otherRuns = List.replicate 24 FbChan.blank := rfl

/-- Without a CANB entry every controller is disabled, its three transmit buffers empty. -/
theorem initCan_nil_buses :
    (initCan []).buses = List.replicate 4 { (default : Bus) with bufs := List.replicate 3 default } := rfl

/-- Settles O2: each part of a lane at reset is a blank one, or so many copies of one. That a value without a reset value of its own is zero,
off or false is log entry 1. -/
theorem resetRegisters : Obligations.ResetRegisters := by
  intro l
  rw [State.lane_reset]
  refine ⟨?clock, ⟨rfl, fun u hu => ?stamp⟩, ⟨rfl, fun g hg => ?pulse⟩, ?engine, ⟨rfl, fun b hb => ?bus⟩, ⟨rfl, fun f hf => ?channel⟩, rfl, rfl, rfl⟩
  case clock => exact ⟨rfl, rfl, rfl, rfl, rfl, rfl, rfl, rfl, rfl, rfl, rfl, rfl, rfl⟩
  case stamp =>
    obtain rfl := List.eq_of_mem_replicate hu
    exact ⟨rfl, rfl, rfl, rfl⟩
  case pulse =>
    obtain rfl : g = default := List.eq_of_mem_replicate (n := 2) hg
    exact ⟨rfl, rfl, rfl, rfl, rfl, rfl, rfl, rfl, rfl, rfl⟩
  case engine => exact ⟨rfl, rfl, rfl, rfl, rfl, rfl⟩
  case bus =>
    replace hb : b ∈ (initCan []).buses := hb
    rw [initCan_nil_buses] at hb
    obtain rfl := List.eq_of_mem_replicate hb
    refine ⟨rfl, rfl, rfl, rfl, rfl, rfl, rfl, rfl, fun t ht => ?_⟩
    obtain rfl := List.eq_of_mem_replicate ht
    rfl
  case channel =>
    replace hf : f ∈ initChans [] false := hf
    rw [initChans_nil] at hf
    obtain rfl := List.eq_of_mem_replicate hf
    exact ⟨rfl, rfl, rfl, rfl⟩

end Sys2Proof.Machine

namespace Sys2Proof.Machine

/-!
SUPPORT and settled obligation of the loop engine (10 R311 to R324): its events (O46).
-/

/-! ## Causes of SAFE (10 R316) -/

theorem addCause_zero (k : Nat) : addCause 0 k = 2 ^ k := by simp [addCause]

/-- A cause added to a set is in it. -/
theorem hasCause_addCause_self (set k : Nat) : hasCause (addCause set k) k = true := by
  by_cases h : set.testBit k = true
  · simp [hasCause, addCause, h]
  · simp [hasCause, addCause, h, Nat.add_comm set, Nat.testBit_two_pow_add_eq]

namespace AxisSlot

variable {a : AxisSlot}

/-- A cause that arises in RUN or RELEASE enters SAFE with that cause alone, at the output of the moment. -/
theorem trip_of_running (k : Nat) (h : a.mode = .run ∨ a.mode = .release) :
    (a.trip k).mode = .safe ∧ (a.trip k).causes = 2 ^ k ∧ (a.trip k).out = a.out := by
  rcases h with h | h <;> simp [trip, h, addCause_zero]

/-- A cause that arises in SAFE joins the set. -/
theorem trip_of_safe (k : Nat) (h : a.mode = .safe) : (a.trip k).mode = .safe ∧ hasCause (a.trip k).causes k = true := by
  simp [trip, h, hasCause_addCause_self]

/-- The slot after its following-error fault (10 R311): cause 3, a latch of fe_latch seconds of frames; the parking it loses is noted. -/
def errorFault (a : AxisSlot) (r : AxisRec) : AxisSlot :=
  { a.trip 3 with parkLost := (a.trip 3).parkLost || a.parking r, latchLeft := 1000 * r.feLatch, latchDone := false, feRun := 0 }

/-- The slot after its feedback has frozen (10 R312): cause 2, at the count at which the run began. -/
def freezeFault (a : AxisSlot) : AxisSlot := { a.trip 2 with frozenAt := a.freezeBase, moved := false, freezeRun := 0 }

end AxisSlot

/-! ## Faults of a ripe axis (10 R311, R312, R317) -/

namespace LoopState

variable {s : LoopState} {r : AxisRec}

theorem followingError_of_ripe (h : 8 * r.feTime ≤ (nth default s.axes r.axis).feRun) :
    s.followingError r =
      ({ s with axes := s.axes.set r.axis ((nth default s.axes r.axis).errorFault r) }, [.raise ⟨.lp, 1⟩ r.axis 0]) := if_pos h

theorem freeze_of_ripe (h : 8 * r.freezeTime ≤ (nth default s.axes r.axis).freezeRun) :
    s.freeze r =
      ({ s with axes := s.axes.set r.axis (nth default s.axes r.axis).freezeFault }, [.raise ⟨.fb, 12⟩ r.channel 0]) := if_pos h

theorem latchExpiry_of_ripe
    (h : hasCause (nth default s.axes r.axis).causes 3 = true ∧ r.feLatch ≠ 0 ∧ (nth default s.axes r.axis).latchLeft = 0) :
    s.latchExpiry r = { s with axes := s.axes.set r.axis { nth default s.axes r.axis with latchDone := true } } := if_pos h

end LoopState

/-! ## One axis of a lane -/

@[simp] theorem LaneState.axis_setAxis_self (x : LaneState) {n : Nat} (h : n < x.loop.axes.length) (a : AxisSlot) :
    (x.setAxis n a).axis n = a := nth_set_self _ _ _ _ h

theorem LaneState.axis_setAxis_ne (x : LaneState) {n k : Nat} (h : k ≠ n) (a : AxisSlot) : (x.setAxis n a).axis k = x.axis k :=
  nth_set_ne _ _ _ _ _ h.symm

@[simp] theorem LaneState.axis_raise (x : LaneState) (c : Code) (i k n : Nat) : (x.raise c i k).axis n = x.axis n := by simp [LaneState.axis]

/-- An event of a configured axis acts on the loop engine under the axis's record. -/
theorem State.onAxis_of_rec {s : State} {l : Lane} {n : Nat} {r : AxisRec} (f : LoopState → AxisRec → LoopState × List AlarmOp)
    (hr : ((s.lane l).img.axes.find? fun r => r.axis == n) = some r) : s.onAxis l n f = s.onLane l fun x => x.withLoop (f x.loop r) :=
  State.onLane_congr (by rw [hr])

/-- A slot replaced and a code raised: the code is active, and no other slot has changed. -/
theorem State.onLane_setAxis_raise_spec {s : State} {l : Lane} {n : Nat} (hn : n < (s.lane l).loop.axes.length) (a : AxisSlot)
    (c : Code) (i k : Nat) :
    let y := (s.onLane l fun x => (x.setAxis n a).raise c i k).lane l
    hasAlarm y.alarms c i = true ∧ (∀ j, j ≠ n → y.axis j = (s.lane l).axis j) ∧ y.axis n = a := by
  rw [State.lane_onLane]
  refine ⟨LaneState.hasAlarm_raise_self _ _ _ _, fun j hj => ?_, ?_⟩
  · rw [LaneState.axis_raise, LaneState.axis_setAxis_ne _ hj]
  · rw [LaneState.axis_raise, LaneState.axis_setAxis_self _ hn]

section

variable {s : State} {l : Lane} {n : Nat} {r : AxisRec} (hr : ((s.lane l).img.axes.find? fun r => r.axis == n) = some r)
include hr

theorem exec_followingErrorFault_of_ripe (h : 8 * r.feTime ≤ ((s.lane l).axis n).feRun) :
    exec (.followingErrorFault l n) s =
      .next (s.onLane l fun x => (x.setAxis n (((s.lane l).axis n).errorFault r)).raise ⟨.lp, 1⟩ n 0) := by
  obtain rfl : r.axis = n := by simpa using List.find?_some hr
  refine congrArg Host.Outcome.next ((State.onAxis_of_rec _ hr).trans (State.onLane_congr ?_))
  rw [LoopState.followingError_of_ripe h]
  rfl

theorem exec_feedbackFreeze_of_ripe (h : 8 * r.freezeTime ≤ ((s.lane l).axis n).freezeRun) :
    exec (.feedbackFreeze l n) s =
      .next (s.onLane l fun x => (x.setAxis n ((s.lane l).axis n).freezeFault).raise ⟨.fb, 12⟩ r.channel 0) := by
  obtain rfl : r.axis = n := by simpa using List.find?_some hr
  refine congrArg Host.Outcome.next ((State.onAxis_of_rec _ hr).trans (State.onLane_congr ?_))
  rw [LoopState.freeze_of_ripe h]
  rfl

theorem exec_feLatchExpiry_of_ripe
    (h : hasCause ((s.lane l).axis n).causes 3 = true ∧ r.feLatch ≠ 0 ∧ ((s.lane l).axis n).latchLeft = 0) :
    exec (.feLatchExpiry l n) s = .next (s.onLane l fun x => x.setAxis n { x.axis n with latchDone := true }) := by
  obtain rfl : r.axis = n := by simpa using List.find?_some hr
  refine congrArg Host.Outcome.next ((State.onAxis_of_rec _ hr).trans (State.onLane_congr ?_))
  rw [LoopState.latchExpiry_of_ripe h]
  rfl

end

/-- An output that has been at its limit for a second raises LP-010 about its axis. -/
theorem exec_outLimitTimeout_of_ripe {s : State} {l : Lane} {n : Nat} (h : 8000 ≤ ((s.lane l).axis n).limitRun) :
    exec (.outLimitTimeout l n) s = .next (s.onLane l fun x => x.raise ⟨.lp, 10⟩ n 0) :=
  congrArg Host.Outcome.next (State.onLane_congr (if_pos h))

/-- Settles O46: each event that is ripe is an equation of the block; what a fault does to the axis is what a cause does that arises in its
state. That an event acts only once its time has passed is log entry 21. -/
theorem loopEvents : Obligations.LoopEvents := by
  refine fun s l n r hr hn => ⟨fun h => ?error, fun h => ?freeze, fun hc hl h0 => ?latch, exec_outLimitTimeout_of_ripe⟩
  case error =>
    obtain ⟨halarm, hother, hslot⟩ := State.onLane_setAxis_raise_spec hn (((s.lane l).axis n).errorFault r) ⟨.lp, 1⟩ n 0
    refine ⟨_, exec_followingErrorFault_of_ripe hr h, halarm, hother, ?_⟩
    rw [hslot]
    exact ⟨rfl, AxisSlot.trip_of_running 3, AxisSlot.trip_of_safe 3⟩
  case freeze =>
    obtain ⟨halarm, hother, hslot⟩ :=
      State.onLane_setAxis_raise_spec hn ((s.lane l).axis n).freezeFault ⟨.fb, 12⟩ r.channel 0
    refine ⟨_, exec_feedbackFreeze_of_ripe hr h, halarm, hother, ?_⟩
    rw [hslot]
    exact ⟨rfl, AxisSlot.trip_of_running 2, AxisSlot.trip_of_safe 2⟩
  case latch => exact exec_feLatchExpiry_of_ripe hr ⟨hc, hl, h0⟩

end Sys2Proof.Machine

namespace Sys2Proof.Machine

/-!
SUPPORT and settled obligation of the feedback interface (11 R329 to R349): its events (O48).
-/

namespace FbChan

variable {r : Fbch} {f : FbChan}

/-! ## Counting (11 R329 to R338) -/

/-- A step of the counter changes the count, the travel and the newest count change alone. -/
theorem step_changes (r : Fbch) (d : Int) (sample : Nat) (f : FbChan) :
    ∃ c v e n, f.step r d sample = { f with count := c, travel := v, edgeTravel := e, edgeSample := n } := by
  simp only [step]
  generalize (if r.flags.testBit 0 then -d else d) = e
  by_cases he : e = 0
  · exact ⟨_, _, _, _, if_pos he⟩
  · exact ⟨_, _, _, _, if_neg he⟩

/-- Without the inversion flag a difference is counted as it is. -/
theorem step_count (hi : r.flags.testBit 0 = false) {d : Int} (hd : d ≠ 0) (sample : Nat) :
    (f.step r d sample).count = reduceCount r.modulus (f.count + d) := by
  simp [step, hi, hd]

/-- The channel with its lines at new levels. -/
def wired (f : FbChan) (a b z ca cb cz : Bool) : FbChan :=
  { f with lineA := a, lineB := b, lineZ := z, compA := ca, compB := cb, compZ := cz }

/-- A step at new levels of the lines counts its difference and takes the levels. -/
theorem wired_step (hi : r.flags.testBit 0 = false) {d : Int} (hd : d ≠ 0) (sample : Nat) (a b z ca cb cz : Bool) :
    let g := (f.wired a b z ca cb cz).step r d sample
    g.lineA = a ∧ g.lineB = b ∧ g.lineZ = z ∧ g.count = reduceCount r.modulus (f.count + d) := by
  have hcount := step_count (f := f.wired a b z ca cb cz) hi hd sample
  obtain ⟨c, v, e, k, hstep⟩ := step_changes r d sample (f.wired a b z ca cb cz)
  rw [hstep] at hcount ⊢
  exact ⟨rfl, rfl, rfl, hcount⟩

/-- Quadrature: the difference of two filtered states in the Gray sequence is a step up, a step down, an illegal transition or
none. -/
theorem lines_quadrature (hm : r.mode = 2) (sample : Nat) (a b z ca cb cz : Bool) :
    f.lines r sample a b z ca cb cz =
      (let d := (grayIndex a b + 4 - grayIndex f.lineA f.lineB) % 4
       let g := f.wired a b z ca cb cz
       if d = 1 then g.step r 1 sample else if d = 3 then g.step r (-1) sample else if d = 2 then g.illegalAt sample else g) := by
  -- with the mode a numeral, the tests of the mode in `lines` compute
  obtain ⟨⟩ := r
  cases hm
  rfl

/-- A quadrature channel without inversion takes the lines and counts their difference (11 R329, R332). -/
theorem lines_quadrature_spec (hm : r.mode = 2) (hi : r.flags.testBit 0 = false) (sample : Nat) (a b z ca cb cz : Bool) :
    let g := f.lines r sample a b z ca cb cz
    let d := (grayIndex a b + 4 - grayIndex f.lineA f.lineB) % 4
    g.lineA = a ∧ g.lineB = b ∧ g.lineZ = z ∧
    (d = 0 → g.count = f.count) ∧ (d = 1 → g.count = reduceCount r.modulus (f.count + 1)) ∧
    (d = 3 → g.count = reduceCount r.modulus (f.count - 1)) ∧
    (d = 2 → g.count = f.count ∧ g.phaseErrors = satInc 16 f.phaseErrors ∧ g.illegalSeen = true) := by
  rw [lines_quadrature hm]
  have hlt : (grayIndex a b + 4 - grayIndex f.lineA f.lineB) % 4 < 4 := Nat.mod_lt _ (by decide)
  generalize (grayIndex a b + 4 - grayIndex f.lineA f.lineB) % 4 = d at hlt
  obtain rfl | rfl | rfl | rfl : d = 0 ∨ d = 1 ∨ d = 2 ∨ d = 3 := by omega
  case inl => exact ⟨rfl, rfl, rfl, fun _ => rfl, nofun, nofun, nofun⟩
  case inr.inl =>
    obtain ⟨ha, hb, hz, hcount⟩ := wired_step hi (d := 1) (by decide) sample a b z ca cb cz
    exact ⟨ha, hb, hz, nofun, fun _ => hcount, nofun, nofun⟩
  case inr.inr.inl => exact ⟨rfl, rfl, rfl, nofun, nofun, nofun, fun _ => ⟨rfl, rfl, rfl⟩⟩
  case inr.inr.inr =>
    obtain ⟨ha, hb, hz, hcount⟩ := wired_step hi (d := -1) (by decide) sample a b z ca cb cz
    exact ⟨ha, hb, hz, nofun, nofun, fun _ => hcount, nofun⟩

/-- A conversion is counted, its amplitude judged and its phase kept; the first one places the count (11 R331, R335). -/
theorem conversion_spec (r : Fbch) (f : FbChan) (sample : Nat) (sine cosine : Rat) :
    let g := f.conversion r sample sine cosine
    let amp := (sine * sine + cosine * cosine) / (25 / 100)
    g.conversions = f.conversions + 1 ∧ g.ampOut = decide (amp < 6 / 10 ∨ 13 / 10 ≤ amp) ∧
    g.ampRun = (if amp < 6 / 10 ∨ 13 / 10 ≤ amp then f.ampRun + 1 else 0) ∧ g.phase = wrap360 (atan2Q sine cosine) ∧
    (f.hasPhase = false → g.count = reduceCount r.modulus (wrap360 (atan2Q sine cosine) / 360 * (r.interp : Rat)).floor) := by
  dsimp only [conversion]
  generalize (sine * sine + cosine * cosine) / (25 / 100) = amp
  generalize wrap360 (atan2Q sine cosine) = phi
  rw [← Bool.decide_or]
  simp only [decide_eq_true_eq]
  cases hp : f.hasPhase with
  | false => exact ⟨rfl, rfl, rfl, rfl, fun _ => by simp [place]⟩
  | true =>
    rw [if_neg (by decide)]
    split
    · exact ⟨rfl, rfl, rfl, rfl, nofun⟩
    · obtain ⟨c, v, e, k, hstep⟩ := step_changes r _ sample _
      rw [hstep]
      exact ⟨rfl, rfl, rfl, rfl, nofun⟩

/-- A valid SSI frame is kept; the first one places the count, a later one counts its difference (11 R337, R338). -/
theorem ssi_valid {fr : SsiFrame} (hv : fr.valid r f.ssiRaw = true) (sample : Nat) :
    let g := f.ssi r sample fr
    g.ssiValid = true ∧ g.ssiRaw = some (fr.position r) ∧ g.ssiMissRun = 0 ∧ g.ssiTime = fr.time % 2 ^ 64 ∧
    (f.ssiRaw = none → g.count = reduceCount r.modulus (fr.position r)) ∧
    (∀ p, f.ssiRaw = some p → r.flags.testBit 0 = false → ssiDiff r.ssiBits (fr.position r) p ≠ 0 →
      g.count = reduceCount r.modulus (f.count + ssiDiff r.ssiBits (fr.position r) p)) := by
  rw [ssi, if_pos hv]
  refine ⟨rfl, rfl, rfl, rfl, fun hn => ?first, fun p hp hi hd => ?later⟩
  case first => simp only [hn, place]
  case later => simp only [hp, step_count hi hd]

/-- An SSI frame that is not valid counts against the channel (11 R337). -/
theorem ssi_invalid {fr : SsiFrame} (hv : fr.valid r f.ssiRaw = false) (sample : Nat) :
    f.ssi r sample fr = { f with ssiMissRun := f.ssiMissRun + 1, ssiValid := false, ssiInvalid := satInc 8 f.ssiInvalid } :=
  if_neg (by rw [hv]; exact nofun)

/-! ## Loss of a channel (11 R348, R349) -/

/-- The channel with its loss flag set, as a criterion, a count of losses and the state of its reference leave it. -/
def lost (f : FbChan) (crit losses : Nat) (ref rel : Bool) : FbChan :=
  { f with clearRun := 0, loss := true, criterion := crit, losses := losses, referenced := ref, relearn := rel }

/-- A loss sets the flag with its criterion where the channel had none, starts the run of clear_time anew, and may take the reference. -/
theorem lose_changes (r : Fbch) (k : Nat) (f : FbChan) :
    ∃ crit losses ref rel, (f.lose r k).1 = f.lost crit losses ref rel ∧ (f.loss = false → crit = k) := by
  cases h : f.loss with
  | true => exact ⟨f.criterion, f.losses, _, _, by simp only [lose, h, if_true]; rfl, nofun⟩
  | false => exact ⟨k, satInc 16 f.losses, _, _, by simp only [lose, h, Bool.false_eq_true, if_false]; rfl, fun _ => rfl⟩

/-- A loss raises FB-010 where the channel had none, and no other code. -/
theorem lose_leaves (r : Fbch) (k : Nat) (f : FbChan) (c : Code) (i : Nat) (b : Bool) :
    (f.lose r k).2.foldl (fun b op => op.leaves b c i) b =
      (b || (!f.loss && (decide ((⟨.fb, 10⟩ : Code) = c) && r.channel == i))) := by
  cases h : f.loss <;> simp [lose, h, AlarmOp.leaves]

/-- The loss of an SSI channel leaves its reference (11 R349). -/
theorem lose_ssi (hm : r.mode = 5) (hf : f.loss = false) (k : Nat) :
    f.lose r k = ({ f with clearRun := 0, loss := true, criterion := k, losses := satInc 16 f.losses }, [.raise ⟨.fb, 10⟩ r.channel k]) := by
  simp [lose, hm, hf]

/-- The fourth illegal transition within 1 024 samples loses the channel by criterion 6, with FB-004 (11 R332). -/
theorem illegalFault_of_four {a b c d : Nat} (h : f.illegal = [a, b, c, d]) (hd : a - d < 1024) :
    f.illegalFault r = ({ (f.lose r 6).1 with illegal := [] }, .raise ⟨.fb, 4⟩ r.channel 0 :: (f.lose r 6).2) := by
  simp only [illegalFault, h, if_pos hd]

/-- A pair A that has read alike for more than 3 samples loses the channel by criterion 2, which holds on (11 R334). -/
theorem wireDisagree_of_pairA {sample : Nat} (hm : r.mode = 4) (ha : f.alike.testBit 0 = true) (hd : f.alike.testBit 3 = false)
    (hs : nth 0 f.alikeSince 0 + 3 ≤ sample) : ∃ marks, f.wireDisagree r sample =
      (let g := (f.lose r 2).1
       ({ g with alike := g.alike + marks, disagrees := satInc 8 g.disagrees, holds := addCause g.holds 2 }, (f.lose r 2).2)) :=
  ⟨_, if_pos ⟨hm, by simp [ha, hd, hs]⟩⟩

/-- A supply at its limit for 10 ms is switched off and loses the channel by criterion 5, which holds on, with FB-020 (11 R339). -/
theorem supplyShort_of_ripe (ho : f.supplyOn = true) (h : 80 ≤ f.shortRun) :
    f.supplyShort r =
      ({ (f.lose r 5).1 with supplyOn := false, shortRun := 0, holds := addCause (f.lose r 5).1.holds 5 },
        .raise ⟨.fb, 20⟩ r.channel 0 :: (f.lose r 5).2) :=
  if_pos ⟨ho, h⟩

/-! ## Index (11 R344 to R346) -/

/-- The channel that has captured its count at an index event. -/
def captured (r : Fbch) (f : FbChan) : FbChan := { f with capture := f.count, disc := indexDisc r f.count, indexSeen := true }

/-- In index mode 1 every index event captures the count and sets it, whatever it does to the reference and to the loss. -/
theorem index_each (hm : r.indexMode = 1) :
    let g := (f.index r).1
    g.capture = f.count ∧ g.indexSeen = true ∧ g.disc = indexDisc r f.count ∧ g.count = reduceCount r.modulus r.indexValue := by
  simp only [index, hm, if_true]
  by_cases hfirst : f.referenced = false ∨ f.relearn = true
  · rw [if_pos hfirst]
    exact ⟨rfl, rfl, rfl, rfl⟩
  rw [if_neg hfirst]
  split
  · split
    case isTrue =>
      obtain ⟨crit, losses, ref, rel, hlose, -⟩ := lose_changes r 7 _
      rw [hlose]
      exact ⟨rfl, rfl, rfl, rfl⟩
    case isFalse => exact ⟨rfl, rfl, rfl, rfl⟩
  · exact ⟨rfl, rfl, rfl, rfl⟩

/-- In index mode 2 an armed channel takes its count from the index event, and is referenced and no longer armed. -/
theorem index_armed (hm : r.indexMode = 2) (ha : f.armed = true) :
    (f.index r).1 = { f.captured r with
      count := reduceCount r.modulus r.indexValue, referenced := true, armed := false, relearn := false } := by
  simp [index, hm, ha, captured]

/-- A channel that is not armed in index mode 2 captures its count alone. -/
theorem index_unarmed (hm : r.indexMode = 2) (ha : f.armed = false) : (f.index r).1 = f.captured r := by
  cases h : f.referenced <;> simp [index, hm, ha, h, captured]

/-- A channel of another index mode captures its count alone. -/
theorem index_other (h1 : r.indexMode ≠ 1) (h2 : r.indexMode ≠ 2) : (f.index r).1 = f.captured r := by
  simp [index, h1, h2, captured]

/-- An index event captures the count and its discrepancy, and sets the count as the index mode says. -/
theorem index_spec (r : Fbch) (f : FbChan) :
    let g := (f.index r).1
    g.capture = f.count ∧ g.indexSeen = true ∧ g.disc = indexDisc r f.count ∧
    (r.indexMode = 1 → g.count = reduceCount r.modulus r.indexValue) ∧
    (r.indexMode = 2 → f.armed = true →
      g.count = reduceCount r.modulus r.indexValue ∧ g.referenced = true ∧ g.armed = false) ∧
    (r.indexMode = 2 → f.armed = false → g.count = f.count) ∧ (r.indexMode = 0 → g.count = f.count) := by
  by_cases h1 : r.indexMode = 1
  · obtain ⟨hcapture, hseen, hdisc, hcount⟩ := index_each (f := f) h1
    rw [h1]
    exact ⟨hcapture, hseen, hdisc, fun _ => hcount, nofun, nofun, nofun⟩
  by_cases h2 : r.indexMode = 2
  · cases ha : f.armed with
    | true =>
      rw [index_armed h2 ha, h2]
      exact ⟨rfl, rfl, rfl, nofun, fun _ _ => ⟨rfl, rfl, rfl⟩, nofun, nofun⟩
    | false =>
      rw [index_unarmed h2 ha, h2]
      exact ⟨rfl, rfl, rfl, nofun, nofun, fun _ _ => rfl, nofun⟩
  · rw [index_other h1 h2]
    exact ⟨rfl, rfl, rfl, fun h => absurd h h1, fun h => absurd h h2, fun h => absurd h h2, fun _ => rfl⟩

end FbChan

/-! ## One channel of a lane -/

/-- A channel replaced by itself leaves the lane. -/
theorem LaneState.setChan_chan {x : LaneState} {n : Nat} (h : n < x.fb.chans.length) : x.setChan n (x.chan n) = x := by
  have hset : x.fb.chans.set n (x.chan n) = x.fb.chans := by simp [chan, nth, h]
  rw [setChan, hset]

/-- The event of a configured channel replaces that channel and raises its codes. -/
theorem LaneState.withFb_withChan {x : LaneState} {n : Nat} {r : Fbch} (hr : fbRec x.img.fbch n = some r)
    (q : Fbch → FbChan → FbChan × List AlarmOp) :
    x.withFb (x.fb.withChan x.img.fbch n q) = (x.setChan n (q r (x.chan n)).1).codes (q r (x.chan n)).2 := by
  rw [FbState.withChan_of_rec hr]
  rfl

section

variable {s : State} {l : Lane} {n : Nat} {r : Fbch} (hr : fbRec (s.lane l).img.fbch n = some r)
  {q : Fbch → FbChan → FbChan × List AlarmOp}
include hr

/-- The event of a configured channel, by what it makes of the lane. -/
theorem State.onChan_congr {g : LaneState → LaneState} {c : FbChan} {ops : List AlarmOp} (h : q r ((s.lane l).chan n) = (c, ops))
    (hg : ((s.lane l).setChan n c).codes ops = g (s.lane l)) : s.onChan l n q = s.onLane l g :=
  State.onLane_congr (by rw [LaneState.withFb_withChan hr, h, hg])

theorem State.onChan_chan (hn : n < (s.lane l).fb.chans.length) :
    ((s.onChan l n q).lane l).chan n = (q r ((s.lane l).chan n)).1 := by
  rw [State.onChan, State.lane_onLane, LaneState.withFb_withChan hr, LaneState.chan, LaneState.codes_fb]
  exact nth_set_self _ _ _ _ hn

/-- The codes of a lane after the event of a channel, LA-010 apart. -/
theorem State.onChan_hasAlarm {c : Code} {i : Nat} (hc : ¬tableFull c i) : hasAlarm ((s.onChan l n q).lane l).alarms c i =
    (q r ((s.lane l).chan n)).2.foldl (fun b op => op.leaves b c i) (hasAlarm (s.lane l).alarms c i) := by
  rw [State.onChan, State.lane_onLane, LaneState.withFb_withChan hr]
  exact LaneState.hasAlarm_codes _ _ _ _ hc

end

theorem State.onChan_other (s : State) (l : Lane) (n : Nat) (q : Fbch → FbChan → FbChan × List AlarmOp) :
    (s.onChan l n q).lane l.other = s.lane l.other := State.lane_onLane_other _ _ _

/-- Settles O48: each event is what its channel does with it; the faults share the loss of the channel. That the first SSI frame and the first
conversion place the count without the inversion flag is log entry 78, that a fault acts only once it has lasted log entry 21. -/
theorem feedbackEvents : Obligations.FeedbackEvents := by
  refine fun s l n r hr hn => ⟨?lines, ?conversion, ?ssi, ?ssiLoss, ?amplitude, ?illegal, ?wires, ?short, ?openLoad, ?retry, ?clear, ?held,
    ?index, ?latch⟩
  case lines =>
    intro sample a b z ca cb cz hm hi
    refine ⟨_, rfl, State.onChan_other _ _ _ _, ?_⟩
    rw [State.onChan_chan hr hn]
    exact FbChan.lines_quadrature_spec hm hi sample a b z ca cb cz
  case conversion =>
    intro sample sine cosine
    refine ⟨_, rfl, State.onChan_other _ _ _ _, ?_⟩
    rw [State.onChan_chan hr hn]
    exact FbChan.conversion_spec r _ sample sine cosine
  case ssi =>
    intro sample fr
    refine ⟨_, rfl, State.onChan_other _ _ _ _, ?_⟩
    rw [State.onChan_chan hr hn]
    exact ⟨fun hv => FbChan.ssi_valid hv sample, fun hv => FbChan.ssi_invalid hv sample⟩
  case ssiLoss =>
    intro hm hrun hl
    exact congrArg Host.Outcome.next (State.onChan_congr hr ((if_pos ⟨hm, hrun⟩).trans (FbChan.lose_ssi hm hl 3)) rfl)
  case amplitude =>
    intro hm hrun
    have hlost : ((s.lane l).chan n).amplitudeLoss r = ((s.lane l).chan n).lose r 1 := if_pos ⟨hm, hrun⟩
    obtain ⟨crit, losses, ref, rel, hlose, hcrit⟩ := FbChan.lose_changes r 1 ((s.lane l).chan n)
    refine ⟨_, rfl, ?_⟩
    rw [State.onChan_chan hr hn, State.onChan_hasAlarm hr (by simp [tableFull]), hlost, hlose, FbChan.lose_leaves]
    exact ⟨rfl, fun hl => ⟨hcrit hl, by simp [hl]⟩⟩
  case illegal =>
    intro a b c d hi hd
    obtain ⟨crit, losses, ref, rel, hlose, hcrit⟩ := FbChan.lose_changes r 6 ((s.lane l).chan n)
    refine ⟨_, rfl, ?_⟩
    rw [State.onChan_chan hr hn, State.onChan_hasAlarm hr (by simp [tableFull]), State.onChan_hasAlarm hr (by simp [tableFull]),
      FbChan.illegalFault_of_four hi hd, List.foldl_cons, List.foldl_cons, FbChan.lose_leaves, FbChan.lose_leaves, hlose]
    exact ⟨rfl, by simp [AlarmOp.leaves], rfl, fun hl => ⟨hcrit hl, by simp [hl]⟩⟩
  case wires =>
    intro sample hm ha hd hs
    obtain ⟨marks, hwires⟩ := FbChan.wireDisagree_of_pairA hm ha hd hs
    obtain ⟨crit, losses, ref, rel, hlose, hcrit⟩ := FbChan.lose_changes r 2 ((s.lane l).chan n)
    refine ⟨_, rfl, ?_⟩
    rw [State.onChan_chan hr hn, hwires, hlose]
    exact ⟨rfl, hasCause_addCause_self _ 2, rfl, hcrit⟩
  case short =>
    intro ho hrun
    obtain ⟨crit, losses, ref, rel, hlose, hcrit⟩ := FbChan.lose_changes r 5 ((s.lane l).chan n)
    refine ⟨_, rfl, ?_⟩
    rw [State.onChan_chan hr hn, State.onChan_hasAlarm hr (by simp [tableFull]), FbChan.supplyShort_of_ripe ho hrun, List.foldl_cons,
      FbChan.lose_leaves, hlose]
    exact ⟨rfl, rfl, hasCause_addCause_self _ 5, by simp [AlarmOp.leaves], hcrit⟩
  case openLoad =>
    intro hc hrun
    have hlost : ((s.lane l).chan n).supplyOpen r = ((s.lane l).chan n).lose r 4 := if_pos ⟨hc, hrun⟩
    obtain ⟨crit, losses, ref, rel, hlose, hcrit⟩ := FbChan.lose_changes r 4 ((s.lane l).chan n)
    refine ⟨_, rfl, ?_⟩
    rw [State.onChan_chan hr hn, hlost, hlose]
    exact ⟨rfl, rfl, hcrit⟩
  case retry => exact fun hh => congrArg Host.Outcome.next (State.onChan_congr hr (if_pos hh) rfl)
  case clear => exact fun hl hrun href => congrArg Host.Outcome.next (State.onChan_congr hr (if_pos ⟨hl, hrun, href⟩) rfl)
  case held =>
    intro hf href
    have hkept : ((s.lane l).chan n).lossClear r = ((s.lane l).chan n, []) := if_neg (by simp [hf, href])
    exact congrArg Host.Outcome.next ((State.onChan_congr (g := id) hr hkept (LaneState.setChan_chan hn)).trans (State.onLane_id rfl))
  case index =>
    obtain ⟨hcapture, hseen, hdisc, heach, harmed, hunarmed, hnone⟩ := FbChan.index_spec r ((s.lane l).chan n)
    refine ⟨_, rfl, ?_⟩
    rw [State.onChan_chan hr hn]
    exact ⟨hcapture, hseen, hdisc, fun hm _ => heach hm, harmed, hunarmed, hnone⟩
  case latch => exact congrArg Host.Outcome.next (State.onChan_congr hr rfl rfl)

end Sys2Proof.Machine

namespace Sys2Proof.Machine

/-!
SUPPORT and settled obligation of the installer's commands on channels, coefficient sets, outputs, pulses and the panel (O42).
-/

/-- The lane in which a reply waits and a change stands in the ledger. -/
def LaneState.answered (x : LaneState) (ses : SessionState) (g : LedgerState) : LaneState := { x with ses := ses, ledger := g }

section

variable {s u : State} {l : Lane} {m : Msg} {object right role : Nat} {change : Option (Bytes × Option Bytes)}
  (hu : s.accepts l m object right role change u)
include hu

/-- Acceptance changes the sessions and the ledger of its lane. -/
theorem State.accepts_answered : ∃ ses g, u.lane l = (s.lane l).answered ses g := by
  obtain ⟨ses, g, rfl⟩ := State.accepts_eq hu
  exact ⟨ses, g, State.lane_setLane _ _ _⟩

/-- Acceptance leaves the other lane and the panel. -/
theorem State.accepts_beside : u.lane l.other = s.lane l.other ∧ u.canvas = s.canvas := by
  obtain ⟨ses, g, rfl⟩ := State.accepts_eq hu
  exact ⟨State.lane_setLane_other _ _ _, State.setLane_canvas _ _ _⟩

end

/-- An accepted command that acts on its lane acts on the state in which the reply waits; its effect may be read off the lane with any
sessions and any ledger. -/
theorem State.command_onLane {s u : State} {l : Lane} {m : Msg} {a : Ask} {change : Option (Bytes × Option Bytes)}
    {e f : LaneState → LaneState} (hu : s.accepts l m a.object a.right a.role change u)
    (hc : change = if a.ledger then some (a.old, a.new) else none) (hn : a.refuse = none)
    (he : ∀ ses g, e ((s.lane l).answered ses g) = f ((s.lane l).answered ses g)) :
    s.command l m a (fun t => t.onLane l e) = u.onLane l f := by
  rw [State.command_accepts hu hc hn]
  obtain ⟨ses, g, hlane⟩ := State.accepts_answered hu
  exact State.onLane_congr (by rw [hlane, he])

/-! ## Refusals (11 R346, R352; 14 R419; 15 R450) -/

/-- A channel with an entry below the fitted count may be named. -/
theorem State.channelRefused_of_rec {s : State} {l : Lane} {n : Nat} {r : Fbch} (hr : fbRec (s.lane l).img.fbch n = some r)
    (hn : n < s.variant.channels) : s.channelRefused l n = none :=
  if_neg (by simp [hr, hn])

/-- A reset-once channel may be armed while the Muslin link stands. -/
theorem State.armRefused_of_once {s : State} {l : Lane} {n : Nat} {r : Fbch} (hr : fbRec (s.lane l).img.fbch n = some r)
    (hn : n < s.variant.channels) (hm : r.indexMode = 2) (hl : (s.lane l).muslinFailed = false) : s.armRefused l n = none := by
  simp [State.armRefused, State.channelRefused_of_rec hr hn, hr, hm, hl]

/-- A set that passes its check may be loaded into a slot of the installer that no running channel uses. -/
theorem LaneState.loadRefused_of_free {x : LaneState} {slot len : Nat} {taps : List Int} (h4 : 4 ≤ slot) (h7 : slot ≤ 7)
    (hok : coeffOk len taps = true) (hfree : ∀ a ∈ x.analog.chans, a.running = true → a.set ≠ slot) : x.loadRefused slot len taps = none := by
  have huse : (x.analog.chans.any fun a => a.running && a.set == slot) = false := by simpa using hfree
  simp [loadRefused, h4, h7, hok, huse]

/-- time.pulse takes a single or a periodic pulse. -/
theorem LaneState.mode_of_pulseRefused {x : LaneState} {l : Lane} {output : Nat} {p : PulseIn} (h : x.pulseRefused l output p = none) :
    p.mode = 1 ∨ p.mode = 2 := by
  by_contra hm
  rw [pulseRefused, if_pos (.inr (.inl hm))] at h
  cases h

/-! ## Effects on a part of the lane -/

namespace LaneState

variable {x : LaneState} {n : Nat}

/-- An unarmed reset-once channel arms at the next tick (11 R346). -/
theorem armChannel_of_once {r : Fbch} (hr : fbRec x.img.fbch n = some r) (hm : r.indexMode = 2)
    (ha : (nth default x.fb.chans n).armed = false) :
    x.armChannel n = { x with fb := { x.fb with chans := x.fb.chans.set n { nth default x.fb.chans n with armNext := true } } } := by
  rw [armChannel, FbState.withChan_of_rec hr, if_pos ⟨hm, ha⟩]
  rfl

/-- A stop or a start waits in its channel (14 R418). -/
theorem queueChannel_of_rec {r : Anin} (hr : aninOf x.img.anin n = some r) (start alt : Bool) :
    x.queueChannel n start alt =
      { x with analog := { x.analog with chans := x.analog.chans.set n { nth default x.analog.chans n with next := some (start, alt) } } } := by
  simp only [queueChannel, AnalogState.withChan, hr]
  rfl

/-- A change of a configured output is a change of its entry and its codes. -/
theorem withOut_of_rec {r : Anou} (hr : anouOf x.img.anou n = some r) (f : Anou → AnOut → AnOut × List AlarmOp) :
    x.withOut n f =
      ({ x with analog := { x.analog with outs := x.analog.outs.set n (f r (nth default x.analog.outs n)).1 } } : LaneState).codes
        (f r (nth default x.analog.outs n)).2 := by
  simp only [withOut, hr]
  rfl

/-- An event of a pulse generator replaces that generator alone. -/
theorem onPulse_pulses (f : PulseGen → PulseGen × List AlarmOp) :
    (x.onPulse n f).pulses = x.pulses.set n (f (nth default x.pulses n)).1 := codes_pulses _ _

end LaneState

/-! ## A pulse generator takes its settings (15 R450, R451) -/

/-- A single pulse that starts at least 1 µs ahead and a periodic one run with the settings taken. -/
theorem PulseGen.load_runs (g : PulseGen) {mode start now : Nat} (period width : Nat) (hm : mode = 1 ∨ mode = 2)
    (hs : mode = 1 → now + 1000 ≤ start) :
    let h := (g.load mode start period width now).1
    h.running = true ∧ h.actMode = mode ∧ h.actStart = start ∧ h.actPeriod = period ∧ h.actWidth = width ∧ h.fired = false := by
  have h0 : mode ≠ 0 := by omega
  have h3 : mode ≠ 3 := by omega
  have hlate : ¬(mode = 1 ∧ start < now + 1000) := by omega
  simp only [load, if_neg h0, if_neg h3, if_neg hlate, and_self]

/-- The arm of a generator whose output is low takes the settings written at once. -/
theorem PulseGen.arm_of_low {g : PulseGen} (h : g.high = false) (now : Nat) :
    g.arm now = g.load g.mode (g.startS * 1000000000 + g.startNs) g.period g.width now :=
  if_neg (by rw [h]; exact nofun)

/-- The generator with the settings of a time.pulse written (15 R462). -/
def PulseGen.written (g : PulseGen) (p : PulseIn) : PulseGen :=
  { g with mode := p.mode, startS := p.startS, startNs := p.startNs, period := p.period, width := p.width }

/-- The settings written by a time.pulse are in force once it is armed. -/
theorem PulseGen.written_arm_runs {g : PulseGen} {p : PulseIn} {now : Nat} (hg : g.high = false) (hm : p.mode = 1 ∨ p.mode = 2)
    (hs : p.mode = 1 → now + 1000 ≤ p.startS * 1000000000 + p.startNs) :
    let h := ((g.written p).arm now).1
    h.running = true ∧ h.actMode = p.mode ∧ h.actStart = p.startS * 1000000000 + p.startNs ∧ h.actPeriod = p.period ∧
    h.actWidth = p.width ∧ h.fired = false := by
  rw [arm_of_low (g := g.written p) hg]
  exact load_runs _ _ _ hm hs

/-- A time.pulse that is not refused writes and arms its generator on the state in which the reply waits. -/
theorem exec_timePulse_of_accepted {s u : State} {l : Lane} {m : Msg} {output : Nat} {p : PulseIn}
    (href : (s.lane l).pulseRefused l output p = none)
    (hu : s.accepts l m 0x6020 0x400 2 (some (leBytes 1 output ++ leBytes 1 (nth default (s.lane l).pulses (output % 2)).actMode ++
      leBytes 8 (nth default (s.lane l).pulses (output % 2)).actStart, none)) u) :
    exec (.timePulse l m output p) s =
      .next (u.onLane l fun y => y.onPulse (output % 2) fun g => (g.written p).arm y.nowNs) :=
  congrArg Host.Outcome.next (State.command_accepts hu rfl href)

/-- Settles O42: each command is accepted, and its effect runs on the state in which the reply waits. That a coefficient set is loaded whole
or not at all is log entry 81. -/
theorem commissioningCommands : Obligations.CommissioningCommands := by
  refine fun s u l m => ⟨?arm, ?clear, ?channel, ?coefficients, ?output, ?pulse, ?restart⟩
  case arm =>
    intro n r hr hn hm hl ha hu
    exact congrArg Host.Outcome.next (State.command_onLane hu rfl (State.armRefused_of_once hr hn hm hl)
      fun ses g => LaneState.armChannel_of_once (x := (s.lane l).answered ses g) hr hm ha)
  case clear =>
    intro n r hr hn hu
    exact congrArg Host.Outcome.next (State.command_onLane hu rfl (State.channelRefused_of_rec hr hn) fun ses g =>
      LaneState.withFb_withChan (x := (s.lane l).answered ses g) hr _)
  case channel =>
    intro n r start alt hr hl hs hu
    have hopen : ¬(start && startRefused r (s.lane l).attic.coeffs alt) = true := by simpa using hs
    refine congrArg Host.Outcome.next (State.command_onLane hu rfl ?_ fun ses g =>
      LaneState.queueChannel_of_rec (x := (s.lane l).answered ses g) hr start alt)
    simp only [askInstaller, hr, hl, if_neg hopen]
    rfl
  case coefficients =>
    intro slot len design taps h4 h7 hok hfree hu
    exact congrArg Host.Outcome.next (State.command_onLane hu rfl (LaneState.loadRefused_of_free h4 h7 hok hfree) fun _ _ => rfl)
  case output =>
    intro n r value hr hs hu
    refine congrArg Host.Outcome.next (State.command_onLane hu rfl ?_ fun ses g =>
      LaneState.withOut_of_rec (x := (s.lane l).answered ses g) hr _)
    simp only [askInstaller, hr, if_pos hs]
  case pulse =>
    intro output p href hlow hlen hs hu
    obtain ⟨ses, g, hlane⟩ := State.accepts_answered hu
    refine ⟨_, exec_timePulse_of_accepted href hu, ?_⟩
    rw [State.lane_onLane, State.lane_onLane_other, LaneState.onPulse_pulses, hlane, (State.accepts_beside hu).1]
    have hlt : output % 2 < ((s.lane l).answered ses g).pulses.length := hlen.symm ▸ Nat.mod_lt _ (by decide)
    rw [nth_set_self _ _ _ _ hlt, nth_set_ne _ _ _ _ _ (by omega)]
    exact ⟨PulseGen.written_arm_runs hlow (LaneState.mode_of_pulseRefused href) hs, rfl, rfl⟩
  case restart =>
    intro hu
    refine ⟨_, congrArg Host.Outcome.next (State.command_accepts hu rfl rfl), rfl, rfl, rfl, ?_, ?_, rfl, rfl⟩ <;>
      (rw [← (State.accepts_beside hu).2]; rfl)

end Sys2Proof.Machine
